-- ==== Sys2Proof/Word.lean ====
section
/-!
DEFINITION. The word and byte types of the interface (00_scope R4).
-/
namespace Sys2Proof

/-- A 32-bit word of a command, a reply or a register. -/
abbrev Word := BitVec 32

/-- A byte. -/
abbrev Byte := BitVec 8

/-- A string of bytes, first byte at the lowest address. -/
abbrev Bytes := List Byte

end Sys2Proof
end

