-- ==== Sys2Proof/Syntax.lean ====
section
/-!
DEFINITION. The commands the block takes: the host commands of the manual's opcode map, each with its packet, and the register accesses, bus operations, pin events, frames, messages and internal occurrences of the table, each with what it brings from outside.
-/
namespace Sys2Proof

/-- The way a command packet comes in (04 R81, 03 R77): a command ring, or the SMBus tunnel. -/
inductive Path
  /-- Command ring r, 0 to 3. -/
  | ring (r : Nat)
  /-- The SMBus tunnel. -/
  | tunnel
deriving DecidableEq, Repr

/-- A command packet after its opcode (04 R83). -/
structure Packet where
  /-- The way it comes in. -/
  path : Path
  /-- Header byte 2: REPLY_ALWAYS, IN_BATCH, FENCE, LATE_OK, four reserved bits. -/
  flags : BitVec 8
  /-- Header byte 3. -/
  format : BitVec 8
  /-- Header bytes 4 and 5: the tag and four reserved bits. -/
  tag : BitVec 16
  /-- param_length. -/
  plen : BitVec 16
  /-- object_id. -/
  objectId : Word
  /-- vintage_handle. -/
  handle : Word
  /-- The parameter words. -/
  params : List Word
deriving DecidableEq, Repr

/-- What stands at one command ring's engine index in host memory (04 R79, R80). -/
structure RingHead where
  /-- The ring, 0 to 3. -/
  ring : Nat
  /-- The bytes from the slot of its engine index on, slot after slot as the ring goes round. -/
  bytes : Bytes
deriving DecidableEq, Repr

/-- A DIMM as its SPD hub describes it (20 R514, R519). -/
structure DimmInfo where
  /-- Ranks. -/
  ranks : Nat
  /-- Device width in bits. -/
  width : Nat
  /-- An RDIMM of 16 Gb devices at 6,400 MT/s. -/
  supported : Bool
deriving DecidableEq, Repr

/-- The commands of the block: one constructor per row of the table. A host command carries its packet; an event row carries what the event brings from outside. -/
inductive Instr
  /-- NOP (R101). Command that does nothing and completes with OK; with FENCE and REPLY_ALWAYS it confirms that every earlier command has completed. -/
  | nop (c : Packet)
  /-- SYNC_SUMMARY (R107). Command that latches and returns the full 2,044-word or reduced 30-word state summary without waiting for other commands. -/
  | syncSummary (c : Packet)
  /-- DEVICE_IDENTITY (R111). Command that returns part, serial, identity public key and an ECDSA signature over the host nonce. -/
  | deviceIdentity (c : Packet)
  /-- MODE_SET (R32). Command that requests a mode transition allowed by R25, possibly replying PENDING. -/
  | modeSet (c : Packet)
  /-- CFG_BATCH_BEGIN (R106). Command that opens the single configuration batch. -/
  | cfgBatchBegin (c : Packet)
  /-- CFG_BATCH_END (R106). Command that discards, or checks and applies in one step, every staged batch command. -/
  | cfgBatchEnd (c : Packet)
  /-- KWK_ESTABLISH (R113). Command that derives a new key-wrap key by ECDH and HKDF and returns a confirm value, acting as if fenced. -/
  | kwkEstablish (c : Packet)
  /-- PORT_LAYOUT_SET (R430). Restructuring command that sets a port group's layout, takes its ports down and resets their settings and shares. -/
  | portLayoutSet (c : Packet)
  /-- PORT_SET (R431). Command that sets a MAC port's enable, side, flow control, storm guard, FEC, training, max_frame and pause_sa. -/
  | portSet (c : Packet)
  /-- PORT_STATUS (R454). Command that returns a MAC port's state and counts. -/
  | portStatus (c : Packet)
  /-- LB_PORT_SET (R124). Command that sets a port's landing-buffer share, common limit, thresholds and flow-control mode. -/
  | lbPortSet (c : Packet)
  /-- LB_STATUS (R125). Command that returns a group's landing-buffer occupancy and counts and clears the peaks and counts it reports. -/
  | lbStatus (c : Packet)
  /-- PARSE_INFO (R163). Command that returns the parse result counts of this boot. -/
  | parseInfo (c : Packet)
  /-- PARSE_STATE_SET (R161). Staged command that writes one parse-graph state entry into the open vintage. -/
  | parseStateSet (c : Packet)
  /-- PARSE_TRANS_SET (R161). Staged command that writes one parse-graph transition entry into the open vintage. -/
  | parseTransSet (c : Packet)
  /-- PARSE_EXCEPT_SET (R150). Staged command that writes the parse exception table into the open vintage. -/
  | parseExceptSet (c : Packet)
  /-- PARSE_DEFAULT_LOAD (R147). Staged command that stages the shipped default graph, using 1,280 staging-log operations. -/
  | parseDefaultLoad (c : Packet)
  /-- PARSE_READ (R163). Command that returns a state, transition or exception table as it stands in a live epoch. -/
  | parseRead (c : Packet)
  /-- FRAG_CONFIG (R164). Batchable command that sets hold_timeout, the orphan action and queue, and frag_enable. -/
  | fragConfig (c : Packet)
  /-- FRAG_STATUS (R165). Command that returns fragment table use and counts and clears the peak held. -/
  | fragStatus (c : Packet)
  /-- EM_TABLE_DEFINE (R188). Staged command that defines or removes an exact-match table with its geometry, seeds and key segments. -/
  | emTableDefine (c : Packet)
  /-- EM_INSERT (R190). Staged command that places a new exact-match entry born in N, using cuckoo displacement if needed. -/
  | emInsert (c : Packet)
  /-- EM_MODIFY (R178). Staged command that writes a new entry born in N and gives the old entry death N, or rewrites an entry born in N. -/
  | emModify (c : Packet)
  /-- EM_DELETE (R190). Staged command that gives an entry death N, or clears an entry born in N. -/
  | emDelete (c : Packet)
  /-- EM_SEARCH (R191). Command that looks up a key in a table in a chosen live epoch. -/
  | emSearch (c : Packet)
  /-- EM_READ (R191). Command that returns a raw flow-pool slot and its owning table. -/
  | emRead (c : Packet)
  /-- EM_STATUS (R192). Command that returns a table's counts and clears its lookup and hit counts. -/
  | emStatus (c : Packet)
  /-- PFX_REALM_DEFINE (R193). Staged command that defines or removes a route realm with its unit cap. -/
  | pfxRealmDefine (c : Packet)
  /-- PFX_ADD (R194). Staged command that adds a prefix born in N to a realm. -/
  | pfxAdd (c : Packet)
  /-- PFX_MODIFY (R194). Staged command that replaces a prefix's action as of epoch N. -/
  | pfxModify (c : Packet)
  /-- PFX_DELETE (R194). Staged command that deletes a prefix as of epoch N. -/
  | pfxDelete (c : Packet)
  /-- PFX_SEARCH (R195). Command that searches a realm by longest or exact match in a chosen epoch. -/
  | pfxSearch (c : Packet)
  /-- PFX_STATUS (R196). Command that returns a realm's use and clears its lookup and hit counts. -/
  | pfxStatus (c : Packet)
  /-- LOOKUP_PROFILE_SET (R197). Staged command that sets the searches of one lookup profile. -/
  | lookupProfileSet (c : Packet)
  /-- LOOKUP_MAP_SET (R197). Staged command that sets the 128-entry profile map. -/
  | lookupMapSet (c : Packet)
  /-- TCAM_BANK_WIDTH (R221). Restructuring command that sets a TCAM bank's entry width. -/
  | tcamBankWidth (c : Packet)
  /-- TCAM_GROUP_DEFINE (R222). Staged command that defines or removes a TCAM search group with banks, priorities, mode and key segments. -/
  | tcamGroupDefine (c : Packet)
  /-- TCAM_PROFILE_SET (R223). Staged command that sets a profile's TCAM group enables. -/
  | tcamProfileSet (c : Packet)
  /-- TCAM_INSERT (R224). Staged command that writes a TCAM entry born in N through the staging buffer into both replicas and the shadow. -/
  | tcamInsert (c : Packet)
  /-- TCAM_DELETE (R205). Staged command that gives a TCAM entry death N, or clears an entry born in N. -/
  | tcamDelete (c : Packet)
  /-- TCAM_READ (R225). Command that returns a TCAM entry from the shadow with replica comparison status. -/
  | tcamRead (c : Packet)
  /-- TCAM_SEARCH (R226). Command that searches a group through both maintenance ports and reports verified matches. -/
  | tcamSearch (c : Packet)
  /-- TCAM_STATUS (R227). Command that returns group or device TCAM counts, clearing the group search and hit counts. -/
  | tcamStatus (c : Packet)
  /-- VINT_OPEN (R249). Command that opens a vintage and returns its handle, replying PENDING when no log region is free. -/
  | vintOpen (c : Packet)
  /-- VINT_STAGE (R250). Command that executes a packed sequence of staged commands, undoing them all if one fails. -/
  | vintStage (c : Packet)
  /-- VINT_COMMIT (R237). Command that checks the open vintage, reserves a slot, loads arrays and commits it, possibly waiting for a slot or the twin. -/
  | vintCommit (c : Packet)
  /-- VINT_ABORT (R253). Command that undoes an open, waiting or prepared vintage. -/
  | vintAbort (c : Packet)
  /-- VINT_STATUS (R254). Command that describes a vintage, the slots and their holder counts. -/
  | vintStatus (c : Packet)
  /-- VINT_COMMIT_AT (R240). Command that checks and prepares the open vintage and arms its commit cycle at a line-time instant. -/
  | vintCommitAt (c : Packet)
  /-- ACT_WRITE (R260). Staged command that writes an action entry born in N into a free index. -/
  | actWrite (c : Packet)
  /-- ACT_DELETE (R278). Staged command that deletes an action entry as of epoch N. -/
  | actDelete (c : Packet)
  /-- ACT_READ (R278). Command that returns a raw action, template, next hop or mirror session record. -/
  | actRead (c : Packet)
  /-- TEMPLATE_WRITE (R277). Staged command that writes a rewrite template born in N. -/
  | templateWrite (c : Packet)
  /-- TEMPLATE_DELETE (R278). Staged command that deletes a rewrite template as of epoch N. -/
  | templateDelete (c : Packet)
  /-- NEXTHOP_WRITE (R277). Staged command that writes a next-hop entry born in N. -/
  | nexthopWrite (c : Packet)
  /-- NEXTHOP_DELETE (R278). Staged command that deletes a next-hop entry as of epoch N. -/
  | nexthopDelete (c : Packet)
  /-- MIRROR_SESSION_SET (R270). Staged command that writes a mirror session into a free record position. -/
  | mirrorSessionSet (c : Packet)
  /-- BYPASS_CLASS_SET (R271). Staged command that sets the TCAM groups forming the bypass class. -/
  | bypassClassSet (c : Packet)
  /-- METER_PROFILE_SET (R266). Batchable command that sets a meter profile's algorithm, rates, bursts and colour actions. -/
  | meterProfileSet (c : Packet)
  /-- METER_SET (R279). Batchable command that sets a meter's profile and enable and may refill its buckets. -/
  | meterSet (c : Packet)
  /-- METER_READ (R277). Command that returns a meter's state. -/
  | meterRead (c : Packet)
  /-- ACTION_CONFIG (R280). Batchable command that sets ttl_to_host, bypass_strict and host_queue. -/
  | actionConfig (c : Packet)
  /-- ACT_STATUS (R280). Command that returns rewrite, mirror, bypass and meter-colour counts. -/
  | actStatus (c : Packet)
  /-- REASON_COUNTS (R280). Command that returns the per-reason drop or to-host counts. -/
  | reasonCounts (c : Packet)
  /-- SA_INSTALL (R291). Command that unwraps a key and installs an SA context, resident or sealed to DDR5, in one final write. -/
  | saInstall (c : Packet)
  /-- SA_RETIRE (R307). Command that stops new references to an SA and, once its refs reach zero, zeroizes and frees it. -/
  | saRetire (c : Packet)
  /-- SA_SWITCH (R306). Command that repoints or unbinds an outbound SA binding, freezing the old SA. -/
  | saSwitch (c : Packet)
  /-- SA_READ (R317). Command that returns an SA context without key material, verifying a spilled record. -/
  | saRead (c : Packet)
  /-- SA_SPILL_POLICY (R311). Command that sets the device spill policy or pins or unpins one SA. -/
  | saSpillPolicy (c : Packet)
  /-- CIPHER_PORT_SET (R318). Command that sets which protections a cipher-side port accepts and whether unprotected frames land. -/
  | cipherPortSet (c : Packet)
  /-- BINDING_READ (R317). Command that returns a binding entry. -/
  | bindingRead (c : Packet)
  /-- CIPHER_STATUS (R319). Command that returns cipher counts for a group or the device. -/
  | cipherStatus (c : Packet)
  /-- CORE_XP_SET (R342). Command that sets a crosspoint's reserved minimum and shared limit. -/
  | coreXpSet (c : Packet)
  /-- CORE_COLUMN_SET (R342). Command that sets a column's sharing factor and, for column 9, hold_units. -/
  | coreColumnSet (c : Packet)
  /-- CORE_XP_STATUS (R344). Command that returns a crosspoint's use and counts, clearing the marked words. -/
  | coreXpStatus (c : Packet)
  /-- CORE_COLUMN_STATUS (R344). Command that returns a column's use and counts, clearing the marked words. -/
  | coreColumnStatus (c : Packet)
  /-- CORE_PORT_FLUSH (R343). Command that puts a scheduler port into FLUSH and completes when it is ENABLED again or fully flushed. -/
  | corePortFlush (c : Packet)
  /-- CORE_PORT_STATUS (R344). Command that returns a port's egress state and port-down discards. -/
  | corePortStatus (c : Packet)
  /-- POOL_CARVE (R363). Command that moves a column's pool boundaries as segments become free, replying PENDING. -/
  | poolCarve (c : Packet)
  /-- POOL_COLUMN_SET (R364). Command that sets a column's POOL_FALLBACK. -/
  | poolColumnSet (c : Packet)
  /-- POOL_MODE_SET (R364). Restructuring command that enters or leaves GX-480 compatibility mode. -/
  | poolModeSet (c : Packet)
  /-- POOL_QUOTA_SET (R365). Command that sets a crosspoint's per-pool quotas in compatibility mode. -/
  | poolQuotaSet (c : Packet)
  /-- POOL_STATUS (R366). Command that returns a column's pool state and counts, clearing the lowest free count. -/
  | poolStatus (c : Packet)
  /-- POOL_BUFFER_READ (R367). Command that returns a buffer header and its free-list link. -/
  | poolBufferRead (c : Packet)
  /-- POOL_QUARANTINE_RELEASE (R367). Command that returns every quarantined buffer of a column with refcount zero to service. -/
  | poolQuarantineRelease (c : Packet)
  /-- SCHED_PORT_SET (R389). Command that sets a port node's strict-priority mask, class quanta, charge_adjust and shaper. -/
  | schedPortSet (c : Packet)
  /-- SCHED_GROUP_SET (R390). Command that enables, attaches and configures a scheduler group. -/
  | schedGroupSet (c : Packet)
  /-- SCHED_QUEUE_SET (R391). Command that enables, attaches and configures a flow queue and its sampling. -/
  | schedQueueSet (c : Packet)
  /-- SCHED_PORT_STATUS (R393). Command that returns a port node's scheduler state. -/
  | schedPortStatus (c : Packet)
  /-- SCHED_GROUP_STATUS (R393). Command that returns a group's scheduler state. -/
  | schedGroupStatus (c : Packet)
  /-- SCHED_QUEUE_STATUS (R393). Command that returns a flow queue's scheduler state. -/
  | schedQueueStatus (c : Packet)
  /-- SCHED_QUEUE_STATS (R383). Command that returns and clears a queue's running depth and sojourn values. -/
  | schedQueueStats (c : Packet)
  /-- SCHED_STATUS (R393). Command that returns device scheduler counts and sample ring state. -/
  | schedStatus (c : Packet)
  /-- SCHED_SAMPLE_RING_SET (R394). Command that places and enables or disables the DDR5 sample ring. -/
  | schedSampleRingSet (c : Packet)
  /-- SCHED_SAMPLE_READ (R395). Command that returns sample records from the ring by sequence. -/
  | schedSampleRead (c : Packet)
  /-- TIME_SET (R418). Command that steps record time once per boot and sets its rate or line-following. -/
  | timeSet (c : Packet)
  /-- TIME_GET (R419). Command that latches and returns all four clocks and servo state in one tick. -/
  | timeGet (c : Packet)
  /-- TIME_SELECT (R406). Command that chooses line time's source, setting it in one tick the first time and slewing later. -/
  | timeSelect (c : Packet)
  /-- PTP_DOMAIN_SET (R421). Command that configures or disables a PTP domain and its servo. -/
  | ptpDomainSet (c : Packet)
  /-- PTP_PORT_SET (R422). Command that designates a port for PTP and sets one-step and stamp adjustments. -/
  | ptpPortSet (c : Packet)
  /-- PTP_STATUS (R423). Command that returns a domain's offset, delay, adjustment and counts. -/
  | ptpStatus (c : Packet)
  /-- PTP_TS_READ (R424). Command that removes and returns a port's egress stamp FIFO entries. -/
  | ptpTsRead (c : Packet)
  /-- PULSE_SET (R425). Command that programs a PPS_OUT output as off, once or periodic. -/
  | pulseSet (c : Packet)
  /-- CAPTURE_READ (R424). Command that removes and returns a PPS_IN input's captures. -/
  | captureRead (c : Packet)
  /-- GATE_LIST_SET (R412). Command that makes a list the administrative gate list of a port, or removes both lists. -/
  | gateListSet (c : Packet)
  /-- GATE_LIST_READ (R427). Command that returns a port's gate state and a list, clearing the deferred-selection count. -/
  | gateListRead (c : Packet)
  /-- HTX_RING_SET (R453). Command that configures, enables or disables a host transmit ring. -/
  | htxRingSet (c : Packet)
  /-- HRX_RING_SET (R453). Command that configures, enables or disables a host receive ring. -/
  | hrxRingSet (c : Packet)
  /-- SEG_PROFILE_SET (R447). Command that sets a segmentation profile. -/
  | segProfileSet (c : Packet)
  /-- HRING_STATUS (R454). Command that returns a host traffic ring's state and counts. -/
  | hringStatus (c : Packet)
  /-- TWIN_CONFIG (R479). Command that enables twin operation, hairpin and sets the mirror stride. -/
  | twinConfig (c : Packet)
  /-- TWIN_ENROL (R480). Command that stores the partner's fingerprint in the cellar and moves from STRANGER to PAIRED. -/
  | twinEnrol (c : Packet)
  /-- TWIN_TAKEOVER (R481). Command that makes a standby take over or ask the partner for a handover. -/
  | twinTakeover (c : Packet)
  /-- TWIN_STATUS (R482). Command that returns twin state, round trip and counts. -/
  | twinStatus (c : Packet)
  /-- TWIN_LOCK (R483). Command that acquires or releases a lock of the partner's cellar as master 3. -/
  | twinLock (c : Packet)
  /-- POWER_POLICY_SET (R512). Command that sets the power policy's enable, latency bound, slice floor and deep mask. -/
  | powerPolicySet (c : Packet)
  /-- POWER_STATUS (R513). Command that returns domain states and power-policy counts. -/
  | powerStatus (c : Packet)
  /-- SLICE_RETIRE (R136). Command that retires a slice to RETIRED_HOST and completes when it is empty. -/
  | sliceRetire (c : Packet)
  /-- SLICE_ADMIT (R136). Command that wakes a retired slice and returns it to service. -/
  | sliceAdmit (c : Packet)
  /-- SLICE_STATUS (R137). Command that returns slice states and power states. -/
  | sliceStatus (c : Packet)
  /-- DDR_TRAIN (R531). Restructuring command that runs full training on the named DDR5 channels, replying PENDING. -/
  | ddrTrain (c : Packet)
  /-- DDR_CONFIG (R532). Command that sets power-down, retraining interval and patrol scrub. -/
  | ddrConfig (c : Packet)
  /-- DDR_STATUS (R533). Command that returns a channel's or the device's DDR5 state, counts and regions. -/
  | ddrStatus (c : Packet)
  /-- STAT_READ (R553). Command that returns up to 255 statistics counter pairs. -/
  | statRead (c : Packet)
  /-- STAT_CLEAR (R553). Command that clears a range of counter pairs one line per core clock. -/
  | statClear (c : Packet)
  /-- SNAP_AREA_SET (R554). Command that places or removes the 17 MiB snapshot area, aborting a copy in progress. -/
  | snapAreaSet (c : Packet)
  /-- SNAP_TAKE (R555). Command that arms a snapshot at a record-time tick. -/
  | snapTake (c : Packet)
  /-- SNAP_STATUS (R556). Command that returns the snapshot identifier, state and progress. -/
  | snapStatus (c : Packet)
  /-- SNAP_READ (R553). Command that returns counter pairs from the snapshot image. -/
  | snapRead (c : Packet)
  /-- PRF_SELECT (R557). Command that writes a performance counter's select word, including chaining. -/
  | prfSelect (c : Packet)
  /-- PRF_READ (R557). Command that returns a unit's live counters, shadows and select words. -/
  | prfRead (c : Packet)
  /-- BWM_SET (R558). Command that sets a bandwidth meter's window and restarts it. -/
  | bwmSet (c : Packet)
  /-- BWM_READ (R558). Command that returns a bandwidth meter and clears min, max and the window count. -/
  | bwmRead (c : Packet)
  /-- FAULT_STATUS (R576). Command that returns fault counts, capture-pending bits and book state. -/
  | faultStatus (c : Packet)
  /-- FAULT_READ (R576). Command that returns a source's capture, reaction and counts. -/
  | faultRead (c : Packet)
  /-- FAULT_CLEAR (R565). Command that empties one or every capture register. -/
  | faultClear (c : Packet)
  /-- FAULT_REACTION_SET (R577). Command that sets a source's own reaction or a class default. -/
  | faultReactionSet (c : Packet)
  /-- BOOK_INFO (R576). Command that returns cellar book head, counts and state. -/
  | bookInfo (c : Packet)
  /-- BOOK_READ (R576). Command that returns one cellar book record and its slot status. -/
  | bookRead (c : Packet)
  /-- FAULT_INJECT (R579). Factory-test command that raises a fault or plants a bit flip for a source. -/
  | faultInject (c : Packet)
  /-- GUARD_SET (R580). Factory-test command that disables or re-enables the egress guard of a group. -/
  | guardSet (c : Packet)
  /-- BOOK_CLEAR (R581). Factory-test command that erases the cellar book and resets its counts. -/
  | bookClear (c : Packet)
  /-- DIAG_LOOPBACK (R604). Diagnostic command that sets a port's loopback mode. -/
  | diagLoopback (c : Packet)
  /-- DIAG_MEM_TEST (R605). Diagnostic command that reads and checks a whole SRAM row or the TCAM replicas. -/
  | diagMemTest (c : Packet)
  /-- MBX_NOP (R69). Mailbox message NOP accepted by the Vintner and acknowledged with 0x0000. -/
  | mbxNop (m : Nat)
  /-- RING_RESCAN (R69). Mailbox message that makes the Vintner re-read every doorbell and write every enabled write-back word. -/
  | ringRescan (m : Nat)
  /-- HOLD_HOST (R69). Mailbox message that keeps the HOST domain in RUN. -/
  | holdHost (m : Nat)
  /-- HOST_RELEASE (R69). Mailbox message that returns the HOST domain to the power policy. -/
  | hostRelease (m : Nat)
  /-- TUNNEL_WRITE (R77). SMBus block write that assembles part of a tunnelled command packet and starts it when complete. -/
  | tunnelWrite (data : Bytes) (pecOk : Bool)
  /-- TUNNEL_READ (R76). SMBus block read that returns the next part of the tunnel reply. -/
  | tunnelRead
  /-- BOOK_SELECT (R76). SMBus block write that selects a cellar book record and offset and copies it into the SMBus buffer. -/
  | bookSelect (data : Bytes) (pecOk : Bool)
  /-- SMBUS_BOOK_READ (R573). SMBus block read that returns 128 bytes of the selected record and advances the position. -/
  | smbusBookRead
  /-- SMBUS_LOCK_ACQUIRE (R76). SMBus read byte on a LOCK code that attempts to acquire a lock as master 2. -/
  | smbusLockAcquire (n : Nat)
  /-- SMBUS_LOCK_RELEASE (R76). SMBus write byte of 0x01 on a LOCK code that releases the lock. -/
  | smbusLockRelease (n : Nat) (data : Byte) (pecOk : Bool)
  /-- ALERT_RESPONSE (R75). Read of the Alert Response Address answered with the engine's address, releasing SMB_ALERT_N. -/
  | alertResponse
  /-- SMBUS_TIMEOUT (R78). SMBus clock held low beyond the timeout resets the target interface and discards a partial tunnel command. -/
  | smbusTimeout
  /-- HIF_DB (R50). Write of a control ring doorbell, accepted or refused by the index bound. -/
  | hifDb (r : Nat) (value : Word)
  /-- HIF_TXDB (R441). Write of a host transmit ring producer index. -/
  | hifTxdb (t : Nat) (value : Word)
  /-- HIF_RXDB (R441). Write of a host receive ring posted index, which may serve a waiter or end a stall. -/
  | hifRxdb (r : Nat) (value : Word)
  /-- RING_ENABLE (R52). Write of HIF_RING_CTRL.ENABLE from 0 to 1 that checks SLOTS and activates the ring or sets CFG_ERR. -/
  | ringEnable (r : Nat) (value : Word)
  /-- RING_DISABLE (R53). Write of HIF_RING_CTRL.ENABLE to 0 that stops fetching from the ring. -/
  | ringDisable (r : Nat) (value : Word)
  /-- IRQ_MASK_WRITE (R59). Write of an interrupt mask register, sending a message for any set cause bit that is unmasked. -/
  | irqMaskWrite (offset : Nat) (value : Word)
  /-- MBX_MSG (R64). Write of a mailbox message body, refused with WRITE_ERR unless by the sender in EMPTY. -/
  | mbxMsg (m : Nat) (k : Nat) (value : Word) (master : Nat)
  /-- SEND (R65). Sender's MBX_CTRL.SEND that posts the message or leaves it WAITING and wakes the receiver. -/
  | send (m : Nat) (master : Nat)
  /-- WITHDRAW (R65). Sender's MBX_CTRL.WITHDRAW that empties an unaccepted mailbox or sets WITHDRAW_FAIL. -/
  | withdraw (m : Nat) (master : Nat) (accepting : Bool)
  /-- RELEASE (R65). Sender's MBX_CTRL.RELEASE that returns an ACKED mailbox to EMPTY. -/
  | release (m : Nat) (master : Nat)
  /-- ACCEPT (R65). Receiver's MBX_CTRL.ACCEPT that takes a posted message. -/
  | accept (m : Nat) (master : Nat)
  /-- MBX_ACK (R65). Receiver's write of MBX_ACK that acknowledges the message. -/
  | mbxAck (m : Nat) (code : BitVec 16) (master : Nat)
  /-- OVERFLOW_NOTICE (R70). Once mailbox 8 is empty, the engine posts the count of lost events there and zeroes the count. -/
  | overflowNotice
  /-- LOCK_ACQUIRE (R72). Read of LCK_LOCK[n] that acquires the lock if free and returns the result. -/
  | lockAcquire (n : Nat) (masters : List Nat)
  /-- LOCK_RELEASE (R72). Write of LCK_LOCK[n].RELEASE by the holder that frees the lock. -/
  | lockRelease (n : Nat) (master : Nat)
  /-- FORCE (R72). Write of RELEASE with FORCE by master 1 that frees a lock held by any owner and records it. -/
  | force (n : Nat) (master : Nat)
  /-- RESTART (R493). Write of VNT_CONTROL.RESTART while halted, starting the parity sweep, clear and undo. -/
  | restart
  /-- VINTNER_RESTARTED (R493). Restart completes: RUNNING and READY set, the event raised and fetching resumed. -/
  | vintnerRestarted
  /-- TRACE_ENABLE (R495). Write of VNT_TRACE_CTRL.ENABLE from 0 to 1 that checks the trace ring and enables or refuses it. -/
  | traceEnable (value : Word)
  /-- VNT_TRACE_LOST (R495). Read of VNT_TRACE_LOST that returns the lost-record count and clears it. -/
  | vntTraceLost
  /-- HIF_RESET (R593). Write of HIF_RESET with the key 0xB007 that starts a warm reset. -/
  | hifReset (value : Word)
  /-- CEL_BOOK_SELECT (R573). Write of CEL_BOOK_SELECT that copies a cellar book record into the read buffer. -/
  | celBookSelect (value : Word)
  /-- BUS_MASTER_ENABLE (R44). Change of Bus Master Enable that stops or resumes every memory request of the engine. -/
  | busMasterEnable (on : Bool)
  /-- REGISTER_WRITE (R9). Write to a register field without behaviour of its own, acting by its access code. -/
  | registerWrite (offset : Nat) (value : Word)
  /-- BAR0_BAD_ACCESS (R45). A misaligned or wrong-width BAR0 access returns zero or is ignored and sets IRQ_HIF_ERR.ACCESS. -/
  | bar0BadAccess (offset : Nat) (bytes : Nat) (write : Bool)
  /-- COMMAND_FETCH (R80). The engine fetches the next command whose slots the doorbell covers and runs the checks of R85. -/
  | commandFetch (heads : List RingHead)
  /-- REPLY_WRITE (R54). A held reply is written once the reply ring has room, followed by the write-back word and MSI-X. -/
  | replyWrite
  /-- HOLDOFF_EXPIRE (R59). A vector's holdoff interval ends and one deferred message is sent if its cause is still set and unmasked. -/
  | holdoffExpire (v : Nat)
  /-- DMA_ERROR (R57). A ring memory request completes with an error, deactivating the ring and raising HIF_DMA. -/
  | dmaError (ring : Nat)
  /-- MACHINE_CHECK (R491). A microword parity failure halts the Vintner and completes every tag in flight with MACHINE_CHECK. -/
  | machineCheck (addr : Nat) (word : BitVec 136) (ctx : Nat) (tag : Nat) (opcode : Nat)
  /-- AUX_VIN_UP (R595). AUX_VIN reaches its range: the strap is sampled, the cellar starts, mounts the book and enters DORMANT. -/
  | auxVinUp (autoBoot : Bool) (addrSel : Nat)
  /-- AUX_VIN_LOST (R25). Loss of AUX_VIN takes the engine to OFF at once. -/
  | auxVinLost
  /-- RESET_N_ASSERT (R592). RESET_N asserted: OWN_OUT and SAFE_N deasserted, egress blanked, tags aborted and a MODE record written. -/
  | resetNAssert
  /-- RESET_N_DEASSERT (R609). A qualified rising edge on RESET_N is a boot request, requesting rails or restarting BOOT and sampling straps. -/
  | resetNDeassert (twinId : Bool) (testmode : Bool)
  /-- PERST_N_ASSERT (R591). PERST_N asserted starts a warm reset. -/
  | perstNAssert
  /-- PERST_N_DEASSERT (R597). PERST_N deasserted after rails lets the PCIe link train. -/
  | perstNDeassert
  /-- PG_IN_CONFIRM (R509). PG_IN high after a rail step moves to the next step or begins BOOT after step 4. -/
  | pgInConfirm
  /-- RAIL_TIMEOUT (R509). PG_IN not high 20 ms after a rail step releases all rails and stays in DORMANT. -/
  | railTimeout
  /-- PG_IN_LOST (R25). Loss of PG_IN takes the engine to DORMANT and releases the rails in reverse order. -/
  | pgInLost
  /-- BOOT_COMPLETE (R595). BOOT's checks, zeroize and identity load finish and the engine enters CONFIG or FACTORY_TEST. -/
  | bootComplete (fail : Option (Nat × Nat)) (dimms : List (Option DimmInfo))
  /-- REFCLK_LOST (R15). REFCLK25 shows no edge for 1 µs: FATAL fault, fixed SAFE entry and cellar on the RC oscillator. -/
  | refclkLost
  /-- REFCLK_RETURN (R14). REFCLK25 returns and the cellar changes back to it and writes a REFCLK record. -/
  | refclkReturn
  /-- SAFE_REQ_N (R35). SAFE_REQ_N asserted is a SAFE trigger, deferred to the end of BOOT when in BOOT. -/
  | safeReqN (asserted : Bool)
  /-- TAKE_N (R470). TAKE_N asserted is a takeover trigger for a standby while OWN_IN is deasserted. -/
  | takeN (asserted : Bool)
  /-- OWN_IN_ASSERT (R463). OWN_IN asserted ends a cipher-side frame with errored termination and may raise an ownership conflict. -/
  | ownInAssert (cutting : List Nat)
  /-- OWN_IN_DEASSERT (R470). OWN_IN deasserted releases waiting ownership and may let a stale standby take over. -/
  | ownInDeassert
  /-- CLAIM_WINDOW_END (R463). The 2 µs claim window ends with OWN_IN deasserted and cipher-side ports may leave FLUSH. -/
  | claimWindowEnd
  /-- PPS_IN_EDGE (R410). A rising edge on PPS_IN is stamped in line and record time into the capture FIFO. -/
  | ppsInEdge (i : Nat)
  /-- PULSE_EDGE (R409). A programmed PPS_OUT instant arrives and the output starts or ends a pulse. -/
  | pulseEdge (o : Nat)
  /-- THERMAL_READ (R617). Every 1 ms the die sensors are read and THERM_N and the junction faults act on the hottest. -/
  | thermalRead (temp : Int)
  /-- LINK_UP (R435). A port's locks hold for 1 ms, the link comes up and LINK_UP is raised. -/
  | linkUp (p : Nat)
  /-- LINK_DOWN (R436). A port loses lock or fault-free state, its egress enters FLUSH and LINK_DOWN is raised. -/
  | linkDown (p : Nat) (cause : Nat) (lane : Option Nat) (cutting : Bool) (receiving : Bool)
  /-- FRAME_RECEIVE (R437). A whole frame is received on a MAC port and checked, discarded or landed. -/
  | frameReceive (p : Nat) (frame : Bytes) (fec : Nat × Nat)
  /-- PAUSE_REFRESH (R120). While occupancy stays at or above xon, PAUSE or PFC is resent every refresh_quanta. -/
  | pauseRefresh (p : Nat)
  /-- PAUSE_RECEIVE (R438). A received PAUSE frame loads or ends the port's pause timer. -/
  | pauseReceive (p : Nat) (quanta : Nat)
  /-- PFC_RECEIVE (R438). A received PFC frame loads or ends the pause timers of its priorities. -/
  | pfcReceive (p : Nat) (mask : Nat) (times : List Nat)
  /-- PAUSE_EXPIRE (R438). A port or priority pause timer runs out and the pause ends. -/
  | pauseExpire (p : Nat) (prio : Option Nat)
  /-- PAUSE_STORM_TRIP (R440). A pause lasting storm_limit_ms trips the guard, flushes the port and raises PAUSE_STORM. -/
  | pauseStormTrip (p : Nat)
  /-- PAUSE_STORM_CLEAR (R440). No nonzero pause for storm_limit_ms clears the guard and the port returns toward ENABLED. -/
  | pauseStormClear (p : Nat)
  /-- INGRESS_CIPHER (R294). The ingress cipher unit takes the next frame of its group, looks up the SA, decrypts and checks ICV and replay, and lands or discards it. -/
  | ingressCipher (g : Nat)
  /-- SA_FETCH_DONE (R310). A fetch of a spilled SA record completes, verifying it and installing it, possibly after sealing an evicted way. -/
  | saFetchDone (sa : Nat)
  /-- SA_FETCH_RETRY (R310). An unserved scheduler fetch request is repeated every 1 µs. -/
  | saFetchRetry
  /-- DISTRIBUTION_ROUND (R126). Each round the distributor grants packets to slices in service with sequence numbers and epoch slots. -/
  | distributionRound (held : Bool)
  /-- SLICE_PASS (R275). A slice pass parses, searches, chooses an action, edits, meters, counts, mirrors and decides the disposition. -/
  | slicePass (k : Nat)
  /-- SLICE_TIMEOUT (R131). A slice holds a packet for 2 µs and leaves a hole marker, raising the slice-timeout fault. -/
  | sliceTimeout (k : Nat)
  /-- FRAG_HOLD_TIMEOUT (R157). A fragment held for hold_timeout takes the orphan action. -/
  | fragHoldTimeout
  /-- FRAG_ENTRY_REMOVAL (R158). A fragment table entry falls due by last_use or lifetime and is removed. -/
  | fragEntryRemoval (i : Nat)
  /-- REORDER_RELEASE (R129). The reorder stage releases up to four complete head entries of a source to their crosspoints under credit. -/
  | reorderRelease (src : Nat)
  /-- RESIDUE_WRITE (R331). A waiting residue copy passes its credit test and is written from a buffer of its set. -/
  | residueWrite (src : Nat) (col : Nat)
  /-- RESIDUE_AGED (R332). A residue entry that has waited 100 µs is dropped and MIRROR_AGED counted. -/
  | residueAged (src : Nat) (col : Nat)
  /-- POOL_REBUILD (R358). A rebuild of a broken free list finishes walking the pool's headers. -/
  | poolRebuild (col : Nat) (pool : Nat)
  /-- SELECTION (R374). The scheduler selects a frame for a ready port node by strict priority and DRR. -/
  | selection (p : Nat)
  /-- SHAPER_REFILL (R380). A shaper's refill interval ends and tokens are added up to burst. -/
  | shaperRefill (kind : Nat) (n : Nat)
  /-- ADAPTIVE_QUANTUM (R379). Every 1 µs an adaptive group's quantum scale k is recomputed. -/
  | adaptiveQuantum (g : Nat)
  /-- EGRESS_CIPHER (R300). The egress cipher unit resolves the binding, numbers, encrypts and marks the next selected frame of its group. -/
  | egressCipher (g : Nat)
  /-- FRAME_TRANSMIT (R433). The MAC starts a whole frame at its time, subject to the guard and ownership, and sends it. -/
  | frameTransmit (p : Nat)
  /-- FLUSH_MARKERS_PASSED (R334). Every flush marker of a port has passed and the flush engine holds none of its references, so the port turns ENABLED. -/
  | flushMarkersPassed (p : Nat)
  /-- HOST_TX_FETCH (R444). The host interface fetches a frame or segment from a transmit ring into the staging buffer. -/
  | hostTxFetch (t : Nat) (descs : List (Bytes × Bytes))
  /-- HOST_RX_DELIVERY (R448). A frame selected at node 64 is written into reserved receive descriptors with completions. -/
  | hostRxDelivery
  /-- HOST_RING_STALLED (R450). A receive ring's waiter has waited stall_timeout_us: the ring stalls and the waiter is discarded. -/
  | hostRingStalled (r : Nat)
  /-- EPOCH_RETIRE (R242). An epoch that is not current and has all holder counts zero retires and frees its slot. -/
  | epochRetire (slot : Nat)
  /-- COMMIT_CYCLE (R238). The commit cycle makes the new slot current with epoch N, immediately or at an armed line-time instant. -/
  | commitCycle
  /-- SWEEP (R244). The sweeper clears entries of epochs older than the oldest live epoch and frees their log region. -/
  | sweep
  /-- REBASING_PASS (R244). A birth rebasing pass over every versioned table completes and recounts saturated reference counts. -/
  | rebasingPass
  /-- TCAM_SCRUB (R217). Every 120 core clocks the scrubber compares one row of each replica with the shadow and rewrites differences. -/
  | tcamScrub
  /-- TCAM_REPAIR (R216). A queued row is rewritten from the shadow in its replica. -/
  | tcamRepair (b : Bool)
  /-- COLLECTOR_PARITY (R567). Every 64 core clocks the collector checks its own parity and enters SAFE on an error. -/
  | collectorParity (err : Option Nat)
  /-- CIPHER_KAT (R560). Every 1 ms each cipher unit runs a known-answer vector and raises a FATAL fault on mismatch. -/
  | cipherKat (g : Nat) (bad : Option Nat)
  /-- BOOK_COMMIT (R572). The cellar commits the next queued record in three marker and record writes. -/
  | bookCommit (ok : Bool)
  /-- DRAIN_COMPLETE (R25). Every queue, buffer, slice, window and residue is empty and the engine enters CONFIG from DRAIN. -/
  | drainComplete
  /-- DRAIN_TIMEOUT (R28). drain_timeout expires, remaining packets are discarded and the engine enters CONFIG. -/
  | drainTimeout
  /-- TRELLIS_LINK_UP (R455). The Trellis link is up after 1 ms of alignment and FEC lock and the handshake starts. -/
  | trellisLinkUp
  /-- TRELLIS_LINK_DOWN (R455). The Trellis link goes down and Trellis is lost. -/
  | trellisLinkDown
  /-- TRELLIS_FRAME (R457). A Trellis frame is received and checked for FCS, tag and counter, restarting the link on failure. -/
  | trellisFrame (counter : Nat) (credit : Nat) (fcsOk : Bool) (tagOk : Bool)
  /-- HELLO (R459). Partner's HELLO received with its identity, ephemeral key and nonce. -/
  | hello (body : Bytes)
  /-- PROOF (R459). Partner's PROOF received and verified, deriving session keys and checking enrolment. -/
  | proof (body : Bytes)
  /-- HANDSHAKE_RETRY (R459). 100 ms after a failed handshake the engine retries while the link stays up. -/
  | handshakeRetry
  /-- HEARTBEAT_SEND (R469). Every 10 µs the engine sends a HEARTBEAT. -/
  | heartbeatSend
  /-- HEARTBEAT (R469). Partner's HEARTBEAT received, updating partner mode and round trip. -/
  | heartbeat (body : Bytes)
  /-- HEARTBEAT_MISSED (R469). A heartbeat fails to arrive in time; the third miss loses Trellis. -/
  | heartbeatMissed
  /-- LEAP_COMPLETE (R471). The leap sweep ends and the engine enters TWIN_ACTIVE or FORWARD. -/
  | leapComplete
  /-- ACK (R467). Partner's ACK received, advancing M for mirrored SAs and completing mirrored commands. -/
  | ack (counter : Nat) (refused : Option Nat)
  /-- SYNC_BEGIN (R464). SYNC_BEGIN received and the standby enters SYNC for a full mirror. -/
  | syncBegin (epoch : Nat)
  /-- SYNC_END (R464). SYNC_END received; the standby checks what it holds and answers SYNC_RESULT. -/
  | syncEnd
  /-- SYNC_RESULT (R464). SYNC_RESULT received; both engines enter their twin modes or return to PAIRED. -/
  | syncResult (status : Nat) (detail : Nat)
  /-- HANDOVER (R473). HANDOVER received; the partner takes it as a takeover trigger. -/
  | handover
  /-- HANDOVER_TIMEOUT (R470). A HANDOVER waiting 1 ms with OWN_IN asserted is refused. -/
  | handoverTimeout
  /-- HANDOVER_DONE (R473). HANDOVER_DONE received and the first engine's MODE_SET completes. -/
  | handoverDone (ok : Bool)
  /-- VINTAGE_OPEN (R245). Vintage OPEN message received; the standby opens the same vintage or refuses. -/
  | vintageOpen (handle : Nat)
  /-- VINTAGE_STAGE (R245). Vintage STAGE message received and executed against the standby's tables. -/
  | vintageStage (words : List Word)
  /-- PREPARE (R245). Prepare message received; the standby compares count and digest, checks and loads, then sends READY or REFUSE. -/
  | prepare (handle : Nat) (ops : Nat) (digest : Word) (at_ : Option Nat)
  /-- READY (R245). Ready message received; the active engine performs or arms its commit cycle. -/
  | ready (handle : Nat)
  /-- REFUSE (R246). Refusal received; the vintage stays open and VINT_COMMIT completes TWIN_REFUSED. -/
  | refuse (handle : Nat) (detail : Nat) (index : Nat)
  /-- VINTAGE_COMMIT (R245). Commit message received and the standby commits. -/
  | vintageCommit (handle : Nat)
  /-- VINTAGE_ABORT (R247). Abort message received and the standby undoes the vintage. -/
  | vintageAbort (handle : Nat)
  /-- NUMBER (R466). NUMBER message received; the standby sets the SA's pn. -/
  | number (k : Nat) (body : Bytes)
  /-- WINDOW (R468). WINDOW message received and merged into the local replay window. -/
  | window (k : Nat) (body : Bytes)
  /-- CONTEXT (R458). CONTEXT message received and the SA context installed on the standby. -/
  | context (k : Nat) (body : Bytes)
  /-- BINDING (R458). BINDING message received and the binding entry applied. -/
  | binding (k : Nat) (body : Bytes)
  /-- SCI (R458). SCI message received and the SCI entry applied. -/
  | sci (k : Nat) (body : Bytes)
  /-- RETIRE (R458). RETIRE message received and the SA retired on the standby. -/
  | retire (k : Nat) (body : Bytes)
  /-- PORT (R458). PORT message received and the cipher port setting applied. -/
  | port (k : Nat) (body : Bytes)
  /-- MBX (R476). Relayed mailbox message received and delivered into the local mailbox. -/
  | mbx (m : Nat) (msg : List Word)
  /-- MBX_STATE (R476). Relayed mailbox state received and shown to the sender. -/
  | mbxState (m : Nat) (code : Nat) (ack : Nat) (kind : Nat)
  /-- LOCK_REQ (R477). Lock request received from the twin and arbitrated as master 3. -/
  | lockReq (lock : Nat) (op : Nat)
  /-- LOCK_RESULT (R477). Lock result received and TWIN_LOCK completed. -/
  | lockResult (lock : Nat) (op : Nat) (result : Nat) (owner : Nat)
  /-- HAIRPIN (R475). Hairpin message received into the Trellis receive buffer for source 10. -/
  | hairpin (frame : Bytes)
  /-- PTP_SYNC (R404). A Sync from the domain's master is accepted; a one-step Sync updates the servo. -/
  | ptpSync (d : Nat) (port : Nat) (msg : Bytes) (stamp : Nat)
  /-- FOLLOW_UP (R404). A Follow_Up completes a two-step Sync and updates offset and servo. -/
  | followUp (d : Nat) (port : Nat) (msg : Bytes)
  /-- DELAY_RESP (R404). A Delay_Resp matching the last Delay_Req updates the E2E delay. -/
  | delayResp (d : Nat) (port : Nat) (msg : Bytes)
  /-- PDELAY_RESP (R404). A Pdelay_Resp updates the P2P delay. -/
  | pdelayResp (d : Nat) (port : Nat) (msg : Bytes) (stamp : Nat)
  /-- PDELAY_RESP_FOLLOW_UP (R404). A Pdelay_Resp_Follow_Up completes a two-step P2P delay sample. -/
  | pdelayRespFollowUp (d : Nat) (port : Nat) (msg : Bytes)
  /-- HOLDOVER (R407). No accepted Sync for sync_timeout intervals puts the servo in HOLDOVER and may switch line time. -/
  | holdover (d : Nat)
  /-- GATE_BOUNDARY (R411). A gate list interval boundary arrives and the class gates change. -/
  | gateBoundary (p : Nat)
  /-- GATE_LIST_SWITCH (R412). At the switch time the administrative list becomes operational. -/
  | gateListSwitch (p : Nat)
  /-- SNAPSHOT_TICK (R537). At the snapshot instant the identifier advances, shadows latch and a statistics copy begins. -/
  | snapshotTick
  /-- SNAPSHOT_DONE (R540). The statistics copy ends and SNAPSHOT_DONE is raised. -/
  | snapshotDone
  /-- BWM_WINDOW_END (R548). A bandwidth meter window ends and last, min, max and the window count update. -/
  | bwmWindowEnd (node : Nat)
  /-- REFRESH_DUE (R524). A DDR5 refresh falls due and is issued, postponed or forced. -/
  | refreshDue (ch : Nat) (rank : Nat) (queued : Bool)
  /-- REFRESH_MAKEUP (R524). Requests to a rank end with refreshes owed and a make-up burst runs. -/
  | refreshMakeup (ch : Nat) (rank : Nat) (issued : Nat)
  /-- DRIFT_TRACK (R521). Every retrain_ms a channel pauses and its DQS delays are adjusted, faulting or failing on drift. -/
  | driftTrack (ch : Nat) (adjs : List (Nat × Int))
  /-- POWER_DOWN_ENTRY (R525). A rank idle for power_down_ns enters precharge power-down. -/
  | powerDownEntry (ch : Nat) (rank : Nat) (request : Bool)
  /-- DDR_THERMAL_READ (R523). Every 16 ms DIMM temperatures are read, setting the refresh interval and DDR_HOT. -/
  | ddrThermalRead (temps : List Int)
  /-- PATROL_SCRUB (R528). The patrol scrub reads a line in a gap between requests and corrects it. -/
  | patrolScrub
  /-- TRAINING_DONE (R531). DDR_TRAIN finishes on its channels and the command completes. -/
  | trainingDone (passed : Nat)
  /-- DOZE_ENTRY (R502). A domain idle for 2 µs with prediction at least 10 µs enters DOZE. -/
  | dozeEntry (d : Nat) (ended : List Nat) (trigger : Bool)
  /-- DEEP_ENTRY (R502). A domain idle for 50 µs with prediction at least 200 µs enters DEEP. -/
  | deepEntry (d : Nat) (ended : List Nat) (trigger : Bool)
  /-- WAKE_COMPLETE (R498). A waking domain reaches RUN and waiting work proceeds. -/
  | wakeComplete (d : Nat) (ns : Nat)
  /-- SLICE_POLICY (R505). Every 10 µs the power policy admits or retires a slice by measured use. -/
  | slicePolicy
  /-- FLUSH_COMPLETE (R343). The flush engine frees the last marked reference of a port whose link is down, so a pending CORE_PORT_FLUSH completes and the port stays in FLUSH. -/
  | flushComplete (p : Nat)
  /-- SLEW_COMPLETE (R406). The slew offset s reaches zero, line time equals the selected domain clock and the reported source leaves 3 for the domain. -/
  | slewComplete
  /-- HANDSHAKE_TIMEOUT (R459). A Trellis handshake whose HELLO or PROOF does not arrive within 10 ms of link-up fails and moves to AUTH_FAILED. -/
  | handshakeTimeout
  /-- FULL_MIRROR_SENT (R464). The active engine finishes sending the full mirror and sends SYNC_END. -/
  | fullMirrorSent
  /-- BOOK_CLEAR_DONE (R581). After about 84 ms the erasure of the cellar book ends, counts are zeroed, BOOK_CLEARED is written and BOOK_CLEAR completes with OK. -/
  | bookClearDone
  /-- DIAG_MEM_TEST_DONE (R605). The read of a whole SRAM row or the TCAM comparison ends and DIAG_MEM_TEST completes with its counts. -/
  | diagMemTestDone
  /-- TEST_ACCESS_PORT (R622). A TCK edge or TRST_N change moves the IEEE 1149.1 test access port, whose boundary instructions act only in FACTORY_TEST. -/
  | testAccessPort (edge : Nat) (tms : Bool) (tdi : Bool)
  /-- MSIX_VECTOR_UNMASK (R59). Clearing an MSI-X vector or function mask sends the message recorded in the pending-bit array. -/
  | msixVectorUnmask (vector : Option Nat)
deriving DecidableEq, Repr

end Sys2Proof
end

