-- ==== Sys2Proof/Config.lean ====
section
/-!
DEFINITION. What one part is fused or strapped with, and the values the manual leaves open.
An opaque constant has no body: a claim about it holds for every value.
-/
namespace Sys2Proof.Config

open Sys2Proof

/-- HIF_PART.ORDER as fused, 0 GX960-C or 1 GX960-E (03 R47). Only bit 0 is used. -/
opaque orderFuse : Nat

/-- The fused 64-bit serial number (03 R47); used modulo 2^64. -/
opaque serialFuse : Nat

/-- The fused P-384 identity private key (02 R21, 04 R112). -/
opaque identityKey : Nat

/-- The per-signature secret number of ECDSA, which FIPS 186-5 draws at random: one per use counter (04 R112, 17 R459). -/
opaque ecdsaNonce : Nat → Nat

/-- The seal key drawn at each entry to BOOT from the engine's random generator, 32 bytes (11 R308). -/
opaque sealKeyDraw : Nat → Bytes

/-- The fresh ephemeral P-384 private key of a Trellis handshake (17 R459). -/
opaque ephemeralDraw : Nat → Nat

/-- The 32-byte nonce of a Trellis HELLO (17 R459). -/
opaque nonceDraw : Nat → Bytes

/-- A value the manual does not state, of any width the user needs: one per use counter. -/
opaque freeValue : Nat → Nat

/-- The fragment table's hash of a key, of which the manual gives no formula (06 R154); used modulo 4,096. -/
opaque fragHash : Bytes → Nat

/-- MICROCODE_ID of the B0 ROM (18 R489). -/
def microcodeId : Nat := 0xB04E7A15

/-- The fixed PCS, FEC and SerDes latency for a group's layout word and a port's rate code, on receive (0) and on transmit (1), in ns × 2^16, which the manual does not state (15 R399). -/
opaque macLatency : (layout rate dir : Nat) → Nat

/-- The microcode ROM: the 136-bit word at each of the 16,384 addresses, which the manual does not give (18 R485, R489). -/
opaque microcode : Nat → BitVec 136

/-- What rate and width the PCIe link trains to in a boot, which the manual leaves to the link (03 R42). -/
opaque pcieTrained : Nat → Nat

end Sys2Proof.Config
end

