-- ==== Sys2Proof/Machine/Bits.lean ====
section
/-!
DEFINITION. Bit fields, little-endian and network-order bytes, saturating and wrapping counts (00_scope R4 to R7).
-/
namespace Sys2Proof

/-- Bits [hi:lo] of a word, as a number (ranges are written [high:low], 00_scope). -/
def Word.fld (w : Word) (hi lo : Nat) : Nat :=
  (w.toNat / 2 ^ lo) % 2 ^ (hi - lo + 1)

/-- Bit i of a word. -/
def Word.bit (w : Word) (i : Nat) : Bool :=
  (w.toNat / 2 ^ i) % 2 == 1

/-- Bits [hi:lo] of a number. -/
def nfld (n hi lo : Nat) : Nat :=
  (n / 2 ^ lo) % 2 ^ (hi - lo + 1)

/-- Bit i of a number. -/
def nbit (n i : Nat) : Bool :=
  (n / 2 ^ i) % 2 == 1

/-- A Boolean as one bit. -/
def b2n (b : Bool) : Nat := if b then 1 else 0

/-- A number as a 32-bit word, modulo 2^32. -/
def wd (n : Nat) : Word := BitVec.ofNat 32 n

/-- A number as a byte, modulo 256. -/
def by8 (n : Nat) : Byte := BitVec.ofNat 8 n

/-- Little-endian bytes of a number, `k` of them (00_scope R4). -/
def leBytes : Nat → Nat → Bytes
  | 0, _ => []
  | k + 1, n => by8 n :: leBytes k (n / 256)

/-- The number that little-endian bytes hold (00_scope R4). -/
def leNat : Bytes → Nat
  | [] => 0
  | b :: bs => b.toNat + 256 * leNat bs

/-- The number that bytes in network order hold (00_scope R5). -/
def beNat (bs : Bytes) : Nat :=
  bs.foldl (fun a b => a * 256 + b.toNat) 0

/-- Bytes in network order of a number, `k` of them (00_scope R5). -/
def beBytes (k n : Nat) : Bytes := (leBytes k n).reverse

/-- The bytes of a list of words, little-endian. -/
def wordsBytes (ws : List Word) : Bytes :=
  ws.flatMap (fun w => leBytes 4 w.toNat)

/-- The words of a list of bytes, little-endian, the last one filled with zero bytes. -/
def bytesWords : Bytes → List Word
  | [] => []
  | a :: [] => [wd (leNat [a])]
  | a :: b :: [] => [wd (leNat [a, b])]
  | a :: b :: c :: [] => [wd (leNat [a, b, c])]
  | a :: b :: c :: d :: r => wd (leNat [a, b, c, d]) :: bytesWords r

/-- Byte i of a string, zero beyond its end. -/
def byteAt (bs : Bytes) (i : Nat) : Nat := ((bs[i]?).getD 0#8).toNat

/-- `n` bytes from byte `i`, zero beyond the end. -/
def bytesAt (bs : Bytes) (i n : Nat) : Bytes :=
  let r := (bs.drop i).take n
  r ++ List.replicate (n - r.length) 0#8

/-- The number in network order at bytes i to i + n - 1. -/
def beAt (bs : Bytes) (i n : Nat) : Nat := beNat (bytesAt bs i n)

/-- The string with the bytes from byte i replaced, inside its own length. -/
def bytesSet (bs : Bytes) (i : Nat) (v : Bytes) : Bytes :=
  bs.take i ++ (v.take (bs.length - i)) ++ bs.drop (i + v.length)

/-- The low and high word of a 64-bit number. -/
def w64 (n : Nat) : List Word := [wd n, wd (n / 4294967296)]

/-- A saturating addition on a `k`-bit count. -/
def satAdd (k a b : Nat) : Nat := min (a + b) (2 ^ k - 1)

/-- One more on a saturating 32-bit count. -/
def sat32 (n : Nat) : Nat := satAdd 32 n 1

/-- An addition modulo 2^k. -/
def wrapAdd (k a b : Nat) : Nat := (a + b) % 2 ^ k

/-- A signed number from the low `k` bits of a number. -/
def sgn (k n : Nat) : Int :=
  let m := n % 2 ^ k
  if m < 2 ^ (k - 1) then (m : Int) else (m : Int) - (2 ^ k : Nat)

/-- A signed number as a 32-bit word in two's complement. -/
def wdi (i : Int) : Word := BitVec.ofInt 32 i

/-- Numerator over denominator, rounded up. -/
def ceilDiv (a b : Nat) : Nat := if b = 0 then 0 else (a + b - 1) / b

/-- Element i of a list, or `d` beyond its end. -/
def nth {α : Type} (l : List α) (i : Nat) (d : α) : α := (l[i]?).getD d

/-- The list with element i changed by `f`, unchanged beyond its end. -/
def updAt {α : Type} : List α → Nat → (α → α) → List α
  | [], _, _ => []
  | x :: xs, 0, f => f x :: xs
  | x :: xs, i + 1, f => x :: updAt xs i f

/-- The sum of a list of numbers. -/
def sumL (l : List Nat) : Nat := l.foldl (· + ·) 0

/-- Bits set in a number, among its low `k`. -/
def popCnt (k n : Nat) : Nat := sumL ((List.range k).map (fun i => b2n (nbit n i)))

/-- The positions of the bits set in a number, among its low `k`, ascending. -/
def setBits (k n : Nat) : List Nat := (List.range k).filter (nbit n)

/-- The number with bit i set. -/
def orBit (n i : Nat) : Nat := if nbit n i then n else n + 2 ^ i

/-- The number with bit i clear. -/
def clrBit (n i : Nat) : Nat := if nbit n i then n - 2 ^ i else n

/-- The number with bit i at `b`. -/
def setBit (n i : Nat) (b : Bool) : Nat := if b then orBit n i else clrBit n i

/-- The number with every bit of `m` cleared, among the low 64 bits. -/
def clrMask (n m : Nat) : Nat := n - (n &&& m)

/-- `some a` when `p` holds, none otherwise. -/
def guardO {α : Type} (p : Bool) (a : α) : Option α := if p then some a else none

end Sys2Proof
end

