-- ==== Sys2Proof/Machine/Mem.lean ====
section
/-!
DEFINITION. The DDR5 memory: a list of (address, byte) pairs, addresses strictly rising, no pair equal to what an unlisted address reads as.
An unlisted address reads as zero (DESIGN CHOICE, log entry 8).
-/
namespace Sys2Proof

/-- What a byte that nothing has written reads as. -/
def Mem.unlisted : Byte := 0#8

/-- The byte at an address. -/
def Mem.read : List Host.Cell → Nat → Byte
  | [], _ => Mem.unlisted
  | (k, v) :: t, a => if k = a then v else Mem.read t a

/-- The memory with a cell put before the first higher key. -/
def Mem.insert : List Host.Cell → Nat → Byte → List Host.Cell
  | [], a, b => [(a, b)]
  | (k, v) :: t, a, b => if a < k then (a, b) :: (k, v) :: t else (k, v) :: Mem.insert t a b

/-- The memory with a byte written. -/
def Mem.write (m : List Host.Cell) (a : Nat) (b : Byte) : List Host.Cell :=
  let r := m.filter fun e => e.1 != a
  if b = Mem.unlisted then r else Mem.insert r a b

/-- `n` bytes from an address. -/
def Mem.reads (m : List Host.Cell) (a : Nat) : Nat → Bytes
  | 0 => []
  | n + 1 => Mem.read m a :: Mem.reads m (a + 1) n

/-- The memory with a string written from an address. -/
def Mem.writes (m : List Host.Cell) (a : Nat) : Bytes → List Host.Cell
  | [] => m
  | b :: bs => Mem.writes (Mem.write m a b) (a + 1) bs

/-- Keys rise strictly from `lo` and no value is the unlisted one. -/
def Mem.wfFrom : List Host.Cell → Nat → Bool
  | [], _ => true
  | (k, v) :: t, lo => decide (lo ≤ k) && decide (v ≠ Mem.unlisted) && Mem.wfFrom t (k + 1)

/-- The canonical form of the memory. -/
def Mem.wf (m : List Host.Cell) : Bool := Mem.wfFrom m 0

end Sys2Proof
end

