-- ==== Sys2Proof/Machine/Tbl.lean ====
section
/-!
DEFINITION. Sparse tables: lists of (key, value) with keys strictly rising. A key that is not listed holds the table's default value.
-/
namespace Sys2Proof

/-- A sparse table. -/
abbrev Tbl (α : Type) := List (Nat × α)

/-- The value listed at a key. -/
def Tbl.look {α : Type} : Tbl α → Nat → Option α
  | [], _ => none
  | (k, v) :: t, q => if k = q then some v else Tbl.look t q

/-- The value at a key, `d` when the key is not listed. -/
def Tbl.lookD {α : Type} (t : Tbl α) (q : Nat) (d : α) : α := (Tbl.look t q).getD d

/-- Is the key listed? -/
def Tbl.has {α : Type} (t : Tbl α) (q : Nat) : Bool := (Tbl.look t q).isSome

/-- The table with a value listed at a key. -/
def Tbl.put {α : Type} : Tbl α → Nat → α → Tbl α
  | [], q, v => [(q, v)]
  | (k, w) :: t, q, v =>
    if q < k then (q, v) :: (k, w) :: t
    else if q = k then (q, v) :: t
    else (k, w) :: Tbl.put t q v

/-- The table with a key no longer listed. -/
def Tbl.del {α : Type} (t : Tbl α) (q : Nat) : Tbl α := t.filter (fun e => e.1 ≠ q)

/-- The table with the value at a key, or the default where it is not listed, changed by `f`. -/
def Tbl.upd {α : Type} (t : Tbl α) (q : Nat) (d : α) (f : α → α) : Tbl α :=
  Tbl.put t q (f (Tbl.lookD t q d))

/-- Every listed value changed by `f`. -/
def Tbl.mapV {α β : Type} (t : Tbl α) (f : Nat → α → β) : Tbl β := t.map (fun e => (e.1, f e.1 e.2))

/-- The listed keys, rising. -/
def Tbl.keys {α : Type} (t : Tbl α) : List Nat := t.map (·.1)

/-- The listed values, by rising key. -/
def Tbl.vals {α : Type} (t : Tbl α) : List α := t.map (·.2)

/-- Numbers in rising order. -/
def sortNat (l : List Nat) : List Nat := l.foldl (fun a x => a.takeWhile (· ≤ x) ++ x :: a.dropWhile (· ≤ x)) []

/-- The keys rise strictly from `lo`. -/
def Tbl.risesFrom {α : Type} : Tbl α → Nat → Bool
  | [], _ => true
  | (k, _) :: t, lo => decide (lo ≤ k) && Tbl.risesFrom t (k + 1)

/-- The table's form: keys strictly rising. -/
def Tbl.wf {α : Type} (t : Tbl α) : Bool := Tbl.risesFrom t 0

end Sys2Proof
end

