-- ==== Sys2Proof/Machine/StHost.lean ====
section
/-!
DEFINITION. State of the host side: modes and pins, the host link, tags and batches, mailboxes, locks, SMBus, the Vintner, the fault collector and the cellar book.
Each field's docstring names the rule of the manual that gives it. A field's default value is its value in State.reset.
-/
namespace Sys2Proof.Machine

/-- The modes of R20. -/
inductive Mode
  | off | dormant | boot | config | forward | twinActive | twinStandby | takeover | drain | safe | diagnostic | factoryTest
deriving DecidableEq, Repr

/-- Mode codes (R20). -/
def Mode.code : Mode → Nat
  | .off => 0 | .dormant => 1 | .boot => 2 | .config => 3 | .forward => 4 | .twinActive => 5
  | .twinStandby => 6 | .takeover => 7 | .drain => 8 | .safe => 9 | .diagnostic => 10 | .factoryTest => 11

/-- Status codes of replies (R94). -/
inductive Status
  | ok | okAdjusted | pending | badOpcode | badLength | badParam | badMode | noResource | busy | timePast
  | conflict | notFound | badZero | denied | twinRefused | machineCheck | aborted | integrity | tagInUse
deriving DecidableEq, Repr

/-- The 16-bit code of a status (R94). -/
def Status.code : Status → Nat
  | .ok => 0 | .okAdjusted => 1 | .pending => 2 | .badOpcode => 3 | .badLength => 4 | .badParam => 5
  | .badMode => 6 | .noResource => 7 | .busy => 8 | .timePast => 9 | .conflict => 10 | .notFound => 11
  | .badZero => 12 | .denied => 13 | .twinRefused => 14 | .machineCheck => 15 | .aborted => 16
  | .integrity => 17 | .tagInUse => 18

/-- Mode state (R20, R26, R32, R39 to R41). -/
structure ModeBlk where
  /-- HIF_MODE.MODE (R39). -/
  mode : Mode := .boot
  /-- HIF_MODE.PREV_MODE (R39). -/
  prev : Mode := .dormant
  /-- HIF_MODE.CAUSE (R39, R41). -/
  cause : Nat := 0
  /-- Mode history count, 32 bits, kept in the cellar (R40): OFF to DORMANT and DORMANT to BOOT have been counted. -/
  history : Nat := 2
  /-- SAFE was entered from FACTORY_TEST (R26). -/
  safeFromFactory : Bool := false
  /-- drain_timeout of the DRAIN in progress, in ms (R31). -/
  drainTimeout : Nat := 0
  /-- The mode DRAIN was entered from (R30). -/
  drainFrom : Mode := .forward
  /-- Target of a MODE_SET that has replied PENDING (R32). -/
  pendingTarget : Option Mode := none
  /-- A SAFE_REQ_N trigger of this BOOT, deferred to its end (R596). -/
  safeDeferred : Bool := false
  /-- HIF_RESET_CAUSE.KIND (R593). -/
  resetKind : Nat := 0
  /-- HIF_BOOT_COUNT, kept in the cellar (R47, R592). -/
  bootCount : Nat := 1
  /-- RESET_N holds the core, so BOOT has not begun (R592). -/
  resetHeld : Bool := false
  /-- Cause of the boot request in hand (R25, R41). -/
  bootCause : Nat := 3
  /-- Mode and history count of a loss of PG_IN, whose MODE_CHANGE is raised at the next boot (R509). -/
  pgLost : Option (Nat × Nat) := none
deriving DecidableEq, Repr

/-- Pins and straps (R20, R27, R47, chapter 25). -/
structure Pins where
  /-- AUX_VIN in range (R595). -/
  auxVin : Bool := true
  /-- PG_IN (R509). -/
  pgIn : Bool := true
  /-- REFCLK25 present (R14, R61 REFCLK_OK). -/
  refclk : Bool := true
  /-- RESET_N level (R591). -/
  resetN : Bool := true
  /-- PERST_N level (R597). -/
  perstN : Bool := true
  /-- TESTMODE level (R607). -/
  testmode : Bool := false
  /-- SAFE_REQ_N level (R35). -/
  safeReqN : Bool := true
  /-- TAKE_N level (R470). -/
  takeN : Bool := true
  /-- OWN_IN level (R47). -/
  ownIn : Bool := false
  /-- OWN_OUT level driven (R47). -/
  ownOut : Bool := false
  /-- SAFE_N is asserted, that is driven low (R20). -/
  safeN : Bool := false
  /-- THERM_N asserted (R617). -/
  thermN : Bool := false
  /-- PWR_REQ[3:0] driven (R508). -/
  pwrReq : Nat := 15
  /-- PPS_OUT[3:0] levels (R409). -/
  ppsOut : Nat := 0
  /-- HIF_STRAPS.TWIN_ID (R47). -/
  twinId : Bool := false
  /-- HIF_STRAPS.ADDR_SEL (R47, R74). -/
  addrSel : Nat := 2
  /-- HIF_STRAPS.AUTO_BOOT (R47, R27). -/
  autoBoot : Bool := false
  /-- HIF_STRAPS.TESTMODE as sampled at the last cold reset (R47). -/
  testmodeSampled : Bool := false
  /-- The PCIe link is trained (R597). -/
  pcieUp : Bool := true
  /-- A boot request is waiting for its conditions: REFCLK25 or RESET_N (R27, R609). -/
  bootRequest : Bool := false
deriving DecidableEq, Repr

/-- One of the six control rings (R48 to R57). -/
structure CRing where
  /-- HIF_DB[r].INDEX, the host-owned index (R49). -/
  host : Nat := 0
  /-- HIF_RING_BASE, 64 bits, 4 KiB aligned (R51). -/
  base : Nat := 0
  /-- HIF_RING_SIZE.SLOTS (R51). -/
  slots : Nat := 0
  /-- HIF_RING_CTRL.ENABLE (R51). -/
  enable : Bool := false
  /-- HIF_RING_CTRL.WB_EN (R51). -/
  wbEn : Bool := false
  /-- HIF_RING_CTRL.HOLDOFF (R51). -/
  holdoff : Nat := 0
  /-- HIF_RING_ENGINE_IDX.INDEX (R51). -/
  engine : Nat := 0
  /-- HIF_RING_WB, 64 bits (R51). -/
  wb : Nat := 0
  /-- HIF_RING_STATUS.ACTIVE (R51). -/
  active : Bool := false
  /-- HIF_RING_STATUS.CFG_ERR (R51). -/
  cfgErr : Bool := false
  /-- HIF_RING_STATUS.DB_ERR (R51). -/
  dbErr : Bool := false
  /-- HIF_RING_STATUS.DMA_ERR (R51). -/
  dmaErr : Bool := false
deriving DecidableEq, Repr

/-- Interrupt and PCIe access state (R42 to R60). -/
structure Hif where
  /-- Bus Master Enable (R44). -/
  bme : Bool := false
  /-- The six control rings, 0 to 5 (R48). -/
  rings : List CRing := [{}, {}, {}, {}, {}, {}]
  /-- IRQ_CAUSE bits 0 REPLY, 2 EVENT, 4 FAULT, 6 TWIN; the other bits are computed (R59). -/
  cause : Nat := 0
  /-- IRQ_MASK (R59). -/
  mask : Nat := 127
  /-- IRQ_RING_CAUSE (R59). -/
  ringCause : Nat := 0
  /-- IRQ_RING_MASK (R59). -/
  ringMask : Nat := 4294967295
  /-- IRQ_MBX_CAUSE (R59). -/
  mbxCause : Nat := 0
  /-- IRQ_MBX_MASK (R59). -/
  mbxMask : Nat := 65535
  /-- IRQ_HIF_ERR (R59). -/
  err : Nat := 0
  /-- IRQ_HIF_ERR_MASK (R59). -/
  errMask : Nat := 31
  /-- MSI-X Enable of the capability (R42; reset from PCI Express). -/
  msixEnable : Bool := false
  /-- MSI-X function mask (R59; reset from PCI Express). -/
  funcMask : Bool := false
  /-- MSI-X vector masks, bit v for vector v (R59; reset from PCI Express: all masked). -/
  vecMask : Nat := 18446744073709551615
  /-- MSI-X pending-bit array (R42, R59). -/
  pba : Nat := 0
  /-- Vectors whose holdoff interval runs (R59). -/
  holdRun : Nat := 0
  /-- Vectors with a message deferred by holdoff (R59). -/
  holdDefer : Nat := 0
  /-- HIF_SCRATCH (R47). -/
  scratch : Word := 0#32
  /-- PRF_USER_EN_HI:PRF_USER_EN_LO (R60). -/
  prfUserEn : Nat := 0
  /-- HIF_STATUS.READY (R47). -/
  ready : Bool := false
  /-- Consecutive fetches from higher-priority rings while a lower one held a command (R81). -/
  streak : Nat := 0
  /-- Command rings that have waited since the last lower-priority fetch (R81). -/
  waited : Nat := 0
deriving DecidableEq, Repr

/-- A reply (R84). -/
structure Reply where
  /-- Where the command came from. -/
  path : Path
  /-- opcode, echoed. -/
  opcode : Nat
  /-- status. -/
  status : Status
  /-- tag, echoed as received. -/
  tag : Nat
  /-- detail. -/
  detail : Nat
  /-- Record time at completion, modulo 2^32. -/
  time : Nat
  /-- Reply data. -/
  data : List Word
deriving DecidableEq, Repr

/-- An event record (R96). -/
structure Event where
  /-- code (R98). -/
  code : Nat
  /-- Event sequence number (R97). -/
  seq : Nat
  /-- object_id. -/
  objectId : Nat
  /-- Record time. -/
  time : Nat
  /-- Payload, at most 12 words. -/
  payload : List Word
deriving DecidableEq, Repr

/-- How far a command in flight has come (R109 tag states). -/
inductive TagPhase
  /-- Passed its checks, not started: state 1. -/
  | waiting
  /-- Started, and waiting inside the engine without a PENDING reply: state 2. -/
  | running
  /-- Final reply made and not yet written: state 2. -/
  | done
  /-- PENDING reply made: state 3. -/
  | pended
deriving DecidableEq, Repr

/-- A command in flight (R88). The list that holds it is in fetch order. -/
structure Tag where
  /-- opcode. -/
  opcode : Nat
  /-- The packet. -/
  pkt : Packet
  /-- Its phase. -/
  phase : TagPhase
  /-- For a parked command: a number its owner keeps with it (an object, a count). -/
  aux : Nat := 0
deriving DecidableEq, Repr

/-- A command staged in the configuration batch (R105). -/
structure Staged where
  /-- opcode. -/
  opcode : Nat
  /-- The packet. -/
  pkt : Packet
deriving DecidableEq, Repr

/-- Tags, held replies, events and the configuration batch (R79 to R106). -/
structure Cmds where
  /-- Commands in flight, oldest first (R88). The tunnel's command stands here too. -/
  tags : List Tag := []
  /-- Replies held for ring space, in completion order, each with whether it ends its tag (R54). -/
  held : List (Reply × Bool) := []
  /-- Events held while Bus Master Enable is clear, oldest first (R44). -/
  heldEvents : List Event := []
  /-- A configuration batch is open (R105). -/
  batchOpen : Bool := false
  /-- The staged commands, oldest first (R105). -/
  staged : List Staged := []
  /-- CFG_BATCH_END waits for the standby's answer on the batch's class 0x07 changes: nothing is applied yet, and nothing more is staged (R95, R465). -/
  landing : Bool := false
  /-- A batch the standby has taken is being applied: its changes are not mirrored again. -/
  applying : Bool := false
  /-- Next event sequence number (R97). -/
  eventSeq : Nat := 1
  /-- Lost events (R55), 64 bits. -/
  lost : Nat := 0
  /-- KWK generation (R113). -/
  kwkGen : Nat := 0
  /-- The key-wrap key, 32 bytes, when HIF_STATUS.KWK_VALID (R113, R114). -/
  kwk : Option Bytes := none
deriving DecidableEq, Repr

/-- Mailbox states (R64). -/
inductive MbxState
  | empty | posted | waiting | accepted | acked
deriving DecidableEq, Repr

/-- A mailbox (R64). -/
structure Mbx where
  /-- MBX_MSG, twelve words. -/
  msg : List Word := [0#32, 0#32, 0#32, 0#32, 0#32, 0#32, 0#32, 0#32, 0#32, 0#32, 0#32, 0#32]
  /-- MBX_STATUS.STATE. -/
  state : MbxState := .empty
  /-- MBX_STATUS.WAIT_REASON (R67). -/
  reason : Nat := 0
  /-- MBX_STATUS.WRITE_ERR. -/
  writeErr : Bool := false
  /-- MBX_STATUS.WITHDRAW_FAIL. -/
  withdrawFail : Bool := false
  /-- MBX_ACK.CODE. -/
  ack : Nat := 0
  /-- MBX_TIME.NS. -/
  time : Nat := 0
deriving DecidableEq, Repr

/-- The SMBus target (R74 to R78). -/
structure Smbus where
  /-- Partly assembled tunnel command (R77). -/
  assembly : Option Bytes := none
  /-- The assembled tunnel command, while it waits to run or runs (R77): opcode and packet. -/
  command : Option (Nat × Packet) := none
  /-- The tunnel reply, as bytes, and how many were read (R76). -/
  reply : Option (Bytes × Nat) := none
  /-- Book position: record index (R76). -/
  bookIndex : Nat := 0
  /-- Book position: byte offset, 0 or 128 (R76). -/
  bookOffset : Nat := 0
  /-- SMBus read buffer of the book (R573). -/
  bookBuf : Bytes := List.replicate 256 0#8
  /-- SMB_ALERT_N was released by an Alert Response and no new cause has arisen (R75). -/
  alertReleased : Bool := false
deriving DecidableEq, Repr

/-- One execution context of the Vintner (R485). -/
structure VCtx where
  /-- W0 to W15. -/
  w : List Word := List.replicate 16 0#32
  /-- Microword address, 14 bits. -/
  addr : Nat := 0
  /-- LINK, 14 bits. -/
  link : Nat := 0
  /-- Zero flag (R488). -/
  z : Bool := false
  /-- Negative flag (R488). -/
  n : Bool := false
  /-- Carry flag (R488). -/
  c : Bool := false
  /-- Overflow flag (R488). -/
  v : Bool := false
deriving DecidableEq, Repr

/-- The Vintner and its trace (R60, R485 to R496). -/
structure Vintner where
  /-- VNT_STATUS.RUNNING. -/
  running : Bool := false
  /-- VNT_STATUS.HALTED_MC. -/
  haltedMc : Bool := false
  /-- VNT_STATUS.HALT_ADDR. -/
  haltAddr : Nat := 0
  /-- VNT_STATUS.PERR. -/
  perr : Nat := 0
  /-- VNT_MC_COUNT. -/
  mcCount : Nat := 0
  /-- Cellar cycles counted at the last machine check of the boot (R493). -/
  lastMc : Option Nat := none
  /-- A restart is in steps 1 to 3 (R493). -/
  restarting : Bool := false
  /-- A microword address whose next fetch fails parity, planted by FAULT_INJECT mode 2 (R579). -/
  planted : Option Nat := none
  /-- The eight contexts (R485). -/
  ctx : List VCtx := List.replicate 8 {}
  /-- The sixteen timers, in ns left (R485). -/
  timers : List Nat := List.replicate 16 0
  /-- The 0.5 MiB scratch, by 32-bit word; unlisted words are zero (R12, R485). -/
  scratch : Tbl Word := []
  /-- VNT_TRACE_CTRL.ENABLE (R495). -/
  trEnable : Bool := false
  /-- VNT_TRACE_CTRL.MICRO. -/
  trMicro : Bool := false
  /-- VNT_TRACE_CTRL.CMD. -/
  trCmd : Bool := false
  /-- VNT_TRACE_CTRL.PKT. -/
  trPkt : Bool := false
  /-- VNT_TRACE_CTRL.SIZE_LOG2. -/
  trLog2 : Nat := 0
  /-- VNT_TRACE_CTRL.ERR. -/
  trErr : Bool := false
  /-- VNT_TRACE_BASE, 64 bits. -/
  trBase : Nat := 0
  /-- VNT_TRACE_SEQ. -/
  trSeq : Nat := 0
  /-- VNT_TRACE_SAMPLE.N. -/
  trSample : Nat := 1
  /-- VNT_TRACE_LOST. -/
  trLost : Nat := 0
  /-- Slice passes since the last one traced (R495). -/
  trPass : Nat := 0
  /-- Core clock of the last record written (R495). -/
  trClock : Option Nat := none
deriving DecidableEq, Repr

/-- A capture (R563). -/
structure Capture where
  /-- Source code. -/
  source : Nat
  /-- Class (R559). -/
  cls : Nat
  /-- Requester (R564). -/
  master : Nat
  /-- Access code. -/
  access : Nat
  /-- Address (R560). -/
  addr : Nat
  /-- Record time at detection, in ns times 2^16. -/
  time : Nat
  /-- Reactions applied (R561). -/
  reactions : Nat
  /-- Syndrome. -/
  syndrome : Nat
deriving DecidableEq, Repr

/-- One fault source (R561, R565). -/
structure FSrc where
  /-- The capture register; capture-pending while it is full. -/
  capture : Option Capture := none
  /-- Count since capture. -/
  since : Nat := 0
  /-- Count of the boot. -/
  count : Nat := 0
  /-- Own reaction entry, none for the class default. -/
  own : Option Nat := none
deriving DecidableEq, Repr

/-- A reaction the collector applies before the command in hand ends (R561, R562). -/
inductive Due
  /-- Enter SAFE with this cause, and the triggering capture. -/
  | safe (cause : Nat) (cap : Option Capture)
  /-- Isolate a slice. -/
  | slice (k src : Nat)
  /-- Isolate a port group. -/
  | group (g : Nat)
  /-- Start a planned handover (R473). -/
  | handover
  /-- Enter DORMANT for a MODE_SET, once its reply is made (R25). -/
  | dormant
deriving DecidableEq, Repr

/-- The fault collector (R559 to R567, R579). -/
structure Faults where
  /-- Sources by code; unlisted ones as at BOOT. -/
  src : Tbl FSrc := []
  /-- Class default reactions: CORRECTED, DEGRADED, UNIT_FAIL, FATAL (R561). -/
  defaults : List Nat := [1, 3, 7, 19]
  /-- Faults of this boot by class (R576). -/
  classCount : List Nat := [0, 0, 0, 0]
  /-- Captures taken in this boot. -/
  taken : Nat := 0
  /-- The first eight captures of the boot (R565). -/
  first : List Capture := []
  /-- Bits planted by FAULT_INJECT mode 1: source codes (R579). -/
  planted : List Nat := []
  /-- A collector register bit flipped by FAULT_INJECT mode 3, at this offset (R579). -/
  collectorFlip : Option Nat := none
  /-- Reactions raised by the command in hand and not yet applied, oldest first: the model's own, empty between commands. -/
  due : List Due := []
deriving DecidableEq, Repr

/-- A book record waiting in the queue (R572). -/
structure QRec where
  /-- Slot, none for the ring. -/
  slot : Option Nat
  /-- Bytes 0 to 251 with sequence still zero (R569). -/
  body : Bytes
deriving DecidableEq, Repr

/-- A marker slot (R571). -/
structure Marker where
  /-- Its CRC-32C holds. -/
  valid : Bool := false
  /-- Marker sequence. -/
  mseq : Nat := 0
  /-- Head sequence. -/
  headSeq : Nat := 0
  /-- Head ring index. -/
  headIdx : Nat := 0
  /-- Oldest ring index. -/
  oldest : Nat := 0
  /-- Ring records held. -/
  ringCount : Nat := 0
  /-- Pending index. -/
  pendingIdx : Option Nat := none
  /-- Boot count. -/
  bootCount : Nat := 0
  /-- Mode history count. -/
  history : Nat := 0
  /-- Enrolled fingerprint, 48 bytes, when valid (R460). -/
  fingerprint : Option Bytes := none
  /-- Sequence of the latest SAFE_ENTRY. -/
  safeSeq : Nat := 0
  /-- Boot count of the latest SAFE_ENTRY. -/
  safeBoot : Nat := 0
deriving DecidableEq, Repr

/-- A record of the power-up that led to BOOT: cellar time 0, boot count 0 until its write, no pin (R569, R570). -/
def powerUpRec (typ mode : Nat) (payload : Bytes) : QRec :=
  { slot := none
    body := [by8 typ, 2#8] ++ leBytes 2 payload.length ++ List.replicate 16 0#8 ++ [by8 mode] ++ List.replicate 7 0#8
      ++ payload ++ List.replicate (224 - payload.length) 0#8 }

/-- What the power-up queued before BOOT began: CELLAR_START with the straps and REFCLK25 present, then OFF to DORMANT and DORMANT to BOOT with the cause HIF_MODE resets to (R39, R40, R570). -/
def powerUpRecs : List QRec :=
  [powerUpRec 1 0 (leBytes 4 4 ++ [1#8]), powerUpRec 2 1 ([0#8, 1#8, 0#8, 0#8] ++ leBytes 4 1),
    powerUpRec 2 2 ([1#8, 2#8, 0#8, 0#8] ++ leBytes 4 2)]

/-- The cellar book and the cellar's own registers (R61, R62, R568 to R573). -/
structure Book where
  /-- CEL_ALERT (R61). -/
  alert : Nat := 0
  /-- CEL_ALERT_MASK (R61). -/
  alertMask : Nat := 0
  /-- CEL_STATUS.BOOK_MOUNTED (R61). -/
  mounted : Bool := true
  /-- Records by index, 256 bytes each; unlisted ones are all zero (R568). -/
  records : Tbl Bytes := []
  /-- The state as the newest valid marker holds it (R571). -/
  marker : Marker := {}
  /-- The other marker slot (R571). -/
  otherMarker : Marker := {}
  /-- Queued records, oldest first (R572). -/
  queue : List QRec := powerUpRecs
  /-- CEL_BOOK_STATUS.FRESH (R573). -/
  fresh : Bool := true
  /-- CEL_BOOK_DROPPED (R573). -/
  dropped : Nat := 0
  /-- Records committed in this boot (R576). -/
  committed : Nat := 0
  /-- CEL_BOOK_SELECT.INDEX (R573). -/
  select : Nat := 0
  /-- CEL_BOOK_STATUS.SLOT of the read buffer (R573). -/
  slot : Nat := 3
  /-- The read buffer, CEL_BOOK_DATA (R573). -/
  buf : Bytes := List.replicate 256 0#8
  /-- Cellar cycles since the cellar started (R569, R493). -/
  cycles : Nat := 0
  /-- A BOOK_CLEAR is erasing the book (R581). -/
  clearing : Bool := false
  /-- The book has just been cleared, so no cause-0x13 record precedes CELLAR_START (R570). -/
  justCleared : Bool := true
deriving DecidableEq, Repr

end Sys2Proof.Machine
end

