-- ==== Sys2Proof/Machine/CmdTbl.lean ====
section
/-!
DEFINITION. The opcode map: opcodes, lengths, batchable, staged and restructuring commands (R100, R101 and the command table of each chapter), and the fault sources (R560).
-/
namespace Sys2Proof.Machine

/-- What the opcode map says of a command. -/
structure CmdInfo where
  /-- opcode. -/
  op : Nat
  /-- Lengths the opcode defines, as ranges of words. -/
  lens : List (Nat × Nat)
  /-- Batchable (R105). -/
  batch : Bool := false
  /-- Staged under a vintage_handle (R161). -/
  staged : Bool := false
  /-- Restructuring (R24). -/
  restruct : Bool := false
deriving DecidableEq, Repr

/-- Commands of classes 0x00 to 0x02. -/
def cmdTbl0 : List CmdInfo := [
  { op := 0x0000, lens := [(0, 0)] }, { op := 0x0001, lens := [(0, 0)] }, { op := 0x0002, lens := [(8, 8)] },
  { op := 0x0003, lens := [(1, 1)] }, { op := 0x0004, lens := [(0, 0)] }, { op := 0x0005, lens := [(1, 1)] },
  { op := 0x0006, lens := [(32, 32)] },
  { op := 0x0100, lens := [(1, 1)], restruct := true }, { op := 0x0101, lens := [(4, 4)], batch := true },
  { op := 0x0102, lens := [(0, 0)] }, { op := 0x0120, lens := [(4, 4)], batch := true }, { op := 0x0121, lens := [(0, 0)] },
  { op := 0x0200, lens := [(0, 0)] }, { op := 0x0201, lens := [(8, 8)], staged := true },
  { op := 0x0202, lens := [(2, 2)], staged := true }, { op := 0x0203, lens := [(16, 16)], staged := true },
  { op := 0x0204, lens := [(0, 0)], staged := true }, { op := 0x0205, lens := [(1, 1)] },
  { op := 0x0210, lens := [(3, 3)], batch := true }, { op := 0x0211, lens := [(0, 0)] }]

/-- Commands of classes 0x03 to 0x05. -/
def cmdTbl1 : List CmdInfo := [
  { op := 0x0300, lens := [(8, 8)], staged := true }, { op := 0x0301, lens := [(5, 5), (11, 11)], staged := true },
  { op := 0x0302, lens := [(5, 5), (11, 11)], staged := true }, { op := 0x0303, lens := [(4, 4), (10, 10)], staged := true },
  { op := 0x0304, lens := [(5, 5), (11, 11)] }, { op := 0x0305, lens := [(0, 0)] }, { op := 0x0306, lens := [(0, 0)] },
  { op := 0x0310, lens := [(1, 1)], staged := true }, { op := 0x0311, lens := [(6, 6)], staged := true },
  { op := 0x0312, lens := [(6, 6)], staged := true }, { op := 0x0313, lens := [(6, 6)], staged := true },
  { op := 0x0314, lens := [(5, 5)] }, { op := 0x0316, lens := [(0, 0)] },
  { op := 0x0320, lens := [(2, 2)], staged := true }, { op := 0x0321, lens := [(16, 16)], staged := true },
  { op := 0x0400, lens := [(1, 1)], restruct := true }, { op := 0x0401, lens := [(19, 19)], staged := true },
  { op := 0x0402, lens := [(1, 1)], staged := true },
  { op := 0x0403, lens := [(11, 11), (21, 21), (41, 41)], staged := true },
  { op := 0x0404, lens := [(0, 0)], staged := true }, { op := 0x0405, lens := [(0, 0)] },
  { op := 0x0406, lens := [(8, 8), (13, 13), (23, 23)] }, { op := 0x0407, lens := [(0, 0)] },
  { op := 0x0500, lens := [(0, 0)] }, { op := 0x0501, lens := [(4, 1020)] }, { op := 0x0502, lens := [(0, 0)] },
  { op := 0x0503, lens := [(0, 0)] }, { op := 0x0504, lens := [(0, 0)] }, { op := 0x0505, lens := [(3, 3)] }]

/-- Commands of classes 0x06 to 0x08. -/
def cmdTbl2 : List CmdInfo := [
  { op := 0x0600, lens := [(7, 7)], staged := true }, { op := 0x0601, lens := [(0, 0)], staged := true },
  { op := 0x0602, lens := [(0, 0)] }, { op := 0x0603, lens := [(33, 33)], staged := true },
  { op := 0x0604, lens := [(0, 0)], staged := true }, { op := 0x0605, lens := [(3, 3)], staged := true },
  { op := 0x0606, lens := [(0, 0)], staged := true }, { op := 0x0607, lens := [(5, 5)], staged := true },
  { op := 0x0608, lens := [(1, 1)], staged := true }, { op := 0x0609, lens := [(5, 5)], batch := true },
  { op := 0x060A, lens := [(1, 1)], batch := true }, { op := 0x060B, lens := [(0, 0)] },
  { op := 0x060C, lens := [(1, 1)], batch := true }, { op := 0x060D, lens := [(0, 0)] }, { op := 0x060E, lens := [(0, 0)] },
  { op := 0x0700, lens := [(26, 26)] }, { op := 0x0701, lens := [(0, 0)] }, { op := 0x0702, lens := [(1, 1)], batch := true },
  { op := 0x0703, lens := [(0, 0)] }, { op := 0x0704, lens := [(1, 1), (3, 3)] }, { op := 0x0705, lens := [(1, 1)], batch := true },
  { op := 0x0706, lens := [(0, 0)] }, { op := 0x0707, lens := [(0, 0)] },
  { op := 0x0800, lens := [(1, 1)], batch := true }, { op := 0x0801, lens := [(1, 1)], batch := true },
  { op := 0x0802, lens := [(0, 0)] }, { op := 0x0803, lens := [(0, 0)] }, { op := 0x0804, lens := [(0, 0)] },
  { op := 0x0805, lens := [(0, 0)] }, { op := 0x0810, lens := [(1, 1)] }, { op := 0x0811, lens := [(1, 1)], batch := true },
  { op := 0x0812, lens := [(1, 1)], restruct := true }, { op := 0x0813, lens := [(4, 4)], batch := true },
  { op := 0x0814, lens := [(0, 0)] }, { op := 0x0815, lens := [(0, 0)] }, { op := 0x0816, lens := [(0, 0)] }]

/-- Commands of classes 0x09 to 0x0C. -/
def cmdTbl3 : List CmdInfo := [
  { op := 0x0900, lens := [(7, 7)], batch := true }, { op := 0x0901, lens := [(5, 5)], batch := true },
  { op := 0x0902, lens := [(4, 4)], batch := true }, { op := 0x0903, lens := [(0, 0)] }, { op := 0x0904, lens := [(0, 0)] },
  { op := 0x0905, lens := [(0, 0)] }, { op := 0x0906, lens := [(0, 0)] }, { op := 0x0907, lens := [(0, 0)] },
  { op := 0x0908, lens := [(3, 3)] }, { op := 0x0909, lens := [(3, 3)] },
  { op := 0x0A00, lens := [(5, 5)] }, { op := 0x0A01, lens := [(0, 0)] }, { op := 0x0A02, lens := [(2, 2)] },
  { op := 0x0A03, lens := [(10, 10)] }, { op := 0x0A04, lens := [(3, 3)], batch := true }, { op := 0x0A05, lens := [(0, 0)] },
  { op := 0x0A06, lens := [(0, 0)] }, { op := 0x0A10, lens := [(7, 7)], batch := true }, { op := 0x0A11, lens := [(0, 0)] },
  { op := 0x0A20, lens := [(5, 517)], batch := true }, { op := 0x0A21, lens := [(1, 1)] },
  { op := 0x0B00, lens := [(6, 6)] }, { op := 0x0B01, lens := [(7, 7)] }, { op := 0x0B02, lens := [(3, 3)], batch := true },
  { op := 0x0B03, lens := [(0, 0)] },
  { op := 0x0C00, lens := [(1, 1)] }, { op := 0x0C01, lens := [(12, 12)] }, { op := 0x0C02, lens := [(0, 0)] },
  { op := 0x0C03, lens := [(0, 0)] }, { op := 0x0C04, lens := [(1, 1)] }]

/-- Commands of classes 0x0D to 0x11. -/
def cmdTbl4 : List CmdInfo := [
  { op := 0x0D00, lens := [(4, 4)], batch := true }, { op := 0x0D01, lens := [(0, 0)] },
  { op := 0x0D20, lens := [(0, 0)] }, { op := 0x0D21, lens := [(0, 0)] }, { op := 0x0D22, lens := [(0, 0)] },
  { op := 0x0E00, lens := [(1, 1)], restruct := true }, { op := 0x0E01, lens := [(2, 2)], batch := true },
  { op := 0x0E02, lens := [(0, 0)] },
  { op := 0x0F00, lens := [(1, 1)] }, { op := 0x0F01, lens := [(1, 1)] }, { op := 0x0F02, lens := [(3, 3)] },
  { op := 0x0F03, lens := [(4, 4)] }, { op := 0x0F04, lens := [(0, 0)] }, { op := 0x0F05, lens := [(1, 1)] },
  { op := 0x0F10, lens := [(1, 1)] }, { op := 0x0F11, lens := [(0, 0)] }, { op := 0x0F20, lens := [(1, 1)] },
  { op := 0x0F21, lens := [(0, 0)] },
  { op := 0x1000, lens := [(0, 0)] }, { op := 0x1001, lens := [(0, 0)] }, { op := 0x1002, lens := [(0, 0)] },
  { op := 0x1003, lens := [(1, 1)], batch := true }, { op := 0x1004, lens := [(0, 0)] }, { op := 0x1005, lens := [(0, 0)] },
  { op := 0x1100, lens := [(3, 3)] }, { op := 0x1101, lens := [(1, 1)] }, { op := 0x1102, lens := [(1, 1)] },
  { op := 0x1110, lens := [(1, 1)] }, { op := 0x1111, lens := [(0, 0)] }]

/-- The opcode map. -/
def cmdTbl : List CmdInfo := cmdTbl0 ++ cmdTbl1 ++ cmdTbl2 ++ cmdTbl3 ++ cmdTbl4

/-- The entry of an opcode, none when it is not defined (R100). -/
def cmdInfo (op : Nat) : Option CmdInfo := cmdTbl.find? (fun i => i.op == op)

/-- Is a length one the opcode defines? -/
def CmdInfo.lenOk (i : CmdInfo) (n : Nat) : Bool := i.lens.any (fun r => decide (r.1 ≤ n) && decide (n ≤ r.2))

/-- Commands the mode accepts from CONFIG onward (R23). -/
def acceptedIn (m : Mode) (i : CmdInfo) : Bool :=
  let cls := i.op / 256
  match m with
  | .config => cls != 0x11
  | .forward | .twinActive | .twinStandby | .takeover | .drain => cls != 0x11 && !i.restruct
  | .safe => cls == 0x10 || i.op == 0 || i.op == 1 || i.op == 2
  | .diagnostic => !i.restruct && (cls != 0x11 || i.op == 0x1110 || i.op == 0x1111)
  | .factoryTest => true
  | .dormant => i.op == 1 || i.op == 2 || i.op == 3 || i.op == 0x1004 || i.op == 0x1005
  | .boot => i.op == 0 || i.op == 1 || i.op == 0x1004 || i.op == 0x1005
  | .off => false

/-- The class of a fault source, none for a code not listed (R560). -/
def faultClass (c : Nat) : Option Nat :=
  if c = 0 then some 3 else if c = 1 then some 2 else if c = 2 then some 3 else if c = 3 then some 2
  else if c ≤ 6 then some 1 else if c ≤ 9 then some 3
  else if c < 0x10 then none
  else if c ≤ 0x17 then some 1
  else if c ≤ 0x1F then some 2
  else if c ≤ 0x2B then some 0
  else if c < 0x30 then none
  else if c ≤ 0x3B then some 2
  else if c < 0x40 then none
  else if c ≤ 0x44 then some 0
  else if c = 0x45 then some 1
  else if c < 0x50 then none
  else if c ≤ 0x5A then some 0
  else if c < 0x60 then none
  else if c ≤ 0x8A ∧ c % 16 ≤ 10 then some 1
  else if 0x90 ≤ c ∧ c ≤ 0xAA ∧ c % 16 ≤ 10 then some 2
  else if c = 0xB0 then some 1
  else if 0xC0 ≤ c ∧ c ≤ 0xC7 then some 1
  else if 0xC8 ≤ c ∧ c ≤ 0xCF then some 3
  else if c = 0xD0 then some 1
  else if c = 0xE0 ∨ c = 0xE1 then some 1
  else if c = 0xE2 then some 0
  else if 0x100 ≤ c ∧ c ≤ 0x103 then some 0
  else if 0x104 ≤ c ∧ c ≤ 0x10B then some 1
  else if 0x10C ≤ c ∧ c ≤ 0x10F then some 2
  else if 0x110 ≤ c ∧ c ≤ 0x113 then some 1
  else if 0x140 ≤ c ∧ c ≤ 0x17F then some 2
  else if 0x180 ≤ c ∧ c ≤ 0x1C3 then some 1
  else none

end Sys2Proof.Machine
end

