-- ==== Sys2Proof/Machine/Crc.lean ====
section
/-!
DEFINITION. Checksums: CRC-32C (R174, R236), the frame check sequence (R437, R456), and the Internet checksum (R262, R302).
-/
namespace Sys2Proof

/-- One bit step of a reflected CRC-32 with polynomial `p`. -/
def crcBit (p c : Nat) : Nat := if c % 2 = 1 then (c / 2) ^^^ p else c / 2

/-- One byte of a reflected CRC-32. -/
def crcByte (p c : Nat) (b : Byte) : Nat :=
  let x := c ^^^ b.toNat
  crcBit p (crcBit p (crcBit p (crcBit p (crcBit p (crcBit p (crcBit p (crcBit p x)))))))

/-- CRC-32C with an initial value loaded as it stands and no final XOR (R174). The polynomial 0x1EDC6F41 reflected is 0x82F63B78. -/
def crc32c (init : Nat) (bs : Bytes) : Nat := bs.foldl (crcByte 0x82F63B78) init

/-- CRC-32C with initial value 0xFFFFFFFF (R236, R563, R569). -/
def crc32cF (bs : Bytes) : Nat := crc32c 0xFFFFFFFF bs

/-- The CRC-32 of IEEE 802.3, as a number whose little-endian bytes are the frame check sequence. -/
def fcs32 (bs : Bytes) : Nat := (bs.foldl (crcByte 0xEDB88320) 0xFFFFFFFF) ^^^ 0xFFFFFFFF

/-- The four bytes of the frame check sequence of a frame. -/
def fcsBytes (bs : Bytes) : Bytes := leBytes 4 (fcs32 bs)

/-- The sum of the 16-bit words of a string, in network order, a last odd byte filled with zero. -/
def sum16 : Bytes → Nat
  | [] => 0
  | [a] => a.toNat * 256
  | a :: b :: r => a.toNat * 256 + b.toNat + sum16 r

/-- Fold a sum into 16 bits with end-around carry. -/
def fold16 (n : Nat) : Nat :=
  let a := n % 65536 + n / 65536
  let b := a % 65536 + a / 65536
  b % 65536 + b / 65536

/-- The Internet checksum of a string. -/
def inetSum (bs : Bytes) : Nat := 65535 - fold16 (sum16 bs)

end Sys2Proof
end

