-- ==== Sys2Proof/Machine/StTables.lean ====
section
/-!
DEFINITION. State of the versioned rule set: parse graph, exact-match tables, prefix realms, profiles, TCAM, actions, meters, and the vintages that change them.
A field's default value is its value in State.reset.
-/
namespace Sys2Proof.Machine

/-- Geometry of one exact-match table (R167, R188). -/
structure EmDef where
  /-- Wide entries. -/
  wide : Bool
  /-- key_len in bytes. -/
  keyLen : Nat
  /-- base_block. -/
  base : Nat
  /-- size_log2. -/
  k : Nat
  /-- seed0. -/
  seed0 : Word
  /-- seed1. -/
  seed1 : Word
  /-- Used key segments: offset and length. -/
  segs : List (Nat × Nat)
deriving DecidableEq, Repr

/-- A TCAM search group (R208, R222). -/
structure TcamGroup where
  /-- MULTI mode. -/
  multi : Bool
  /-- Width code. -/
  width : Nat
  /-- bank_mask. -/
  banks : Nat
  /-- Priority of banks 0 to 63. -/
  prio : List Nat
  /-- Used key segments: offset and length. -/
  segs : List (Nat × Nat)
deriving DecidableEq, Repr

/-- What one epoch slot holds in register arrays, with the table definitions of that epoch (R141, R208, R228). -/
structure Arrays where
  /-- Valid parse states, eight words each (R142); unlisted ones are not valid. -/
  states : Tbl (List Word) := []
  /-- Valid transitions, two words each (R143). -/
  trans : Tbl (List Word) := []
  /-- Exception table, sixteen words (R150). -/
  except : List Word := []
  /-- Exact-match table definitions by table (R188). -/
  em : Tbl EmDef := []
  /-- max_units by realm (R193). -/
  realms : Tbl Nat := []
  /-- Lookup profiles, two words each (R197); unlisted ones disable every search. -/
  profiles : Tbl (List Word) := []
  /-- TCAM enables by profile (R210). -/
  tcamEn : Tbl Nat := []
  /-- The profile map, sixteen words (R183, R197). -/
  map : List Word := []
  /-- Search groups by number (R208). -/
  groups : Tbl TcamGroup := []
  /-- Bypass class: group mask (R271). -/
  bypass : Nat := 0
deriving DecidableEq, Repr

/-- An entry of the flow pool (R169, R170); a slot that is not listed has valid 0. -/
structure EmSlot where
  /-- Key, key_len bytes. -/
  key : Bytes
  /-- birth. -/
  birth : Nat
  /-- death. -/
  death : Nat
  /-- death_set. -/
  deathSet : Bool
  /-- Action index. -/
  action : Nat
deriving DecidableEq, Repr

/-- Blocks kept after a table is removed (R167). -/
structure EmReserve where
  /-- The table. -/
  table : Nat
  /-- Its definition. -/
  defn : EmDef
  /-- The epoch it is removed in. -/
  epoch : Nat
deriving DecidableEq, Repr

/-- Counts of one exact-match table (R192). -/
structure EmCount where
  /-- Placements refused. -/
  refused : Nat := 0
  /-- Most displacements of one placement. -/
  maxMoves : Nat := 0
  /-- Placements that needed any. -/
  moved : Nat := 0
  /-- LOOKUP_NO_TABLE. -/
  noTable : Nat := 0
  /-- Lookups since the last EM_STATUS. -/
  lookups : Nat := 0
  /-- Hits since the last EM_STATUS. -/
  hits : Nat := 0
deriving DecidableEq, Repr

/-- A prefix (R180). -/
structure Prefix where
  /-- Realm. -/
  realm : Nat
  /-- IPv6. -/
  v6 : Bool
  /-- Length. -/
  len : Nat
  /-- The prefix, as a number of 32 or 128 bits. -/
  addr : Nat
  /-- birth. -/
  birth : Nat
  /-- death. -/
  death : Nat
  /-- death_set. -/
  deathSet : Bool
  /-- Action index. -/
  action : Nat
deriving DecidableEq, Repr

/-- Lookup tables (R166 to R197). -/
structure Lookup where
  /-- Flow-pool slots in use. -/
  slots : Tbl EmSlot := []
  /-- Blocks still reserved. -/
  reserved : List EmReserve := []
  /-- Counts by table. -/
  counts : Tbl EmCount := []
  /-- Prefixes held, in order of staging. -/
  pfx : List Prefix := []
  /-- Lookups since the last PFX_STATUS, by realm. -/
  pfxLookups : Tbl Nat := []
  /-- Hits since the last PFX_STATUS, by realm. -/
  pfxHits : Tbl Nat := []
deriving DecidableEq, Repr

/-- A TCAM entry, in the shadow (R201, R202), keyed by bank times 2,048 plus head row. -/
structure TcamEnt where
  /-- Width code. -/
  width : Nat
  /-- Key, 20 bytes per unit. -/
  key : Bytes
  /-- Mask, 20 bytes per unit. -/
  mask : Bytes
  /-- birth. -/
  birth : Nat
  /-- death. -/
  death : Nat
  /-- death_set. -/
  deathSet : Bool
  /-- Action index. -/
  action : Nat
deriving DecidableEq, Repr

/-- Cells of one row of one replica where they differ from the shadow (R215, R217). -/
structure TcamCells where
  /-- Valid bit. -/
  valid : Bool
  /-- Key, 20 bytes. -/
  key : Bytes
  /-- Mask, 20 bytes. -/
  mask : Bytes
deriving DecidableEq, Repr

/-- Counts of one TCAM group (R227). -/
structure TcamCount where
  /-- Searches. -/
  searches : Nat := 0
  /-- Hits. -/
  hits : Nat := 0
  /-- Results with multi set. -/
  multi : Nat := 0
  /-- TCAM_STEP_LIMIT. -/
  stepLimit : Nat := 0
  /-- TCAM_STALE. -/
  stale : Nat := 0
  /-- TCAM_NO_GROUP. -/
  noGroup : Nat := 0
deriving DecidableEq, Repr

/-- The associative search banks (R198 to R227). -/
structure Tcam where
  /-- Width codes of banks; unlisted ones are 0 (R200). -/
  widths : Tbl Nat := []
  /-- Entries by bank times 2,048 plus head row. -/
  ents : Tbl TcamEnt := []
  /-- Replica A rows that differ from the shadow. -/
  diffA : Tbl TcamCells := []
  /-- Replica B rows that differ from the shadow. -/
  diffB : Tbl TcamCells := []
  /-- Shadow words with soft errors, by row times 8 plus the 64-bit word of its record: bits in error, 1 or 2 (R202, R218). -/
  shadowErr : Tbl Nat := []
  /-- Core clock of the last commit of a row from the staging buffer; unlisted rows have had none (R207). -/
  commits : Tbl Nat := []
  /-- Repair queue of replica A: rows (R216). -/
  repairA : List Nat := []
  /-- Repair queue of replica B. -/
  repairB : List Nat := []
  /-- Next row the scrubber reads (R217). -/
  scrubRow : Nat := 0
  /-- Counts by group. -/
  counts : Tbl TcamCount := []
  /-- Device counts 0 to 7 (R227). -/
  device : List Nat := [0, 0, 0, 0, 0, 0, 0, 0]
deriving DecidableEq, Repr

/-- An action entry (R257); an index that is not listed has valid 0. -/
structure ActEnt where
  /-- birth. -/
  birth : Nat
  /-- death. -/
  death : Nat
  /-- death_set. -/
  deathSet : Bool
  /-- Entry bytes 4 to 31 as written, seven words, live_refs zero. -/
  words : List Word
  /-- live_refs. -/
  refs : Nat
deriving DecidableEq, Repr

/-- A template (R258). -/
structure Template where
  /-- birth. -/
  birth : Nat
  /-- death. -/
  death : Nat
  /-- death_set. -/
  deathSet : Bool
  /-- length. -/
  len : Nat
  /-- Template data, 128 bytes. -/
  data : Bytes
  /-- live_refs. -/
  refs : Nat
deriving DecidableEq, Repr

/-- A next hop (R258). -/
structure NextHop where
  /-- birth. -/
  birth : Nat
  /-- death. -/
  death : Nat
  /-- death_set. -/
  deathSet : Bool
  /-- Entry bytes 4 to 15 as written, three words, live_refs zero. -/
  words : List Word
  /-- live_refs. -/
  refs : Nat
deriving DecidableEq, Repr

/-- One record position of a mirror session (R260, R270). -/
structure MirrorPos where
  /-- birth; 0 while the position has never been used. -/
  birth : Nat := 0
  /-- death; 0 while it has none. -/
  death : Nat := 0
  /-- The five words. -/
  words : List Word := [0#32, 0#32, 0#32, 0#32, 0#32]
deriving DecidableEq, Repr

/-- A meter (R267). -/
structure Meter where
  /-- Committed bucket, 24.8. -/
  cb : Nat := 0
  /-- Peak or excess bucket, 24.8. -/
  pb : Nat := 0
  /-- Core-clock count of the last update, whole; the low 32 bits are reported. -/
  clock : Nat := 0
  /-- Profile. -/
  profile : Nat := 0
  /-- Enable. -/
  enable : Bool := false
  /-- live_refs. -/
  refs : Nat := 0
deriving DecidableEq, Repr

/-- Actions, rewrite, meters and mirrors (R255 to R280). -/
structure Actions where
  /-- Action entries. -/
  acts : Tbl ActEnt := []
  /-- Templates. -/
  tmpls : Tbl Template := []
  /-- Next hops. -/
  hops : Tbl NextHop := []
  /-- Four positions of each mirror session; unlisted sessions were never set. -/
  mirrors : Tbl (List MirrorPos) := []
  /-- Packets that triggered a session, for sampling. -/
  samples : Tbl Nat := []
  /-- Meter profiles, five words; unlisted ones were never set. -/
  mprofiles : Tbl (List Word) := []
  /-- Meters. -/
  meters : Tbl Meter := []
  /-- live_refs of SA bindings (R276). -/
  bindRefs : Tbl Nat := []
  /-- ttl_to_host (R280). -/
  ttlToHost : Bool := false
  /-- bypass_strict. -/
  bypassStrict : Bool := true
  /-- host_queue; 0xFFFF for none. -/
  hostQueue : Nat := 65535
  /-- ACT_STATUS counts 0 to 7. -/
  counts : List Nat := [0, 0, 0, 0, 0, 0, 0, 0]
  /-- Drop counts by reason (R273). -/
  drops : Tbl Nat := []
  /-- To-host counts by reason. -/
  toHost : Tbl Nat := []
deriving DecidableEq, Repr

/-- Vintage states (R233). -/
inductive VState
  | opened | waitSlot | waitTwin | waitTime | committed | aborted | prepared
deriving DecidableEq, Repr

/-- State codes (R233). -/
def VState.code : VState → Nat
  | .opened => 1 | .waitSlot => 2 | .waitTwin => 3 | .waitTime => 4 | .committed => 5 | .aborted => 6 | .prepared => 7

/-- A vintage (R233 to R240). -/
structure Vintage where
  /-- Handle (R234). -/
  handle : Nat
  /-- N. -/
  n : Nat
  /-- State. -/
  state : VState
  /-- Operations staged (R235). -/
  ops : Nat := 0
  /-- Staging digest (R236). -/
  digest : Word := 0xFFFFFFFF#32
  /-- The register arrays and definitions as staged for N. -/
  arrays : Arrays := {}
  /-- A relayed command failed here (R245). -/
  diverged : Bool := false
  /-- Committed without the twin (R246). -/
  standalone : Bool := false
  /-- Slot reserved or taken. -/
  slot : Nat := 0
  /-- Line-time instant of a timed commit, ns times 2^16 (R240). -/
  at? : Option Nat := none
  /-- Record time, in ns times 2^16, at which WAIT_SLOT was entered. -/
  waitFrom : Nat := 0
  /-- On the standby: the prepare message has come (R246). -/
  prepareSeen : Bool := false
  /-- T was past, or within 2 µs, as the timed commit started (R240, R415). -/
  atOnce : Bool := false
deriving DecidableEq, Repr

/-- One of the four epoch slots (R231, R241). -/
structure Slot where
  /-- A live epoch stands here. -/
  live : Bool := false
  /-- The epoch. -/
  epoch : Nat := 0
  /-- Register arrays and definitions. -/
  arrays : Arrays := {}
  /-- PASS. -/
  pass : Nat := 0
  /-- RECIRC. -/
  recirc : Nat := 0
  /-- HOLD. -/
  hold : Nat := 0
  /-- FRAG. -/
  frag : Nat := 0
  /-- Low 32 bits of record-time ns of the commit cycle (R254). -/
  commitNs : Nat := 0
  /-- Record time, in ns times 2^16, at which the next commit superseded it. -/
  superseded : Nat := 0
deriving DecidableEq, Repr

/-- Vintages, epochs and slots (R228 to R254). -/
structure Vintages where
  /-- The current slot. -/
  cur : Nat := 0
  /-- Slots 0 to 3. -/
  slots : List Slot := [{}, {}, {}, {}]
  /-- The vintage in a state from OPEN to WAIT_TIME, or PREPARED. -/
  vint : Option Vintage := none
  /-- The vintage that ended last, its arrays dropped. -/
  last : Option Vintage := none
  /-- Vintages opened in this boot (R234). -/
  opened : Nat := 0
  /-- Committed epochs that keep a log region (R235). -/
  regions : List Nat := []
  /-- Epochs retired in this boot. -/
  retired : Nat := 0
  /-- Longest time in WAIT_SLOT, us. -/
  maxWait : Nat := 0
  /-- Rebasing passes completed. -/
  rebased : Nat := 0
  /-- A vintage marked aborted by a machine check, to be undone at restart (R491). -/
  undoPending : Bool := false
  /-- Epochs whose sweep is pending: the log regions to walk (R244). -/
  sweepDue : Bool := false
deriving DecidableEq, Repr

/-- The parse engine's counts (R163). -/
structure ParseBlk where
  /-- Results 0 to 7, IPV4_OPTIONS, TINY_FIRST. -/
  counts : List Nat := [0, 0, 0, 0, 0, 0, 0, 0, 0, 0]
deriving DecidableEq, Repr

end Sys2Proof.Machine
end

