-- ==== Sys2Proof/Machine/StData.lean ====
section
/-!
DEFINITION. State of the data path: landing buffers, slices and reorder, fragments, security associations, the switch core and its pools, the scheduler, MAC ports and host traffic rings.
A field's default value is its value in State.reset.
-/
namespace Sys2Proof.Machine

/-- A packet on its way through the slices (R128, R145). -/
structure Pkt where
  /-- The frame without its FCS. -/
  bytes : Bytes
  /-- Received length with FCS (R128). -/
  rxLen : Nat
  /-- Core port that presented it for this pass. -/
  source : Nat
  /-- Core port of first entry. -/
  origin : Nat
  /-- MAC port of first entry; 0 for other origins. -/
  port : Nat := 0
  /-- Its origin port is cipher side. -/
  cipherSide : Bool := false
  /-- Per-source sequence number. -/
  seq : Nat := 0
  /-- Epoch slot. -/
  slot : Nat := 0
  /-- Pass, 0 to 2. -/
  pass : Nat := 0
  /-- Slice of this pass. -/
  slice : Nat := 0
  /-- Released from the fragment hold. -/
  fragRelease : Bool := false
  /-- Low 16 bits of the core clock at the grant. -/
  assignClock : Nat := 0
  /-- Decrypted by the ingress cipher unit. -/
  decrypted : Bool := false
  /-- Inbound SA index of a decrypted frame. -/
  sa : Nat := 0
  /-- The outer IP header of an ESP tunnel was kept (R296). -/
  outerKept : Bool := false
  /-- Line-time stamp of its start, ns times 2^16 (R398). -/
  stamp : Option Nat := none
  /-- Mirror sessions that have triggered on it (R270). -/
  mirrored : List Nat := []
  /-- The key of its fragment-table entry, on a first fragment that created one (R155). -/
  fragKey : Option (Nat × Bytes) := none
deriving DecidableEq, Repr

/-- A copy a pass produces, for one target (R330). -/
structure Copy where
  /-- The frame without its FCS. -/
  bytes : Bytes
  /-- Scheduler port it goes to: 0 to 63, 64 HOST, 65 RECIRC, 66 TWIN. -/
  port : Nat
  /-- Flow queue. -/
  queue : Nat
  /-- Cipher intent, 0 to 3 (R265). -/
  intent : Nat := 0
  /-- SA binding. -/
  binding : Nat := 0
  /-- ESP-in-UDP. -/
  espUdp : Bool := false
  /-- The header list after the pass's edits, by which the cipher unit locates headers (R146). -/
  hl : List (Nat × Nat) := []
  /-- Length of the tunnel template pushed before the outermost IP header of the list (R265). -/
  outer : Nat := 0
  /-- Bypass mark (R271). -/
  bypass : Bool := false
  /-- Mirror session, none for the primary copy. -/
  session : Option Nat := none
  /-- truncate of a mirror copy; 0 for none. -/
  truncate : Nat := 0
  /-- Reason of a to-host copy. -/
  reason : Nat := 0
  /-- The packet it is a copy of. -/
  pkt : Pkt
deriving DecidableEq, Repr

/-- A reorder entry (R129). -/
inductive REntry
  /-- Still in a slice. -/
  | busy (seq : Nat)
  /-- A hole marker. -/
  | hole (seq : Nat)
  /-- A finished pass and its copies, the primary first when there is one. -/
  | ready (seq : Nat) (copies : List Copy)
deriving DecidableEq, Repr

/-- A frame that holds landing-buffer cells (R115, R116). -/
structure LFrame where
  /-- The packet. -/
  pkt : Pkt
  /-- MAC port. -/
  port : Nat
  /-- Cells held. -/
  cells : Nat
  /-- Priority (R121). -/
  prio : Nat
deriving DecidableEq, Repr

/-- Landing-buffer settings and state of one port (R118 to R125). -/
structure LbPort where
  /-- share_cells. -/
  share : Nat := 0
  /-- common_limit_cells. -/
  common : Nat := 0
  /-- xoff_cells. -/
  xoff : Nat := 0
  /-- xon_cells. -/
  xon : Nat := 0
  /-- fc_mode. -/
  fcMode : Nat := 0
  /-- pfc_mask. -/
  pfcMask : Nat := 0
  /-- default_pri. -/
  defPri : Nat := 0
  /-- xoff_quanta. -/
  xoffQuanta : Nat := 0
  /-- refresh_quanta. -/
  refresh : Nat := 0
  /-- XOFF in force for the whole port. -/
  xoffOn : Bool := false
  /-- Priorities in PFC XOFF. -/
  pfcOn : Nat := 0
  /-- Peak occupancy since the last LB_STATUS. -/
  peak : Nat := 0
  /-- XOFF events sent. -/
  xoffs : Nat := 0
  /-- LB_OVERRUN. -/
  overrun : Nat := 0
  /-- Frames discarded before landing. -/
  discards : Nat := 0
deriving DecidableEq, Repr

/-- One group's landing buffer (R115). -/
structure LbGroup where
  /-- Landed frames, in landing order. -/
  queue : List LFrame := []
  /-- Frames in the pending-cipher state, in arrival order. -/
  pend : List LFrame := []
  /-- Plain-side frames complete while the cipher unit waits for a fetch: they land when it ends (R117). -/
  after : List LFrame := []
  /-- Frames landed while the distributor was held for wake. -/
  heldLands : Nat := 0
  /-- The cipher unit waits for a fetch of this SA (R117). -/
  stalled : Option Nat := none
  /-- The SA found for the first pending frame, whose refs the frame counts in (R305). -/
  found : Option Nat := none
deriving DecidableEq, Repr

/-- Slice states, in the order of R135. -/
inductive SliceState
  | inService | retiring | retiredPolicy | retiredHost | isolated
deriving DecidableEq, Repr

/-- State codes of R137. -/
def SliceState.code : SliceState → Nat
  | .inService => 0 | .retiring => 1 | .retiredPolicy => 2 | .retiredHost => 3 | .isolated => 4

/-- A slice (R126, R131, R135). -/
structure Slice where
  /-- Its state. -/
  st : SliceState := .inService
  /-- The state it takes once empty, while RETIRING. -/
  after : SliceState := .retiredPolicy
  /-- Packets it holds, oldest first, each with whether it has timed out. -/
  held : List (Pkt × Bool) := []
  /-- Slice timeouts in this boot, to 65,535. -/
  timeouts : Nat := 0
  /-- SLICE_LATE. -/
  late : Nat := 0
  /-- The fault source that isolated it. -/
  isolator : Nat := 0
  /-- Passes granted since the last SLICE_POLICY window (R505). -/
  passes : Nat := 0
  /-- Admitted, and waiting for its domain to reach RUN (R136). -/
  admitting : Bool := false
deriving DecidableEq, Repr

/-- One source's distribution and reorder state (R126 to R130). -/
structure Source where
  /-- Next sequence number, modulo 65,536. -/
  nextSeq : Nat := 0
  /-- The reorder window, head first. -/
  window : List REntry := []
  /-- HOLE_DROP. -/
  holeDrop : Nat := 0
  /-- HOLE_HELD. -/
  holeHeld : Nat := 0
  /-- HOLE_TIMEOUT. -/
  holeTimeout : Nat := 0
  /-- Residue entries in use (R332). -/
  residue : Nat := 0
deriving DecidableEq, Repr

/-- Landing, distribution, slices and reorder (R115 to R137). -/
structure Ingress where
  /-- Landing-buffer settings by MAC port. -/
  ports : Tbl LbPort := []
  /-- The eight landing buffers. -/
  groups : List LbGroup := List.replicate 8 {}
  /-- The eight slices. -/
  slices : List Slice := List.replicate 8 {}
  /-- The eleven sources. -/
  sources : List Source := List.replicate 11 {}
  /-- Round-robin pointer of sources (R126). -/
  ptr : Nat := 0
  /-- The slice that received the last grant of the previous round (R126). -/
  lastSlice : Nat := 7
  /-- The RECIRC queue served last, for alternation (R338). -/
  recircLast : Nat := 1
  /-- Frames in the host transmit staging buffer, as source 8 sees them (R444). -/
  hostQ : List Pkt := []
  /-- Packets in the Trellis receive buffer, source 10 (R475). -/
  twinQ : List Pkt := []
deriving DecidableEq, Repr

/-- A fragment-table entry (R154). -/
structure FragEnt where
  /-- IPv6. -/
  v6 : Bool
  /-- Key: source, destination, identification, protocol, as bytes 0 to 36 of the entry. -/
  key : Bytes
  /-- decided. -/
  decided : Bool := false
  /-- last_seen. -/
  lastSeen : Bool := false
  /-- Epoch of the first fragment. -/
  epoch : Nat
  /-- Its live slot. -/
  slot : Nat
  /-- sa_binding, when binding_valid. -/
  binding : Option Nat := none
  /-- Action index of the decision. -/
  action : Nat := 0
  /-- Flow queue. -/
  queue : Nat := 0
  /-- Origin core port. -/
  origin : Nat := 0
  /-- created, record time in ns times 2^16. -/
  created : Nat
  /-- last_use, record time in ns times 2^16. -/
  lastUse : Nat
  /-- Fragments served. -/
  fragments : Nat := 0
deriving DecidableEq, Repr

/-- A held fragment (R157). -/
structure FragHeld where
  /-- Its key bytes. -/
  key : Bytes
  /-- The packet. -/
  pkt : Pkt
  /-- Units it takes in column 9. -/
  units : Nat
  /-- Its buffer in column 9. -/
  handle : Nat
  /-- Owner and pool that the buffer's allocation wrote (R355). -/
  owner : Nat
  pool : Nat
  /-- Record time it was held, ns times 2^16. -/
  at_ : Nat
deriving DecidableEq, Repr

/-- Fragment handling (R152 to R165). -/
structure Frag where
  /-- hold_timeout_us. -/
  timeoutUs : Nat := 1000
  /-- orphan_action: to host. -/
  orphanHost : Bool := false
  /-- orphan_queue. -/
  orphanQueue : Nat := 0
  /-- frag_enable. -/
  enable : Bool := true
  /-- Entries, keyed by set times 4 plus way. -/
  table : Tbl FragEnt := []
  /-- Held fragments, in arrival order. -/
  held : List FragHeld := []
  /-- Peak held since the last FRAG_STATUS. -/
  peak : Nat := 0
  /-- FIRST_CREATED to LIFETIME_EXPIRED (R165). -/
  counts : List Nat := [0, 0, 0, 0, 0, 0, 0, 0, 0, 0]
deriving DecidableEq, Repr

/-- A security association (R283, R286). -/
structure Sa where
  /-- key, 32 bytes. -/
  key : Bytes
  /-- nonce_salt, 12 bytes. -/
  salt : Bytes
  /-- ssci. -/
  ssci : Nat
  /-- sci, network order. -/
  sci : Nat
  /-- pn. -/
  pn : Nat
  /-- threshold. -/
  threshold : Nat
  /-- spi. -/
  spi : Nat
  /-- Byte 76: valid, outbound, esp, extended, aes256, replay_off, tunnel, udp_encap. -/
  flags : Nat
  /-- conf. -/
  conf : Nat
  /-- include_sci. -/
  includeSci : Bool
  /-- outer_keep. -/
  outerKeep : Bool
  /-- pinned by pin at installation or by SA_SPILL_POLICY. -/
  pin : Bool
  /-- frozen. -/
  frozen : Bool := false
  /-- threshold_raised. -/
  thrRaised : Bool := false
  /-- exhausted. -/
  exhausted : Bool := false
  /-- an. -/
  an : Nat
  /-- Port group. -/
  group : Nat
  /-- Inbound MACsec port. -/
  port : Nat
  /-- window_bits. -/
  windowBits : Nat
  /-- Replay window, bit i for number H - i. -/
  window : Nat := 0
  /-- counter. -/
  counter : Nat
  /-- count_en. -/
  countEn : Bool
  /-- was_bound. -/
  wasBound : Bool := false
  /-- install_serial. -/
  serial : Nat
  /-- discards_a. -/
  discA : Nat := 0
  /-- discards_b. -/
  discB : Nat := 0
  /-- udp_src. -/
  udpSrc : Nat
  /-- udp_dst. -/
  udpDst : Nat
deriving DecidableEq, Repr

/-- Residency of an installed SA (R286 bytes 104 to 119). -/
structure SaRes where
  /-- The context, none while it lives only in its DDR5 record. -/
  ctx : Option Sa
  /-- lost. -/
  lost : Bool := false
  /-- age. -/
  age : Nat := 0
  /-- Window slot held. -/
  windowSlot : Option Nat := none
  /-- refs. -/
  refs : Nat := 0
  /-- generation. -/
  generation : Nat := 0
  /-- Being retired (R307). -/
  retiring : Bool := false
  /-- A fetch of it is in flight. -/
  fetching : Bool := false
  /-- Outbound (fixed property, R283). -/
  outbound : Bool
  /-- ESP (fixed property). -/
  esp : Bool
  /-- Group (fixed property). -/
  group : Nat
  /-- Inbound with its replay check on (fixed property). -/
  replay : Bool
  /-- Pinned by request. -/
  pin : Bool := false
  /-- Bound at some time. -/
  wasBound : Bool := false
  /-- SPI bits 31:22 required of inbound ESP (fixed property). -/
  spiSalt : Nat := 0
  /-- include_sci (fixed property), which the charged length needs (R370). -/
  includeSci : Bool := false
  /-- exhausted, known to the action stage whether the SA is resident or not (R299). -/
  exhausted : Bool := false
deriving DecidableEq, Repr

/-- A binding entry (R287); live_refs stands in Actions. -/
structure Binding where
  /-- sa_index. -/
  sa : Nat
  /-- valid. -/
  valid : Bool
  /-- group. -/
  group : Nat
  /-- esp. -/
  esp : Bool
  /-- tunnel. -/
  tunnel : Bool
  /-- udp_encap. -/
  udp : Bool
  /-- Expected generation. -/
  generation : Nat
deriving DecidableEq, Repr

/-- An SCI table entry (R288). -/
structure SciEnt where
  /-- Port group. -/
  group : Nat
  /-- MAC port. -/
  port : Nat
  /-- SCI. -/
  sci : Nat
  /-- AN slots 0 to 3: SA index and expected generation. -/
  slots : List (Option (Nat × Nat)) := [none, none, none, none]
deriving DecidableEq, Repr

/-- Settings of a cipher-side port (R318). -/
structure CipherPort where
  /-- accept. -/
  accept : Nat := 0
  /-- land_unprotected. -/
  landUnprotected : Bool := false
deriving DecidableEq, Repr

/-- A frame selected for a port group, before its egress cipher unit or its MAC (R300, R377). -/
structure Sel where
  /-- MAC port. -/
  port : Nat
  /-- The copy, with bytes as read from the buffer. -/
  copy : Copy
  /-- Flow queue. -/
  queue : Nat
  /-- Charged length. -/
  charged : Nat
  /-- Planned start, line time in ns times 2^16, when it has one (R413). -/
  plan : Option Nat := none
  /-- One-step at selection (R416). -/
  oneStep : Bool := false
deriving DecidableEq, Repr

/-- A whole frame at its MAC (R433). -/
structure Tx where
  /-- The frame without FCS. -/
  bytes : Bytes
  /-- Cipher mark. -/
  mark : Bool
  /-- Bypass mark. -/
  bypass : Bool
  /-- SA whose refs it holds. -/
  sa : Option Nat
  /-- Charged length. -/
  charged : Nat
  /-- Planned start. -/
  plan : Option Nat := none
  /-- The frame before encryption, where it was encrypted (R400). -/
  ptp : Option Bytes := none
  /-- Its time was inserted at selection (R416). -/
  oneStep : Bool := false
deriving DecidableEq, Repr

/-- Cipher units (R281 to R320). -/
structure Cipher where
  /-- Installed SAs by index. -/
  sas : Tbl SaRes := []
  /-- Bindings; unlisted ones are invalid and never switched. -/
  bindings : Tbl Binding := []
  /-- SCI entries. -/
  sci : List SciEnt := []
  /-- Settings of cipher-side ports. -/
  ports : Tbl CipherPort := []
  /-- spill_enable. -/
  spillEnable : Bool := false
  /-- pin_esp_inbound. -/
  pinEspInbound : Bool := true
  /-- spill_base. -/
  spillBase : Nat := 0
  /-- SA_SPILL_POLICY has placed the records in this boot (R308, R311). -/
  spillPlaced : Bool := false
  /-- The seal key, none after zeroize (R308, R314). -/
  sealKey : Option Bytes := none
  /-- Seals in this boot (R308). -/
  sealCount : Nat := 0
  /-- SA_INSTALL commands completed with OK in this boot. -/
  installs : Nat := 0
  /-- Retirements completed in this boot. -/
  retirements : Nat := 0
  /-- Exhaustions in this boot. -/
  exhaustions : Nat := 0
  /-- Threshold events in this boot. -/
  thresholds : Nat := 0
  /-- CIPHER_STATUS words of the groups, sixteen each (R319). -/
  counts : Tbl (List Nat) := []
  /-- Fetches, seals, evictions, SAs lost (R319). -/
  device : List Nat := [0, 0, 0, 0]
  /-- Frames selected for each group's egress unit, oldest first. -/
  egress : Tbl (List Sel) := []
  /-- Egress guards disabled in FACTORY_TEST, by group (R580). -/
  guardOff : Nat := 0
deriving DecidableEq, Repr

/-- A buffer in use or quarantined (R352). -/
structure Buf where
  /-- owner; 15 while free. -/
  owner : Nat
  /-- pool. -/
  pool : Nat
  /-- refcount. -/
  refs : Nat
  /-- quarantined. -/
  quarantined : Bool := false
  /-- guard. -/
  guardBuf : Bool := false
  /-- A fault planted in the header parity (R579). -/
  parityBad : Bool := false
  /-- The frame stored, without FCS. -/
  bytes : Bytes := []
deriving DecidableEq, Repr

/-- A free list: buffers pushed since the carve, then the buffers never used, from `lo` up to `hi` (R354). -/
structure FreeList where
  /-- Pushed buffers, head first: unit indices. -/
  stack : List Nat := []
  /-- First unit of the buffers never used. -/
  lo : Nat := 0
  /-- Unit after the last of them. -/
  hi : Nat := 0
deriving DecidableEq, Repr

/-- A column's pools (R345 to R367). -/
structure Column where
  /-- Segments of pools 0, 1 and 2. -/
  segs : List Nat := [64, 128, 192]
  /-- Segments asked for by a carve in progress. -/
  carve : Option (List Nat) := none
  /-- Segments the carve has to move. -/
  carveMoves : Nat := 0
  /-- Segments the carve has moved already. -/
  carveDone : List Nat := []
  /-- Buffers in use or quarantined, by first unit. -/
  bufs : Tbl Buf := []
  /-- Free lists of pools 0 to 3. -/
  free : List FreeList := [{}, {}, {}, {}]
  /-- Pools being rebuilt. -/
  rebuilding : List Nat := []
  /-- Record time of the last broken list, ns times 2^16. -/
  lastBroken : Option Nat := none
  /-- POOL_FALLBACK. -/
  fallback : Bool := false
  /-- Arbiter pointers of pools 0 to 3 (R350). -/
  arb : List Nat := [0, 0, 0, 0]
  /-- Write grant pointer (R324). -/
  grant : Nat := 0
  /-- Core clock in which the writes granted so far end (R324). -/
  busy : Nat := 0
  /-- Free buffers whose link holds planted errors: first unit and bits in error (R356, R579). -/
  badLinks : Tbl Nat := []
  /-- The alpha code (R326). -/
  alpha : Nat := 7
  /-- hold_units. -/
  holdUnits : Nat := 0
  /-- Quotas of compatibility mode, keyed by source times 4 plus pool (R360). -/
  quota : Tbl Nat := []
  /-- Counts: FALLBACKS, ARB_LOSSES, EMPTY_WAITS, GUARD_USES, DOUBLE_FREE, FOREIGN_FREE, parity errors, rebuilds (R366). -/
  counts : List Nat := [0, 0, 0, 0, 0, 0, 0, 0]
  /-- Lowest free count of any pool since the last POOL_STATUS. -/
  lowFree : Nat := 65535
  /-- Peak units in use since the last CORE_COLUMN_STATUS. -/
  peak : Nat := 0
  /-- References freed by the flush engine. -/
  flushed : Nat := 0
  /-- Writes discarded toward ports in FLUSH. -/
  flushDrops : Nat := 0
  /-- Core clocks with a write in progress since the last read. -/
  writeClocks : Nat := 0
  /-- Core clocks a ready write awaited its grant, since the last read. -/
  grantWaits : Nat := 0
  /-- Queue entries in use (R371). -/
  qents : Nat := 0
deriving DecidableEq, Repr

/-- A waiting mirror copy (R331). -/
structure Residue where
  /-- The copy. -/
  copy : Copy
  /-- Column and first unit of the buffer it references. -/
  refCol : Nat
  refUnit : Nat
  /-- Owner and pool that the buffer's allocation wrote (R355). -/
  owner : Nat
  pool : Nat
  /-- Record time of its release, ns times 2^16. -/
  at_ : Nat
deriving DecidableEq, Repr

/-- A crosspoint (R325, R344). -/
structure Xp where
  /-- reserved_min. -/
  rmin : Nat := 1024
  /-- shared_limit. -/
  slimit : Nat := 3072
  /-- pending(x) (R328). -/
  pending : Nat := 0
  /-- Residue list, head first. -/
  residue : List Residue := []
  /-- Peak occupancy since the last read. -/
  peak : Nat := 0
  /-- MIRROR_AGED. -/
  aged : Nat := 0
  /-- RESIDUE_FULL. -/
  resFull : Nat := 0
  /-- MIRROR_NO_CREDIT. -/
  noCredit : Nat := 0
  /-- Packets written. -/
  written : Nat := 0
  /-- Core clocks in which a write waited, since the last read. -/
  waits : Nat := 0
deriving DecidableEq, Repr

/-- Egress states of R333. -/
inductive Egress
  | flush | await | enabled
deriving DecidableEq, Repr

/-- Egress state codes. -/
def Egress.code : Egress → Nat
  | .flush => 0 | .await => 1 | .enabled => 2

/-- Egress side of a scheduler port (R333, R344). -/
structure CorePort where
  /-- Egress state. -/
  egress : Egress := .flush
  /-- Port-down discards, 64 bits. -/
  downDiscards : Nat := 0
  /-- Frames discarded since it last entered FLUSH. -/
  sinceFlush : Nat := 0
  /-- Record time at which it left FLUSH, ns times 2^16. -/
  leftFlush : Nat := 0
  /-- A CORE_PORT_FLUSH is in progress. -/
  cmdFlush : Bool := false
  /-- References awaiting the flush engine: column and first unit. -/
  marked : List (Nat × Nat × Nat × Nat) := []
deriving DecidableEq, Repr

/-- The switch core (R321 to R367). -/
structure Core where
  /-- Columns 0 to 10. -/
  cols : List Column := List.replicate 11 {}
  /-- Crosspoints, keyed by source times 16 plus column; unlisted ones as at CONFIG. -/
  xps : Tbl Xp := []
  /-- Scheduler ports 0 to 66; unlisted ones in FLUSH. -/
  ports : Tbl CorePort := []
  /-- GX-480 compatibility mode. -/
  compat : Bool := false
deriving DecidableEq, Repr

/-- A token-bucket shaper (R380). -/
structure Shaper where
  /-- Enabled. -/
  en : Bool := false
  /-- rate_kbps. -/
  rate : Nat := 0
  /-- burst. -/
  burst : Nat := 0
  /-- Tokens, bytes times 2^24. -/
  tokens : Int := 0
  /-- Interval in force, ns. -/
  interval : Nat := 1000
  /-- A changed rate and burst that apply at the next refill (R382). -/
  next : Option (Nat × Nat) := none
deriving DecidableEq, Repr

/-- DRR state of one level (R374). -/
structure Drr where
  /-- Pointer: a member's number. -/
  ptr : Nat := 0
  /-- Visit flag. -/
  visit : Bool := false
deriving DecidableEq, Repr

/-- A queued copy (R371). -/
structure QEnt where
  /-- The copy, its bytes held in the buffer. -/
  copy : Copy
  /-- Column. -/
  col : Nat
  /-- First unit of its buffer. -/
  unit : Nat
  /-- Owner its reference carries (R355). -/
  owner : Nat
  /-- Pool its reference carries. -/
  pool : Nat
  /-- Stored length (R348, R370). -/
  len : Nat
  /-- Truncation cuts bytes off (R270, R448). -/
  trunc : Bool
  /-- Record time its write completed, ns times 2^16. -/
  at_ : Nat
deriving DecidableEq, Repr

/-- Running statistics of a sampled queue (R383). -/
structure QStats where
  /-- Samples since the last read. -/
  n : Nat := 0
  /-- Depth: minimum, maximum, mean. -/
  dMin : Nat := 0
  dMax : Nat := 0
  dMean : Nat := 0
  /-- Sojourn: minimum, maximum, mean. -/
  sMin : Nat := 0
  sMax : Nat := 0
  sMean : Nat := 0
deriving DecidableEq, Repr

/-- A flow queue (R368, R391). -/
structure FQueue where
  /-- enable. -/
  en : Bool := false
  /-- Group. -/
  group : Nat := 0
  /-- quantum. -/
  quantum : Nat := 0
  /-- Shaper. -/
  shaper : Shaper := {}
  /-- sample_en. -/
  sampleEn : Bool := false
  /-- sample_to_ring. -/
  toRing : Bool := false
  /-- sample_n. -/
  sampleN : Nat := 0
  /-- Selections since the last sample. -/
  sampleCnt : Nat := 0
  /-- Running values. -/
  stats : QStats := {}
  /-- Deficit. -/
  deficit : Nat := 0
  /-- Queued copies, head first. -/
  q : List QEnt := []
  /-- Frames selected. -/
  frames : Nat := 0
  /-- Bytes selected. -/
  bytes : Nat := 0
deriving DecidableEq, Repr

/-- A scheduler group (R368, R390). -/
structure SGroup where
  /-- enable. -/
  en : Bool := false
  /-- Port node. -/
  port : Nat := 0
  /-- Class. -/
  cls : Nat := 0
  /-- quantum. -/
  quantum : Nat := 0
  /-- Shaper. -/
  shaper : Shaper := {}
  /-- adaptive. -/
  adaptive : Bool := false
  /-- round_bound_ns. -/
  bound : Nat := 0
  /-- M, bytes times 2^16. -/
  mean : Nat := 67108864
  /-- k in force. -/
  k : Nat := 1
  /-- k computed for the next round. -/
  kNext : Nat := 1
  /-- ROUND_BOUND_MISS. -/
  miss : Nat := 0
  /-- Deficit within the class. -/
  deficit : Nat := 0
  /-- DRR state over its queues. -/
  drr : Drr := {}
deriving DecidableEq, Repr

/-- A port node (R368, R389). -/
structure PortNode where
  /-- sp_mask. -/
  spMask : Nat := 0
  /-- charge_adjust. -/
  adjust : Int := 0
  /-- class_quantum 0 to 7. -/
  quanta : List Nat := [2048, 2048, 2048, 2048, 2048, 2048, 2048, 2048]
  /-- Shaper. -/
  shaper : Shaper := {}
  /-- Deficits of classes 0 to 7. -/
  deficits : List Nat := [0, 0, 0, 0, 0, 0, 0, 0]
  /-- DRR state over the classes. -/
  drr : Drr := {}
  /-- DRR state of each class over its groups. -/
  clsDrr : List Drr := [{}, {}, {}, {}, {}, {}, {}, {}]
  /-- Selections. -/
  selections : Nat := 0
  /-- GATE_OVERSIZE. -/
  oversize : Nat := 0
  /-- Selections deferred by a gate since the last read (R427). -/
  deferred : Nat := 0
deriving DecidableEq, Repr

/-- The scheduler (R368 to R395). -/
structure Sched where
  /-- Port nodes 0 to 66; unlisted ones as at CONFIG. -/
  nodes : Tbl PortNode := []
  /-- Groups; unlisted ones not enabled. -/
  groups : Tbl SGroup := []
  /-- Flow queues; unlisted ones not enabled. -/
  queues : Tbl FQueue := []
  /-- The two fixed queues of node 65, head first (R338). -/
  recirc0 : List QEnt := []
  /-- Queue 1 of node 65. -/
  recirc1 : List QEnt := []
  /-- Port of each group at which the next turn begins (R376). -/
  rr : List Nat := [0, 0, 0, 0, 0, 0, 0, 0]
  /-- refs of flow queues (R387), as last recounted and kept. -/
  refs : Tbl Nat := []
  /-- ref_death of flow queues. -/
  refDeath : Tbl Nat := []
  /-- QENTRY_WAITS. -/
  qWaits : Nat := 0
  /-- SCHED_MISQUEUED. -/
  misqueued : Nat := 0
  /-- Sample ring enabled. -/
  ringEn : Bool := false
  /-- size_log2. -/
  ringLog2 : Nat := 0
  /-- Ring base. -/
  ringBase : Nat := 0
  /-- Sequence of the next sample record. -/
  ringSeq : Nat := 0
  /-- SAMPLES_SKIPPED. -/
  skipped : Nat := 0
  /-- Core clock of the last record written. -/
  ringClock : Option Nat := none
deriving DecidableEq, Repr

/-- A MAC port (R428 to R440). -/
structure MacPort where
  /-- enable. -/
  en : Bool := false
  /-- cipher side. -/
  cipher : Bool := false
  /-- rx_fc. -/
  rxFc : Nat := 0
  /-- storm_guard. -/
  guardOn : Bool := true
  /-- storm_limit_ms. -/
  stormMs : Nat := 100
  /-- fec25. -/
  fec25 : Bool := false
  /-- train. -/
  train : Bool := true
  /-- max_frame. -/
  maxFrame : Nat := 16384
  /-- pause_sa, six bytes. -/
  pauseSa : Bytes := [0#8, 0#8, 0#8, 0#8, 0#8, 0#8]
  /-- Link up. -/
  up : Bool := false
  /-- Record time at which the link went down, ns times 2^16. -/
  downAt : Nat := 0
  /-- Last LINK_DOWN cause. -/
  cause : Nat := 0
  /-- Quanta of the PAUSE in force; 0 for none. -/
  pause : Nat := 0
  /-- Quanta of the PFC pauses in force by priority; 0 for none. -/
  pfc : List Nat := [0, 0, 0, 0, 0, 0, 0, 0]
  /-- The pause-storm guard is tripped. -/
  tripped : Bool := false
  /-- Counts: corrected, uncorrectable, received, transmitted, FCS errors, runts, too long, MAC control acted on, ignored, trips, TX_LINK_LOST, link downs, RX_PORT_DOWN (R454). -/
  counts : List Nat := [0, 0, 0, 0, 0, 0, 0, 0, 0, 0, 0, 0, 0]
  /-- GUARD_DISCARDS (R312). -/
  guardDiscards : Nat := 0
  /-- Frames at the MAC, in order of selection. -/
  tx : List Tx := []
  /-- End of the last committed frame, line time in ns times 2^16 (R413). -/
  lastEnd : Nat := 0
  /-- DIAG_LOOPBACK mode (R604). -/
  loopback : Nat := 0
deriving DecidableEq, Repr

/-- MAC ports by group and number (R428). -/
structure Macs where
  /-- Layout words of the groups. -/
  layouts : List Word := List.replicate 8 0x1E#32
  /-- Ports; unlisted ones as after a layout change. -/
  ports : Tbl MacPort := []
deriving DecidableEq, Repr

/-- A host traffic ring, transmit or receive (R441 to R454). -/
structure HRing where
  /-- Size in descriptors; 0 while disabled. -/
  size : Nat := 0
  /-- wb_en. -/
  wbEn : Bool := false
  /-- base. -/
  base : Nat := 0
  /-- wb_addr. -/
  wb : Nat := 0
  /-- buf_size. -/
  bufSize : Nat := 0
  /-- holdoff_us. -/
  holdoff : Nat := 0
  /-- stall_timeout_us. -/
  stallUs : Nat := 10000
  /-- Host index. -/
  host : Nat := 0
  /-- Engine index. -/
  engine : Nat := 0
  /-- Descriptors reserved. -/
  reserved : Nat := 0
  /-- Stalled. -/
  stalled : Bool := false
  /-- The waiter's flow queue. -/
  waiter : Option Nat := none
  /-- Frames discarded during the stall. -/
  stallDrops : Nat := 0
  /-- HRING_STATUS counts: frames, bytes, then words 4 to 7. -/
  counts : List Nat := [0, 0, 0, 0, 0, 0]
deriving DecidableEq, Repr

/-- A segmentation profile (R447). -/
structure SegProfile where
  /-- mss. -/
  mss : Nat
  /-- hdr_len. -/
  hdrLen : Nat
  /-- l3_off. -/
  l3 : Nat
  /-- l4_off. -/
  l4 : Nat
  /-- outer_l3_off. -/
  ol3 : Nat
  /-- outer_l4_off. -/
  ol4 : Nat
  /-- inner_v6. -/
  v6 : Bool
  /-- l4 is TCP. -/
  tcp : Bool
  /-- outer. -/
  outer : Bool
  /-- outer_v6. -/
  ov6 : Bool
deriving DecidableEq, Repr

/-- A frame selected at node 64, in its reserved descriptors (R449). -/
structure HostSel where
  /-- Receive ring. -/
  ring : Nat
  /-- Descriptors reserved. -/
  descs : Nat
  /-- Its queue entry, whose reference in column 8 it holds until delivery (R323). -/
  ent : QEnt
  /-- Flow queue. -/
  queue : Nat
deriving DecidableEq, Repr

/-- Host traffic (R441 to R454). -/
structure HostTraffic where
  /-- Transmit rings by number. -/
  tx : Tbl HRing := []
  /-- Receive rings by number. -/
  rx : Tbl HRing := []
  /-- Segmentation profiles; unlisted ones were never set. -/
  seg : Tbl SegProfile := []
  /-- The transmit ring served last (R444). -/
  txPtr : Nat := 15
  /-- Frames selected at node 64 and not yet delivered. -/
  sel : List HostSel := []
  /-- A segmentation send in progress, by ring: its descriptors, and the frames not yet emitted. -/
  pieces : Tbl (Nat × List Bytes) := []
deriving DecidableEq, Repr

end Sys2Proof.Machine
end

