-- ==== Sys2Proof/Machine/StSys.lean ====
section
/-!
DEFINITION. State of time, PTP, pulses and gate lists, of the twin link, of power domains, DDR5, counters and snapshots, diagnostics and the test access port.
A field's default value is its value in State.reset.
-/
namespace Sys2Proof.Machine

/-- A clock in the layout of R8, as ns times 2^16, with the part of a unit its rate has not yet filled (R16, R396). -/
structure Clk where
  /-- The time. -/
  t : Nat := 0
  /-- Residue of rate correction, in 10^-9 units, 0 to 10^9 - 1. -/
  res : Nat := 0
deriving DecidableEq, Repr

/-- Servo states (R405). -/
inductive Servo
  | free | acquire | locked | holdover
deriving DecidableEq, Repr

/-- Servo state codes (R405). -/
def Servo.code : Servo → Nat
  | .free => 0 | .acquire => 1 | .locked => 2 | .holdover => 3

/-- A servo as it stood before the last offset was taken, kept through the tick of that offset: a delay sample of the same tick goes first (R416). -/
structure ServoSave where
  /-- Core clock of the tick. -/
  core : Nat
  /-- t2 - t1 - c1. -/
  ms : Int
  /-- The offset by which the update stepped the domain clock, 0 where it did not. -/
  stepped : Int
  /-- Servo state. -/
  servo : Servo
  /-- Offset. -/
  offset : Option Int
  /-- Integral. -/
  integral : Int
  /-- adj_ppb. -/
  adj : Int
  /-- adj_ppb of the last updates. -/
  adjs : List Int
  /-- Consecutive updates above step_threshold_ns. -/
  above : Nat
  /-- Consecutive updates below lock_threshold_ns. -/
  below : Nat
  /-- Counts. -/
  counts : List Nat
deriving DecidableEq, Repr

/-- A PTP domain (R403 to R407, R421). -/
structure PtpDom where
  /-- enable. -/
  en : Bool := false
  /-- P2P. -/
  p2p : Bool := false
  /-- domain_number. -/
  number : Nat := 0
  /-- major_sdo_id. -/
  sdo : Nat := 0
  /-- slave_port. -/
  port : Nat := 0
  /-- log_sync_interval. -/
  logSync : Int := 0
  /-- sync_timeout. -/
  timeout : Nat := 2
  /-- master_clock_id. -/
  masterId : Nat := 0
  /-- master_port. -/
  masterPort : Nat := 0
  /-- kp, 16.16. -/
  kp : Nat := 45875
  /-- ki, 16.16. -/
  ki : Nat := 19661
  /-- step_threshold_ns. -/
  stepNs : Nat := 1000
  /-- lock_threshold_ns. -/
  lockNs : Nat := 100
  /-- max_adj_ppb. -/
  maxAdj : Nat := 100000
  /-- Servo state. -/
  servo : Servo := .free
  /-- Offset of the last update, ns times 2^16. -/
  offset : Option Int := none
  /-- Delay, ns times 2^16. -/
  delay : Option Int := none
  /-- Integral, ns times 2^16. -/
  integral : Int := 0
  /-- adj_ppb in force. -/
  adj : Int := 0
  /-- adj_ppb of the last updates, newest first, at most 16. -/
  adjs : List Int := []
  /-- Consecutive updates above step_threshold_ns. -/
  above : Nat := 0
  /-- Consecutive updates below lock_threshold_ns. -/
  below : Nat := 0
  /-- Last two-step Sync: sequenceId, ingress stamp as the domain clock has it, correction. -/
  sync : Option (Nat × Int × Int) := none
  /-- t2 - t1 - c1 of the last Sync. -/
  msOffset : Option Int := none
  /-- Last Delay_Req: sequenceId and egress stamp as the domain clock has it. -/
  dreq : Option (Nat × Int) := none
  /-- Last Pdelay_Req: sequenceId and egress stamp as the domain clock has it. -/
  preq : Option (Nat × Int) := none
  /-- Last two-step Pdelay_Resp: sequenceId, ingress stamp as the domain clock has it, receipt time, correction. -/
  presp : Option (Nat × Int × Int × Int) := none
  /-- Syncs processed, delay samples, REJECTED, steps, ONE_STEP_TOO_LONG (R423). -/
  counts : List Nat := [0, 0, 0, 0, 0]
  /-- The servo before the last offset, for a delay sample of the same tick. -/
  save : Option ServoSave := none
deriving DecidableEq, Repr

/-- PTP settings of one MAC port, and its egress stamp FIFO (R402, R422). -/
structure PtpPort where
  /-- designated. -/
  desig : Bool := false
  /-- one_step. -/
  oneStep : Bool := false
  /-- ingress_adj_ps. -/
  inAdj : Int := 0
  /-- egress_adj_ps. -/
  outAdj : Int := 0
  /-- FIFO: messageType, domainNumber, sequenceId, stamp; oldest first. -/
  fifo : List (Nat × Nat × Nat × Nat) := []
  /-- overflow. -/
  overflow : Bool := false
deriving DecidableEq, Repr

/-- A pulse output (R409, R425). -/
structure Pulse where
  /-- 0 off, 1 once, 2 periodic. -/
  mode : Nat := 0
  /-- Record time rather than line time. -/
  record : Bool := false
  /-- polarity: active low. -/
  low : Bool := false
  /-- start, ns times 2^16. -/
  start : Nat := 0
  /-- Next edge, ns times 2^16. -/
  next : Nat := 0
  /-- period_ns. -/
  period : Nat := 0
  /-- width_ns. -/
  width : Nat := 0
  /-- End of the pulse in progress, in its own timebase. -/
  endAt : Option Nat := none
  /-- The pulse in progress runs in record time. -/
  endRecord : Bool := false
deriving DecidableEq, Repr

/-- A capture input (R410). -/
structure CapIn where
  /-- Captures, line time and record time, oldest first. -/
  fifo : List (Nat × Nat) := []
  /-- overflow. -/
  overflow : Bool := false
  /-- Record time of the previous captured edge. -/
  last : Option Nat := none
deriving DecidableEq, Repr

/-- A gate list (R411). -/
structure GateList where
  /-- Base time, ns times 2^16. -/
  base : Nat
  /-- cycle_time_ns. -/
  cycle : Nat
  /-- Entries: gates and interval_ns. -/
  entries : List (Nat × Nat)
deriving DecidableEq, Repr

/-- Gate state of one port (R411 to R414). -/
structure GatePort where
  /-- Operational list. -/
  oper : Option GateList := none
  /-- Start of the present operational cycle, line time. -/
  cycleStart : Nat := 0
  /-- Present entry. -/
  entry : Nat := 0
  /-- Present gate states. -/
  gates : Nat := 255
  /-- Administrative list pending, with its switch time. -/
  admin : Option GateList := none
  /-- Switch time S. -/
  switchAt : Nat := 0
  /-- Both lists go at this boundary of the operational cycle (R412). -/
  removeAt : Option Nat := none
deriving DecidableEq, Repr

/-- Clocks, PTP, pulses, captures and gate lists (R396 to R427). -/
structure TimeBlk where
  /-- Record time. -/
  record : Clk := {}
  /-- Line time. -/
  line : Clk := {}
  /-- LT-A. -/
  ltA : Clk := {}
  /-- LT-B. -/
  ltB : Clk := {}
  /-- Core clocks since BOOT. -/
  core : Nat := 0
  /-- Record time has been set (R109). -/
  recordSet : Bool := false
  /-- rate_ppb of record time. -/
  ratePpb : Int := 0
  /-- follow_line. -/
  follow : Bool := false
  /-- Source of line time asked for: 0 free-running or hold, 1 LT-A, 2 LT-B. -/
  source : Nat := 0
  /-- Line time still free-running since BOOT: no selection has set it. -/
  neverSet : Bool := true
  /-- Record-time nanoseconds before a step of TIME_SET, for the replies of its tick (R416). -/
  oldNs : Option Nat := none
  /-- Rate of line time while held, ppb. -/
  holdPpb : Int := 0
  /-- The slew offset s, ns times 2^16. -/
  slew : Int := 0
  /-- Timing ticks, in 2^-16 ns, counted toward the next unit of slew. -/
  slewAcc : Nat := 0
  /-- auto_switch. -/
  autoSwitch : Bool := false
  /-- max_slew_ns. -/
  maxSlew : Nat := 10000
  /-- Domains A and B. -/
  domA : PtpDom := {}
  /-- Domain B. -/
  domB : PtpDom := {}
  /-- PTP settings by MAC port. -/
  ptpPorts : Tbl PtpPort := []
  /-- Pulse outputs. -/
  pulses : List Pulse := [{}, {}, {}, {}]
  /-- PULSE_CANCELLED. -/
  cancelled : Nat := 0
  /-- Capture inputs. -/
  caps : List CapIn := [{}, {}]
  /-- Gate state by MAC port; unlisted ones have no list. -/
  gates : Tbl GatePort := []
deriving DecidableEq, Repr

/-- Twin states (R461). -/
inductive TwinState
  | disabled | linkDown | auth | stranger | authFailed | paired | sync | inSync
deriving DecidableEq, Repr

/-- Twin state codes (R461). -/
def TwinState.code : TwinState → Nat
  | .disabled => 0 | .linkDown => 1 | .auth => 2 | .stranger => 3 | .authFailed => 4 | .paired => 5 | .sync => 6 | .inSync => 7

/-- What undoes a class 0x07 command the standby could not apply (R465). -/
inductive Undo
  /-- An installed SA goes. -/
  | install (sa : Nat)
  /-- An SA being retired stays, with its SCI slot: group, port, SCI, AN and generation. -/
  | retire (sa : Nat) (slot : Option (Nat × Nat × Nat × Nat × Nat))
  /-- A binding stands as before. -/
  | switch (binding : Nat) (old : Option Binding)
  /-- A port's settings stand as before. -/
  | port (port : Nat) (old : CipherPort)
  /-- Nothing has been applied yet: the change stands in a batch (R95). -/
  | batch
deriving DecidableEq, Repr

/-- A class 0x07 command waiting for the standby's ACK (R465). -/
structure AckWait where
  /-- Tag path and number: the command in flight. -/
  path : Path
  /-- Its tag. -/
  tag : Nat
  /-- Mirror-channel counter its message carries. -/
  counter : Nat
  /-- detail of its final reply. -/
  detail : Nat
  /-- What undoes it. -/
  undo : Undo
deriving DecidableEq, Repr

/-- The twin link and pairing (R455 to R484). -/
structure Twin where
  /-- TWIN_CONFIG enable. -/
  en : Bool := false
  /-- hairpin_en. -/
  hairpin : Bool := false
  /-- stride_log2. -/
  strideLog2 : Nat := 10
  /-- Twin state. -/
  st : TwinState := .disabled
  /-- The Trellis link is up. -/
  linkUp : Bool := false
  /-- stale. -/
  stale : Bool := false
  /-- Partner's mode code from its last heartbeat. -/
  partnerMode : Nat := 0
  /-- Partner's last heartbeat showed its standby request pending. -/
  partnerReq : Bool := false
  /-- Partner's last heartbeat showed hairpin enabled. -/
  partnerHairpin : Bool := false
  /-- Partner's stride, from its HELLO. -/
  partnerStride : Nat := 0
  /-- Own HELLO of this handshake. -/
  myHello : Bytes := []
  /-- Partner's HELLO of this handshake. -/
  partnerHello : Option Bytes := none
  /-- Own ephemeral private key of this handshake. -/
  ephemeral : Nat := 0
  /-- Session keys for directions 0 and 1. -/
  keys : Option (Bytes × Bytes) := none
  /-- Partner fingerprint, as presented. -/
  fingerprint : Option Bytes := none
  /-- Counter of the last frame sent. -/
  txCounter : Nat := 0
  /-- Counter of the last frame received. -/
  rxCounter : Nat := 0
  /-- Own heartbeat sequence. -/
  hbSeq : Nat := 0
  /-- Sequence and record time of the last heartbeat received. -/
  hbRx : Option (Nat × Nat) := none
  /-- Record times of own heartbeats not yet answered, with their sequence. -/
  hbSent : List (Nat × Nat) := []
  /-- Consecutive misses. -/
  misses : Nat := 0
  /-- Round trip, ns. -/
  rtt : Nat := 0
  /-- Highest mirror-channel counter applied here. -/
  applied : Nat := 0
  /-- Mirror-channel counter of the last message sent here. -/
  mirrorSent : Nat := 0
  /-- Highest mirror-channel counter the partner has acknowledged. -/
  acked : Nat := 0
  /-- M of outbound SAs (R467). -/
  m : Tbl Nat := []
  /-- Records of pn sent and not yet acknowledged: SA, number, counter. -/
  sent : List (Nat × Nat × Nat) := []
  /-- Commands waiting for an ACK. -/
  waits : List AckWait := []
  /-- Handshakes since BOOT, a use counter. -/
  shakes : Nat := 0
  /-- Counts of R482: heartbeats missed, mirror sent, mirror applied, TWIN_HOLDS, greatest lead, takeovers, handovers, handshakes failed, link restarts, ownership conflicts. -/
  counts : List Nat := [0, 0, 0, 0, 0, 0, 0, 0, 0, 0]
  /-- Hairpin credits held, cells. -/
  credits : Nat := 0
  /-- Cells of granted hairpin frames to be returned as credit. -/
  creditBack : Nat := 0
deriving DecidableEq, Repr

/-- Takeover, ownership and synchronisation in progress (R462 to R473). -/
structure TwinRun where
  /-- The claim window runs (R463). -/
  claim : Bool := false
  /-- The engine owns the cipher side: its window has passed. -/
  owner : Bool := false
  /-- The engine wants ownership and waits for OWN_IN to deassert. -/
  wantOwn : Bool := false
  /-- This engine is the active-to-be of a SYNC. -/
  syncActive : Bool := false
  /-- SYNC_END has come or gone. -/
  syncEnded : Bool := false
  /-- A HANDOVER sent waits for its answer. -/
  handoverOut : Bool := false
  /-- A HANDOVER received waits for OWN_IN to deassert. -/
  handoverIn : Bool := false
  /-- A TWIN_TAKEOVER has asked the partner for a handover. -/
  askedHandover : Bool := false
  /-- The leap sweep runs. -/
  leaping : Bool := false
  /-- SAs the sweep has already visited through a frame (R471). -/
  leapt : List Nat := []
  /-- Seal count at the takeover: spilled records before it leap when fetched (R471). -/
  leapSeal : Option Nat := none
  /-- Stale at that takeover. -/
  leapStale : Bool := false
  /-- TWIN_LOCK commands waiting: lock and whether a release. -/
  lockWait : List (Nat × Bool) := []
  /-- The cause of the TAKEOVER in progress. -/
  cause : Nat := 0
  /-- First object of a full mirror the standby could not hold: status and detail (R464). -/
  syncFail : Option (Nat × Nat) := none
  /-- After the leap: the mirror-channel counter whose ACK lets the engine enter TWIN_ACTIVE (R472). -/
  leapWait : Option Nat := none
deriving DecidableEq, Repr

/-- Power states (R498). -/
inductive PState
  | run | doze | deep | off
deriving DecidableEq, Repr

/-- Power state codes (R109). -/
def PState.code : PState → Nat
  | .run => 0 | .doze => 1 | .deep => 2 | .off => 3

/-- Power domains and policy (R497 to R513). -/
structure Power where
  /-- States of domains 0 to 32. -/
  doms : List PState := List.replicate 33 .run
  /-- Domains that are waking. -/
  waking : List Nat := []
  /-- Idle-time predictions of domains, ns (R502). -/
  pred : Tbl Nat := []
  /-- Core clock at which a domain went to sleep. -/
  slept : Tbl Nat := []
  /-- Policy enable. -/
  en : Bool := true
  /-- max_latency_ns. -/
  maxLat : Nat := 10000
  /-- min_slices. -/
  minSlices : Nat := 0
  /-- deep_mask, bit d. -/
  deepMask : Nat := 4294967292
  /-- HOLD_HOST in force (R69). -/
  holdHost : Bool := false
  /-- Domains a fault isolated, so they stay OFF. -/
  isolated : List Nat := []
  /-- Rail step in progress, 1 to 4, or none. -/
  railStep : Option Nat := none
  /-- Counts: wakes by frame, by mailbox or doorbell, DOZE entries, DEEP entries, longest chain wake, abandoned, admissions, retirements (R513). -/
  counts : List Nat := [0, 0, 0, 0, 0, 0, 0, 0]
deriving DecidableEq, Repr

/-- DDR5 channel states (R518). -/
inductive ChState
  | absent | untrained | training | inService | selfRefresh | failed
deriving DecidableEq, Repr

/-- Channel state codes (R518). -/
def ChState.code : ChState → Nat
  | .absent => 0 | .untrained => 1 | .training => 2 | .inService => 3 | .selfRefresh => 4 | .failed => 5

/-- A DDR5 channel (R514 to R534). -/
structure Chan where
  /-- State. -/
  st : ChState := .absent
  /-- Ranks. -/
  ranks : Nat := 0
  /-- Capacity in GiB. -/
  gib : Nat := 0
  /-- Device width in bits, 8 or 4. -/
  width : Nat := 8
  /-- The DIMM is of a supported type (R514). -/
  supported : Bool := false
  /-- Last DDR_CHANNEL cause. -/
  cause : Nat := 0
  /-- Refreshes owed, by rank. -/
  owed : List Nat := [0, 0]
  /-- Greatest owed count seen. -/
  owedMax : Nat := 0
  /-- Ranks in precharge power-down. -/
  pdown : List Bool := [false, false]
  /-- Corrected, uncorrectable, address-check mismatches, forced refreshes, pauses, power-down entries, self-refresh entries. -/
  counts : List Nat := [0, 0, 0, 0, 0, 0, 0]
  /-- Accumulated drift of byte lanes, ps. -/
  drift : Tbl Int := []
  /-- DIMM temperature. -/
  temp : Int := 0
  /-- Address of the last uncorrectable error. -/
  lastUe : Nat := 0
  /-- Lines with planted or injected errors: address and bits in error (R579). -/
  errs : Tbl Nat := []
deriving DecidableEq, Repr

/-- The DDR5 controller and the memory behind it (R514 to R534). -/
structure Ddr where
  /-- Channels A to D. -/
  chans : List Chan := [{}, {}, {}, {}]
  /-- Channels in use, bit c. -/
  inUse : Nat := 0
  /-- The memory: bytes that are not what an unlisted address reads as, by rising address. -/
  mem : List Host.Cell := []
  /-- power_down_ns. -/
  powerDownNs : Nat := 2000
  /-- retrain_ms. -/
  retrainMs : Nat := 100
  /-- patrol_en. -/
  patrol : Bool := true
  /-- patrol_hours. -/
  patrolHours : Nat := 24
  /-- The channel whose drift pause comes next, or the first one in service after it (R521). -/
  turn : Nat := 0
  /-- Next line the patrol scrub reads. -/
  patrolLine : Nat := 0
  /-- Channels a DDR_TRAIN in progress names. -/
  trainMask : Nat := 0
deriving DecidableEq, Repr

/-- A performance counter (R543 to R546). -/
structure Perf where
  /-- Live value, 48 bits. -/
  live : Nat := 0
  /-- Shadow. -/
  shadow : Nat := 0
  /-- Select word. -/
  sel : Word := 0#32
deriving DecidableEq, Repr

/-- A bandwidth meter (R548, R549). -/
structure Bwm where
  /-- Window, ns. -/
  window : Nat := 1000000
  /-- Count of the window in progress. -/
  count : Nat := 0
  /-- The window in progress is a whole one. -/
  started : Bool := true
  /-- last. -/
  last : Nat := 0
  /-- min; none before a window has ended. -/
  minv : Option Nat := none
  /-- max. -/
  maxv : Nat := 0
  /-- Windows completed since the last read. -/
  done : Nat := 0
  /-- Windows completed in all, for the shadow. -/
  total : Nat := 0
  /-- Shadow: window in progress, last, min, windows completed, window length. -/
  shadow : List Nat := [0, 0, 0, 0, 0]
deriving DecidableEq, Repr

/-- Snapshot states (R556). -/
inductive SnapState
  | none | armed | copying | complete | aborted
deriving DecidableEq, Repr

/-- Snapshot state codes (R556). -/
def SnapState.code : SnapState → Nat
  | .none => 0 | .armed => 1 | .copying => 2 | .complete => 3 | .aborted => 4

/-- Counters, snapshots and meters (R535 to R558). -/
structure Counters where
  /-- Statistics pairs: packets and bytes, 64 bits each; unlisted ones are zero. -/
  stats : Tbl (Nat × Nat) := []
  /-- Performance counters 0 to 639. -/
  perf : Tbl Perf := []
  /-- Bandwidth meters of nodes 0 to 66. -/
  bwm : Tbl Bwm := []
  /-- Snapshot area base, when placed. -/
  area : Option Nat := none
  /-- Snapshot identifier. -/
  snapId : Nat := 0
  /-- Snapshot state. -/
  snap : SnapState := .none
  /-- The armed or last snapshot asks for statistics. -/
  snapStats : Bool := false
  /-- Its tick, ns times 2^16. -/
  snapTick : Nat := 0
  /-- Identifier and tick of the cut in the shadows. -/
  cutId : Nat := 0
  /-- Tick of the cut. -/
  cutTime : Nat := 0
  /-- Lines of the copy already queued. -/
  copied : List Nat := []
  /-- Lines copied by copy-on-write. -/
  cowLines : Nat := 0
  /-- Rounds withheld by the last copy. -/
  withheld : Nat := 0
  /-- The area holds an image. -/
  image : Bool := false
deriving DecidableEq, Repr

/-- TAP controller states of IEEE 1149.1 (R622). -/
inductive TapState
  | reset | idle | selectDr | captureDr | shiftDr | exit1Dr | pauseDr | exit2Dr | updateDr
  | selectIr | captureIr | shiftIr | exit1Ir | pauseIr | exit2Ir | updateIr
deriving DecidableEq, Repr

/-- The test access port (R622, R623). -/
structure Tap where
  /-- Controller state. -/
  st : TapState := .reset
  /-- Instruction register. -/
  ir : Nat := 1
  /-- Instruction shift register. -/
  irShift : Nat := 0
  /-- Data shift register. -/
  drShift : Nat := 0
  /-- Boundary register latches, 1,402 cells. -/
  boundary : Nat := 0
  /-- TDO level driven, none while released. -/
  tdo : Option Bool := none
  /-- TRST_N level; its pull holds it low. -/
  trstN : Bool := false
deriving DecidableEq, Repr

/-- The junction sensors (R617). -/
structure Diag where
  /-- Hottest sensor reading, in degrees Celsius. -/
  temp : Int := 0
deriving DecidableEq, Repr

end Sys2Proof.Machine
end

