-- ==== Sys2Proof/Machine/State.lean ====
section
/-!
DEFINITION. The whole machine as plain data, the reasons a step can stop, and the machine right after reset.
-/
namespace Sys2Proof.Machine

/-- What the block puts out: a field of the model's own, to which every write, message and frame leaving the block is appended. -/
inductive Output
  /-- A reply written into the reply ring from this index: its slots, each with its address and its 64 bytes (R48, R82, R89). -/
  | reply (idx : Nat) (r : Reply) (slots : List (Nat × Bytes))
  /-- A reply waiting on the SMBus tunnel (R77). -/
  | tunnelReply (r : Reply)
  /-- An event written into the event ring at this index: its slot, with its address and its 64 bytes (R48, R96). -/
  | event (idx : Nat) (e : Event) (slot : List (Nat × Bytes))
  /-- The eight bytes of control ring r's write-back word, at its address (R56). -/
  | writeBack (ring addr : Nat) (word : Bytes)
  /-- The eight bytes of a host traffic ring's write-back word, at its address: 16 + t transmit, 32 + r receive (R442). -/
  | hostWriteBack (ring addr : Nat) (word : Bytes)
  /-- A completion descriptor at this index, and the bytes written into its buffer (R448). -/
  | hostRx (ring idx : Nat) (desc : Bytes) (data : Bytes)
  /-- An MSI-X message (R58). -/
  | msix (vector : Nat)
  /-- The value a register read answers with. -/
  | readData (value : Nat)
  /-- Bytes an SMBus read answers with: the count of a block, the data, and the PEC byte last (R75, R76). -/
  | smbusData (bytes : Bytes)
  /-- The SMBus target does not acknowledge (R75, R77). -/
  | smbusNack
  /-- A frame sent on a MAC port, with its FCS; errored when its termination is (R433, R434). -/
  | frame (port : Nat) (bytes : Bytes) (errored : Bool)
  /-- A Trellis frame: its messages before encryption, and the bytes it has on the link (R456). -/
  | trellis (messages wire : Bytes)
  /-- A request from the scheduler or the power logic that wakes a domain (R506). -/
  | wake (domain : Nat)
  /-- A PPS_OUT level change (R409). -/
  | pulse (output : Nat) (level : Bool)
deriving DecidableEq, Repr

/-- The machine. -/
structure State where
  /-- Modes (R20). -/
  mode : ModeBlk := {}
  /-- Pins and straps. -/
  pins : Pins := {}
  /-- Host link (R42). -/
  hif : Hif := {}
  /-- Tags, replies, events, batch, KWK (R79). -/
  cmds : Cmds := {}
  /-- Mailboxes 0 to 15 (R63). -/
  mbx : List Mbx := List.replicate 16 {}
  /-- Owners of locks 0 to 31 (R71). -/
  locks : List (Option Nat) := List.replicate 32 none
  /-- SMBus (R74). -/
  smb : Smbus := {}
  /-- Vintner (R485). -/
  vnt : Vintner := {}
  /-- Faults (R559). -/
  flt : Faults := {}
  /-- Cellar book (R568). -/
  book : Book := {}
  /-- Parse counts (R163). -/
  parse : ParseBlk := {}
  /-- Exact-match and prefix tables (R166). -/
  lookup : Lookup := {}
  /-- TCAM (R198). -/
  tcam : Tcam := {}
  /-- Actions (R255). -/
  act : Actions := {}
  /-- Vintages (R228). -/
  vin : Vintages := {}
  /-- Landing, slices, reorder (R115). -/
  ing : Ingress := {}
  /-- Fragments (R152). -/
  frag : Frag := {}
  /-- Cipher units (R281). -/
  cip : Cipher := {}
  /-- Switch core and pools (R321). -/
  core : Core := {}
  /-- Scheduler (R368). -/
  sched : Sched := {}
  /-- MAC ports (R428). -/
  mac : Macs := {}
  /-- Host traffic rings (R441). -/
  hst : HostTraffic := {}
  /-- Time (R396). -/
  time : TimeBlk := {}
  /-- Twin (R455). -/
  twin : Twin := {}
  /-- Takeover and synchronisation (R462). -/
  run : TwinRun := {}
  /-- Power (R497). -/
  pwr : Power := {}
  /-- DDR5 (R514). -/
  ddr : Ddr := {}
  /-- Counters (R535). -/
  cnt : Counters := {}
  /-- Test access port (R622). -/
  tap : Tap := {}
  /-- Junction sensors (R617). -/
  diag : Diag := {}
  /-- What the block has put out, oldest first: the model's own. -/
  out : List Output := []
  /-- Uses of free values so far: the model's own. -/
  free : Nat := 0
  /-- Commands waiting, first in, first out: the model's own. -/
  pending : List Instr := []
deriving DecidableEq, Repr

/-- Reasons the machine stops. No meaning of this block raises one: every situation the manual describes has an effect, a status reply or an error flag. -/
inductive Fault
  /-- An access of the engine to a DDR5 address outside its capacity (R516); raised by no command as the regions are checked when placed. Safe. -/
  | ddrAddress
deriving DecidableEq, Repr

/-- Reasons a command is refused. -/
inductive Refusal
  /-- The command has no meaning in this model yet. Raised by the dispatcher. Safe. -/
  | notModelled (mnemonic : String)
deriving DecidableEq, Repr

/-- The machine right after reset: at its entry to BOOT, where R39 gives HIF_MODE its reset value. -/
def State.reset : State := {}

end Sys2Proof.Machine
end

