-- ==== Sys2Proof/Machine/Up.lean ====
section
/-!
DEFINITION. One updater per block of the state: the state with that block changed by a function and every other block as it was.
-/
namespace Sys2Proof.Machine

/-- The state with `mode` changed by `f`. -/
def State.modeM (s : State) (f : ModeBlk → ModeBlk) : State := { s with mode := f s.mode }

/-- The state with `pins` changed by `f`. -/
def State.pinsM (s : State) (f : Pins → Pins) : State := { s with pins := f s.pins }

/-- The state with `hif` changed by `f`. -/
def State.hifM (s : State) (f : Hif → Hif) : State := { s with hif := f s.hif }

/-- The state with `cmds` changed by `f`. -/
def State.cmdsM (s : State) (f : Cmds → Cmds) : State := { s with cmds := f s.cmds }

/-- The state with `mbx` changed by `f`. -/
def State.mbxM (s : State) (f : (List Mbx) → (List Mbx)) : State := { s with mbx := f s.mbx }

/-- The state with `locks` changed by `f`. -/
def State.locksM (s : State) (f : (List (Option Nat)) → (List (Option Nat))) : State := { s with locks := f s.locks }

/-- The state with `smb` changed by `f`. -/
def State.smbM (s : State) (f : Smbus → Smbus) : State := { s with smb := f s.smb }

/-- The state with `vnt` changed by `f`. -/
def State.vntM (s : State) (f : Vintner → Vintner) : State := { s with vnt := f s.vnt }

/-- The state with `flt` changed by `f`. -/
def State.fltM (s : State) (f : Faults → Faults) : State := { s with flt := f s.flt }

/-- The state with `book` changed by `f`. -/
def State.bookM (s : State) (f : Book → Book) : State := { s with book := f s.book }

/-- The state with `parse` changed by `f`. -/
def State.parseM (s : State) (f : ParseBlk → ParseBlk) : State := { s with parse := f s.parse }

/-- The state with `lookup` changed by `f`. -/
def State.lookupM (s : State) (f : Lookup → Lookup) : State := { s with lookup := f s.lookup }

/-- The state with `tcam` changed by `f`. -/
def State.tcamM (s : State) (f : Tcam → Tcam) : State := { s with tcam := f s.tcam }

/-- The state with `act` changed by `f`. -/
def State.actM (s : State) (f : Actions → Actions) : State := { s with act := f s.act }

/-- The state with `vin` changed by `f`. -/
def State.vinM (s : State) (f : Vintages → Vintages) : State := { s with vin := f s.vin }

/-- The state with `ing` changed by `f`. -/
def State.ingM (s : State) (f : Ingress → Ingress) : State := { s with ing := f s.ing }

/-- The state with `frag` changed by `f`. -/
def State.fragM (s : State) (f : Frag → Frag) : State := { s with frag := f s.frag }

/-- The state with `cip` changed by `f`. -/
def State.cipM (s : State) (f : Cipher → Cipher) : State := { s with cip := f s.cip }

/-- The state with `core` changed by `f`. -/
def State.coreM (s : State) (f : Core → Core) : State := { s with core := f s.core }

/-- The state with `sched` changed by `f`. -/
def State.schedM (s : State) (f : Sched → Sched) : State := { s with sched := f s.sched }

/-- The state with `mac` changed by `f`. -/
def State.macM (s : State) (f : Macs → Macs) : State := { s with mac := f s.mac }

/-- The state with `hst` changed by `f`. -/
def State.hstM (s : State) (f : HostTraffic → HostTraffic) : State := { s with hst := f s.hst }

/-- The state with `time` changed by `f`. -/
def State.timeM (s : State) (f : TimeBlk → TimeBlk) : State := { s with time := f s.time }

/-- The state with `twin` changed by `f`. -/
def State.twinM (s : State) (f : Twin → Twin) : State := { s with twin := f s.twin }

/-- The state with `run` changed by `f`. -/
def State.runM (s : State) (f : TwinRun → TwinRun) : State := { s with run := f s.run }

/-- The state with `pwr` changed by `f`. -/
def State.pwrM (s : State) (f : Power → Power) : State := { s with pwr := f s.pwr }

/-- The state with `ddr` changed by `f`. -/
def State.ddrM (s : State) (f : Ddr → Ddr) : State := { s with ddr := f s.ddr }

/-- The state with `cnt` changed by `f`. -/
def State.cntM (s : State) (f : Counters → Counters) : State := { s with cnt := f s.cnt }

/-- The state with `tap` changed by `f`. -/
def State.tapM (s : State) (f : Tap → Tap) : State := { s with tap := f s.tap }

/-- The state with `diag` changed by `f`. -/
def State.diagM (s : State) (f : Diag → Diag) : State := { s with diag := f s.diag }

/-- The state with `out` changed by `f`. -/
def State.outM (s : State) (f : (List Output) → (List Output)) : State := { s with out := f s.out }

/-- The state with `free` changed by `f`. -/
def State.freeM (s : State) (f : Nat → Nat) : State := { s with free := f s.free }

/-- The state with `pending` changed by `f`. -/
def State.pendingM (s : State) (f : (List Instr) → (List Instr)) : State := { s with pending := f s.pending }

end Sys2Proof.Machine
end

