-- ==== Sys2Proof/Machine/Perf.lean ====
section
/-!
DEFINITION. Performance counters: events added to the counters that select them, and chaining (R543 to R546).
-/
namespace Sys2Proof.Machine

/-- A performance counter. -/
def State.perfCtr (s : State) (n : Nat) : Perf := Tbl.lookD s.cnt.perf n {}

/-- chain of an odd counter. -/
def Perf.chain (p : Perf) : Bool := p.sel.bit 10

/-- Counter `n` is the high half of a chained pair. -/
def State.perfHigh (s : State) (n : Nat) : Bool := n % 2 == 0 && (s.perfCtr (n + 1)).chain

/-- Change a counter's live value. -/
def State.perfSet (s : State) (n v : Nat) : State :=
  s.cntM fun c => { c with perf := Tbl.upd c.perf n {} fun p => { p with live := v % 281474976710656 } }

/-- Add to a counter, modulo 2^48; the low half of a chained pair carries into its high half. -/
def State.perfAdd (s : State) (n k : Nat) : State :=
  let p := s.perfCtr n
  let v := p.live + k
  let s := s.perfSet n v
  if n % 2 = 1 ∧ p.chain then s.perfSet (n - 1) ((s.perfCtr (n - 1)).live + v / 281474976710656) else s

/-- An event source of a unit happened `k` times: every counter of the unit in mode 1 that selects it adds. -/
def State.perf (s : State) (unit ev k : Nat) : State :=
  (List.range 8).foldl (fun s j =>
    let n := 8 * unit + j
    let p := s.perfCtr n
    if p.sel.fld 9 8 = 1 ∧ p.sel.fld 7 0 = ev ∧ !s.perfHigh n then s.perfAdd n k else s) s

/-- The same event in every unit of a kind that names no member. -/
def State.perfAll (s : State) (first last ev k : Nat) : State :=
  (List.range (last + 1 - first)).foldl (fun s u => s.perf (first + u) ev k) s

/-- Units of the lookup memories. -/
def State.perfLookup (s : State) (ev k : Nat) : State := s.perfAll 45 52 ev k
/-- Units of the scheduler. -/
def State.perfSched (s : State) (ev k : Nat) : State := s.perfAll 53 64 ev k
/-- Units of the cipher complex. -/
def State.perfCipher (s : State) (ev k : Nat) : State := s.perfAll 65 66 ev k
/-- Units of the host interface and the Vintner. -/
def State.perfHost (s : State) (ev k : Nat) : State := s.perfAll 71 76 ev k
/-- Units of Trellis. -/
def State.perfTrellis (s : State) (ev k : Nat) : State := s.perfAll 77 78 ev k

end Sys2Proof.Machine
end

