-- ==== Sys2Proof/Machine/Ops.lean ====
section
/-!
DEFINITION. Operations that many commands share: time stamps, outputs, interrupts, cellar book records, events, faults and mode changes.
-/
namespace Sys2Proof.Machine

/-! ## Time -/

/-- Record time as seconds × 10^9 + nanoseconds (R84). -/
def State.ns (s : State) : Nat := s.time.record.t / 65536

/-- Record time in ns, modulo 2^32 (R84). -/
def State.ns32 (s : State) : Nat := s.ns % 4294967296

/-- A time in the layout of R109: fraction in bytes 0 and 1, nanoseconds in 2 to 5, seconds in 6 to 11. -/
def time12 (t : Nat) : Bytes :=
  leBytes 2 (t % 65536) ++ leBytes 4 (t / 65536 % 1000000000) ++ leBytes 6 (t / 65536 / 1000000000)

/-- The three words of a time in the layout of R109. -/
def timeWords (t : Nat) : List Word := bytesWords (time12 t)

/-- Record time runs: the engine is past DORMANT, no reset holds the core, and its reference is present. When the reference goes, the PLLs hold until the SAFE entry it causes is recorded (R15, R569, R592). -/
def State.recordRuns (s : State) : Bool :=
  s.mode.mode != .off && s.mode.mode != .dormant && !s.mode.resetHeld && (s.pins.refclk || s.mode.mode != .safe)

/-! ## Outputs and free values -/

/-- Append an output. -/
def State.emit (s : State) (o : Output) : State := { s with out := s.out ++ [o] }

/-- Draw the next free value: a use counter for the opaque constants of Config. -/
def State.drawn (s : State) : State := { s with free := s.free + 1 }

/-! ## Interrupts (R58, R59) -/

/-- Holdoff in µs of a vector: rings 4 and 5 for vectors 0 and 2, host traffic rings for 8 to 39, zero for the others. -/
def State.holdoffOf (s : State) (v : Nat) : Nat :=
  if v = 0 then (nth s.hif.rings 4 {}).holdoff
  else if v = 2 then (nth s.hif.rings 5 {}).holdoff
  else if 8 ≤ v ∧ v ≤ 23 then (Tbl.lookD s.hst.tx (v - 8) {}).holdoff
  else if 24 ≤ v ∧ v ≤ 39 then (Tbl.lookD s.hst.rx (v - 24) {}).holdoff
  else 0

/-- MSI-X lets the vector's message out: enabled, neither mask set, and the function may issue memory requests. -/
def State.msixOpen (s : State) (v : Nat) : Bool :=
  s.hif.bme && s.hif.msixEnable && !s.hif.funcMask && !nbit s.hif.vecMask v

/-- Send a vector's message, or record it in the pending-bit array; a message sent starts the vector's holdoff. -/
def State.sendMsix (s : State) (v : Nat) : State :=
  if s.msixOpen v then
    let s := s.emit (.msix v)
    if s.holdoffOf v = 0 then s else s.hifM fun h => { h with holdRun := orBit h.holdRun v }
  else s.hifM fun h => { h with pba := orBit h.pba v }

/-- Signal a vector: deferred while its holdoff interval runs. -/
def State.signal (s : State) (v : Nat) : State :=
  if nbit s.hif.holdRun v then s.hifM fun h => { h with holdDefer := orBit h.holdDefer v }
  else s.sendMsix v

/-- Signal a vector unless its IRQ_MASK bit is set. -/
def State.signalUnless (s : State) (maskBit v : Nat) : State :=
  if nbit s.hif.mask maskBit then s else s.signal v

/-- Set a cause bit of IRQ_CAUSE: 0 REPLY, 2 EVENT, 4 FAULT, 6 TWIN; the vector has the bit's number. -/
def State.setCause (s : State) (i : Nat) : State :=
  (s.hifM fun h => { h with cause := orBit h.cause i }).signalUnless i i

/-- Set a bit of CEL_ALERT: unmasked, it is a new cause of SMB_ALERT_N and of vector 1 (R61, R62, R75). -/
def State.setAlert (s : State) (b : Nat) : State :=
  let s := s.bookM fun k => { k with alert := orBit k.alert b }
  if nbit s.book.alertMask b then s
  else (s.smbM fun m => { m with alertReleased := false }).signalUnless 1 1

/-- Set a bit of IRQ_MBX_CAUSE (vector 3). -/
def State.setMbxCause (s : State) (m : Nat) : State :=
  let s := s.hifM fun h => { h with mbxCause := orBit h.mbxCause m }
  if nbit s.hif.mbxMask m then s else s.signalUnless 3 3

/-- Set a bit of IRQ_HIF_ERR (vector 5): 0 DOORBELL, 1 RING_CFG, 2 DMA, 3 ACCESS, 4 MBX_WRITE. -/
def State.setHifErr (s : State) (i : Nat) : State :=
  let s := s.hifM fun h => { h with err := orBit h.err i }
  if nbit s.hif.errMask i then s else s.signalUnless 5 5

/-- Set a bit of IRQ_RING_CAUSE: transmit rings 0 to 15, receive rings 16 to 31 (vectors 8 to 39). -/
def State.setRingCause (s : State) (i : Nat) : State :=
  let s := s.hifM fun h => { h with ringCause := orBit h.ringCause i }
  if nbit s.hif.ringMask i then s else s.signal (8 + i)

/-- CEL_ALERT_N is asserted: some unmasked bit of CEL_ALERT is set (R62). -/
def State.celAlertN (s : State) : Bool := clrMask s.book.alert s.book.alertMask != 0

/-- The value IRQ_CAUSE reads as (R59). -/
def State.irqCause (s : State) : Nat :=
  s.hif.cause
    + 2 * b2n s.celAlertN
    + 8 * b2n (clrMask s.hif.mbxCause s.hif.mbxMask != 0)
    + 32 * b2n (clrMask s.hif.err s.hif.errMask != 0)

/-- The cause of a vector is set and nothing in the registers masks it. -/
def State.vectorDue (s : State) (v : Nat) : Bool :=
  if v ≤ 6 then nbit s.irqCause v && !nbit s.hif.mask v
  else if 8 ≤ v ∧ v ≤ 39 then nbit s.hif.ringCause (v - 8) && !nbit s.hif.ringMask (v - 8)
  else false

/-- Signal every listed vector that is due now and was not due in `was`: a mask bit was cleared under a set cause. -/
def State.signalNew (s was : State) (vs : List Nat) : State :=
  vs.foldl (fun a v => if a.vectorDue v && !was.vectorDue v then a.signal v else a) s

/-! ## The cellar book queue (R568 to R572) -/

/-- Bytes 0 to 251 of a record, its sequence still zero; `runs` says that record time ran when the event came. -/
def State.bookBody (s : State) (runs : Bool) (typ : Nat) (pinned : Bool) (payload : Bytes) : Bytes :=
  let cellarTime := !runs
  [by8 typ, by8 (b2n pinned + 2 * b2n cellarTime)] ++ leBytes 2 payload.length ++ leBytes 4 0
    ++ leBytes 4 s.mode.bootCount
    ++ leBytes 8 (if cellarTime then s.book.cycles * 160 else s.ns)
    ++ [by8 s.mode.mode.code] ++ List.replicate 7 0#8
    ++ bytesAt payload 0 224

/-- Queue a record; a ring record that finds the 23 entries not kept for slots full is dropped and counted (R572). -/
def State.bookPut (s : State) (runs : Bool) (slot : Option Nat) (typ : Nat) (payload : Bytes) : State :=
  if slot.isNone && decide (23 ≤ (s.book.queue.filter (fun r => r.slot.isNone)).length) then
    s.bookM fun k => { k with dropped := sat32 k.dropped }
  else
    let b := s.bookBody runs typ slot.isSome payload
    s.bookM fun k => { k with queue := k.queue ++ [{ slot := slot, body := b }] }

/-- Queue a record for the ring. -/
def State.bookLog (s : State) (typ : Nat) (payload : Bytes) : State := s.bookPut s.recordRuns none typ payload

/-! ## Control rings and events (R48 to R57, R96, R97) -/

/-- Slots the engine may still write in the reply or event ring. -/
def CRing.room (r : CRing) : Nat := r.slots - (r.engine + 65536 - r.host) % 65536

/-- Address of the 64-byte slot an index of a ring uses: slot (index mod SLOTS) (R48). -/
def CRing.slotAddr (r : CRing) (i : Nat) : Nat := r.base + 64 * (i % 65536 % r.slots)

/-- The slots a record's bytes take from the engine index on, each with its address, the rest of the last one filled with zero (R48, R82). -/
def CRing.place (r : CRing) (b : Bytes) : List (Nat × Bytes) :=
  (List.range (ceilDiv b.length 64)).map fun i => (r.slotAddr (r.engine + i), bytesAt b (64 * i) 64)

/-- A write-back word: the engine index, zero, and the low 32 bits of record-time nanoseconds (R56). -/
def writeBackWord (idx time : Nat) : Bytes := leBytes 4 (idx % 65536) ++ leBytes 4 time

/-- The 64 bytes of an event record, the unused bytes of its payload zero (R96). -/
def Event.bytes (e : Event) : Bytes :=
  leBytes 2 e.code ++ leBytes 2 e.payload.length ++ leBytes 4 e.seq ++ leBytes 4 e.objectId ++ leBytes 4 e.time
    ++ bytesAt (wordsBytes e.payload) 0 48

/-- After a record is written: the engine index, the write-back word, the cause bit and its vector (R56). -/
def State.ringAdvance (s : State) (r slots cause : Nat) : State :=
  let s := s.hifM fun h => { h with rings := updAt h.rings r fun g => { g with engine := (g.engine + slots) % 65536 } }
  let g := nth s.hif.rings r {}
  let s := if g.wbEn then (s.emit (.writeBack r g.wb (writeBackWord g.engine s.ns32))).perfHost 0x13 1 else s
  s.setCause cause

/-- Write an event into its slot of the event ring. -/
def State.writeEvent (s : State) (e : Event) : State :=
  let g := nth s.hif.rings 5 {}
  ((s.emit (.event g.engine e (g.place e.bytes))).perfHost 0x13 1).ringAdvance 5 1 2

/-- Raise an event: written, held while Bus Master Enable is clear (R44), or lost (R55). -/
def State.postEvent (s : State) (code obj : Nat) (payload : List Word) : State :=
  let e : Event := { code := code, seq := s.cmds.eventSeq, objectId := obj, time := s.ns32, payload := payload }
  let s := s.cmdsM fun c => { c with eventSeq := (c.eventSeq + 1) % 4294967296 }
  let g := nth s.hif.rings 5 {}
  if !g.active || decide (g.room ≤ s.cmds.heldEvents.length) then
    s.cmdsM fun c => { c with lost := satAdd 64 c.lost 1 }
  else if s.hif.bme then s.writeEvent e
  else s.cmdsM fun c => { c with heldEvents := c.heldEvents ++ [e] }

/-! ## Faults (R561 to R566) -/

/-- The 32 bytes of a capture (R563). -/
def Capture.bytes (c : Capture) : Bytes :=
  let b := leBytes 2 (c.source + 512 * c.cls) ++ [by8 c.master, by8 c.access] ++ leBytes 8 c.addr
    ++ time12 c.time ++ leBytes 4 (c.reactions + 256 * (c.syndrome % 16777216))
  b ++ leBytes 4 (crc32cF b)

/-- The reaction in force for a source of a class (R561). -/
def Faults.reaction (f : Faults) (src cls : Nat) : Nat :=
  if src = 0 then 0x13
  else
    let r := ((Tbl.lookD f.src src {}).own).getD (nth f.defaults cls 0)
    if src = 2 ∨ src = 9 then r ||| 16 else r

/-- What ISOLATE acts on for a source (R562). -/
def isolateTarget (src : Nat) : Option Due :=
  if 0x10 ≤ src ∧ src ≤ 0x1F then some (.slice (src % 8) src)
  else if 0xC0 ≤ src ∧ src ≤ 0xCF then some (.group (src % 8))
  else if 0x140 ≤ src ∧ src ≤ 0x17F then some (.group ((src - 0x140) / 8))
  else if 0x180 ≤ src ∧ src ≤ 0x1BF then some (.group ((src - 0x180) / 8))
  else none

/-- The reactions of a capture that act on units and modes, in the order of their bits; an entry to SAFE overtakes the handover the same fault asks for (R33). -/
def duesOf (src r : Nat) (cap : Capture) : List Due :=
  (if nbit r 2 then (isolateTarget src).toList else [])
    ++ (if nbit r 3 && !nbit r 4 then [Due.handover] else [])
    ++ (if nbit r 4 then [Due.safe (if src = 0 then 6 else if src = 2 then 8 else if src = 8 then 0x10 else 5) (some cap)] else [])

/-- Count a fault of a class. -/
def State.countFault (s : State) (src cls : Nat) : State :=
  s.fltM fun f => { f with
    classCount := updAt f.classCount cls sat32
    src := Tbl.upd f.src src {} fun e => { e with since := sat32 e.since, count := sat32 e.count } }

/-- Take a capture: the register, the list of the boot, the reactions of bits 0 and 1, and the rest as due. -/
def State.takeCapture (s : State) (cap : Capture) : State :=
  let k := s.flt.taken
  let own := (Tbl.lookD s.flt.src cap.source {}).own
  let s := s.fltM fun f => { f with
    src := Tbl.upd f.src cap.source {} fun e => { e with capture := some cap, since := 1 }
    taken := sat32 f.taken
    first := if k < 8 then f.first ++ [cap] else f.first
    due := f.due ++ duesOf cap.source cap.reactions cap }
  let s := if nbit cap.reactions 0 then
      s.bookPut s.recordRuns (if k < 8 then some (6400 + 8 * (s.mode.bootCount % 224) + k) else none) 0x10 cap.bytes
    else s
  if nbit cap.reactions 1 then
    let w9 := if cap.source = 0 then 0x13 else if own.isSome then 0x20 else nth s.flt.defaults cap.cls 0
    (s.setCause 4).postEvent 0x1001 cap.source (bytesWords cap.bytes ++ [wd (min (k + 1) 255), wd w9])
  else s

/-- Sources whose capture holds an ECC syndrome (R563); the manual gives no code, so its value is left free. -/
def eccSource (src : Nat) : Bool :=
  decide ((0x20 ≤ src ∧ src ≤ 0x2B) ∨ (0x30 ≤ src ∧ src ≤ 0x3B) ∨ src = 0x44 ∨ src = 0x45 ∨ (0x100 ≤ src ∧ src ≤ 0x107))

/-- Raise a fault: counted always; captured, with its reaction applied, when its source's capture register is empty (R565). -/
def State.fault (s : State) (src master access addr syndrome : Nat) : State :=
  match faultClass src with
  | none => s
  | some cls =>
    let full := (Tbl.lookD s.flt.src src {}).capture.isSome
    let s := s.countFault src cls
    if full then s
    else
      let (syn, s) := if eccSource src then (Config.freeValue s.free % 16777216, s.drawn) else (syndrome, s)
      s.takeCapture { source := src, cls := cls, master := master, access := access, addr := addr % 2 ^ 64
                      time := s.time.record.t, reactions := s.flt.reaction src cls, syndrome := syn }

/-- Bits FAULT_INJECT planted for the next write to a memory, at most two, and the state with them spent (R579). -/
def State.takePlanted (s : State) (srcs : List Nat) : Nat × State :=
  let n := (s.flt.planted.filter srcs.contains).length
  if n = 0 then (0, s) else (min n 2, s.fltM fun f => { f with planted := f.planted.filter fun x => !srcs.contains x })

/-! ## Modes (R39 to R41, R99) -/

/-- The mode is CONFIG or later: ring commands and the Vintner are in play. -/
def Mode.isUp (m : Mode) : Bool :=
  match m with
  | .off | .dormant | .boot => false
  | _ => true

/-- Change the mode: the register, the history count, the MODE record and the MODE_CHANGE event; an entry to BOOT or OFF, or to DORMANT other than by MODE_SET, raises none: the event sequence begins at CONFIG and the rings are gone (R97). -/
def State.goMode (s : State) (m : Mode) (cause : Nat) : State :=
  let p := s.mode.mode
  let runs := s.recordRuns
  let s := s.modeM fun b => { b with mode := m, prev := p, cause := cause, history := (b.history + 1) % 4294967296 }
  let s := s.bookPut runs none 0x02 ([by8 p.code, by8 m.code, by8 cause, 0#8] ++ leBytes 4 s.mode.history)
  if m.isUp || (m == .dormant && cause == 1) then s.postEvent 0x0001 m.code [wd (p.code + 256 * cause + 65536 * (s.mode.history % 65536))] else s

/-- HIF_MODE (R39). -/
def State.hifMode (s : State) : Nat := s.mode.mode.code + 16 * s.mode.prev.code + 256 * s.mode.cause

/-- DDR_READY: channel A is in use, and every channel in use is in service or in self-refresh (R518). -/
def State.ddrReady (s : State) : Bool :=
  nbit s.ddr.inUse 0 &&
    (setBits 4 s.ddr.inUse).all fun c =>
      let st := (nth s.ddr.chans c {}).st
      st == .inService || st == .selfRefresh

/-- TRELLIS_UP: twin states 5 to 7 (R461). -/
def Twin.up (t : Twin) : Bool := decide (5 ≤ t.st.code)

/-- HIF_STATUS (R47). SAFE_N is a level: low while asserted. -/
def State.hifStatus (s : State) : Nat :=
  b2n s.hif.ready + 2 * b2n s.vnt.running + 4 * b2n s.cmds.kwk.isSome + 8 * b2n s.ddrReady
    + 16 * b2n s.twin.up + 32 * b2n s.pins.ownOut + 64 * b2n s.pins.ownIn + 128 * b2n (s.mode.mode.isUp && !s.pins.safeN)

/-- The mode forwards traffic. -/
def Mode.forwards (m : Mode) : Bool :=
  match m with
  | .forward | .twinActive | .twinStandby | .takeover | .drain => true
  | _ => false

/-- TWIN_ACTIVE, TWIN_STANDBY or TAKEOVER. -/
def Mode.isTwin (m : Mode) : Bool :=
  match m with
  | .twinActive | .twinStandby | .takeover => true
  | _ => false

end Sys2Proof.Machine
end

