-- ==== Sys2Proof/Machine/DdrMem.lean ====
section
/-!
DEFINITION. Accesses to the DDR5 memory: interleaving, error checks, failed channels, and the wake of the domain (R506, R516, R522, R527).
-/
namespace Sys2Proof.Machine

/-- A wake trigger for one domain: a sleeping one starts to wake (R506). -/
def State.wakeDom (s : State) (d : Nat) : State :=
  let st := nth s.pwr.doms d .run
  if (st == .doze || st == .deep) && !s.pwr.waking.contains d && s.mode.mode != .safe then
    ((s.emit (.wake d)).perf 79 0x10 1).pwrM fun p => { p with waking := p.waking ++ [d] }
  else s

/-- Channels in use, as many as their mask says (R515). -/
def Ddr.width (d : Ddr) : Nat := popCnt 4 d.inUse

/-- The channel an address lies in (R516). -/
def Ddr.chanOf (d : Ddr) (a : Nat) : Nat := if d.width = 0 then 0 else a / 256 % d.width

/-- Capacity of the channels in use, in bytes (R515). -/
def Ddr.capacity (d : Ddr) : Nat :=
  sumL ((setBits 4 d.inUse).map fun c => (nth d.chans c {}).gib) * 1073741824

/-- The channel. -/
def State.chan (s : State) (c : Nat) : Chan := nth s.ddr.chans c {}

/-- Change a channel. -/
def State.chanM (s : State) (c : Nat) (f : Chan → Chan) : State :=
  s.ddrM fun d => { d with chans := updAt d.chans c f }

/-- Count one event of a channel: corrected, uncorrectable, address mismatches, forced refreshes, pauses, power-down entries, self-refresh entries. -/
def State.chanCount (s : State) (c i : Nat) : State := s.chanM c fun h => { h with counts := updAt h.counts i sat32 }

/-- A request reaches a channel: the domain and the ranks wake (R506, R525). -/
def State.ddrRequest (s : State) (c : Nat) : State :=
  (s.wakeDom 31).chanM c fun h => { h with pdown := [false, false] }

/-- An uncorrectable error met by a reader (R527). -/
def State.ddrUe (s : State) (c a master : Nat) : State :=
  ((s.chanCount c 1).chanM c fun h => { h with lastUe := a }).fault (0x104 + c) master 1 a 0

/-- The read of one 64-byte line: none when it answers uncorrectable. -/
def State.ddrLine (s : State) (line master : Nat) : Bool × State :=
  let c := s.ddr.chanOf line
  let s := (s.ddrRequest c).perf (67 + c) 0x10 1
  if (s.chan c).st = .failed then (false, s.ddrUe c line master)
  else
    match Tbl.lookD (s.chan c).errs line 0 with
    | 0 => (true, s)
    | 1 => (true, ((s.chanCount c 0).chanM c fun h => { h with errs := Tbl.del h.errs line }).fault (0x100 + c) master 1 line 0)
    | _ => (false, s.ddrUe c line master)

/-- Before self-refresh every owed refresh is issued (R524, R526). -/
def State.flushOwed (s : State) : State :=
  (List.range 4).foldl (fun s c =>
    if (s.chan c).st = .inService then (s.perf (67 + c) 0x12 (sumL (s.chan c).owed)).chanM c fun h => { h with owed := [0, 0], pdown := [false, false] }
    else s) s

/-- Every rank in service enters self-refresh after the burst of owed refreshes (R526). -/
def State.ranksSleep (s : State) : State :=
  s.flushOwed.ddrM fun d => { d with chans := d.chans.map fun c =>
    if c.st == .inService then { c with st := .selfRefresh, counts := updAt c.counts 6 sat32 } else c }

/-- Lines of a range. -/
def ddrLines (a n : Nat) : List Nat := (List.range (if n = 0 then 0 else (a % 64 + n + 63) / 64)).map fun i => (a / 64 + i) * 64

/-- The first line of a range that is uncorrectable, and the state after the read. -/
def State.ddrCheck (s : State) (a n master : Nat) : Option Nat × State :=
  (ddrLines a n).foldl (fun (x : Option Nat × State) l =>
    let y := x.2.ddrLine l master
    (if x.1.isNone && !y.1 then some l else x.1, y.2)) (none, s)

/-- A string of the memory, none when a word of it is uncorrectable (R522, R527). -/
def State.ddrLoad (s : State) (a n master : Nat) : Option Bytes × State :=
  match s.ddrCheck a n master with
  | (none, s) => (some (Mem.reads s.ddr.mem a n), s)
  | (some _, s) => (none, s)

/-- The bits planted for the next write to a channel go into its line (R579); a line written whole holds no old error. -/
def State.ddrPlant (s : State) (c line : Nat) (whole : Bool) : State :=
  let (ce, s) := s.takePlanted [0x100 + c]
  let (ue, s) := s.takePlanted [0x104 + c]
  let bits := min 2 (ce + ue)
  s.chanM c fun h => { h with errs := if bits != 0 then Tbl.put h.errs line bits else if whole then Tbl.del h.errs line else h.errs }

/-- Write within one 64-byte line: a failed channel discards it. -/
def State.ddrStoreLine (s : State) (a : Nat) (b : Bytes) : State :=
  let c := s.ddr.chanOf a
  let s := s.ddrRequest c
  if (s.chan c).st = .failed then s
  else ((s.ddrPlant c (a / 64 * 64) (b.length == 64)).perf (67 + c) 0x11 1).ddrM fun d => { d with mem := Mem.writes d.mem a b }

/-- Write a string, a piece of a line at a time, `n` pieces at most. -/
def State.ddrPieces : Nat → State → Nat → Bytes → State
  | 0, s, _, _ => s
  | n + 1, s, a, b =>
    if b.isEmpty then s
    else
      let k := 64 - a % 64
      State.ddrPieces n (s.ddrStoreLine a (b.take k)) (a + k) (b.drop k)

/-- Write a string into the memory. -/
def State.ddrStore (s : State) (a : Nat) (b : Bytes) : State := State.ddrPieces (b.length / 64 + 2) s a b

/-! ## Regions (R517) -/

/-- Base and size of the spill region, the sample ring, the trace ring and the snapshot area; size 0 where not placed. -/
def State.regions (s : State) : List (Nat × Nat) :=
  [if s.cip.spillEnable then (s.cip.spillBase, 1073741824) else (0, 0),
   if s.sched.ringEn then (s.sched.ringBase, 32 * 2 ^ s.sched.ringLog2) else (0, 0),
   if s.vnt.trEnable then (s.vnt.trBase, 32 * 2 ^ s.vnt.trLog2) else (0, 0),
   match s.cnt.area with
   | some a => (a, 17 * 1048576)
   | none => (0, 0)]

/-- A region to be placed meets one that stands, other than its own kind `k`. -/
def State.overlaps (s : State) (k base size : Nat) : Bool :=
  (List.range 4).any fun i =>
    let r := nth s.regions i (0, 0)
    i != k && r.2 != 0 && decide (base < r.1 + r.2) && decide (r.1 < base + size)

/-- Address of line `k` of the pairs in the snapshot image (R538). -/
def imageLine (area k : Nat) : Nat := area + 1048576 + 64 * k

/-- The four pairs of a line as the image holds them. -/
def State.statLine (s : State) (k : Nat) : Bytes :=
  (List.range 4).flatMap fun i =>
    let v := Tbl.lookD s.cnt.stats (4 * k + i) (0, 0)
    leBytes 8 v.1 ++ leBytes 8 v.2

/-- Before an update of a line while a copy runs, the line's present value goes to the image once (R539). -/
def State.copyOnWrite (s : State) (k : Nat) : State :=
  match s.cnt.snap, s.cnt.area with
  | .copying, some a =>
    if !s.cnt.snapStats || s.cnt.copied.contains k then s
    else (s.ddrStore (imageLine a k) (s.statLine k)).cntM fun c => { c with copied := k :: c.copied, cowLines := c.cowLines + 1 }
  | _, _ => s

/-- SNAPSHOT_DONE with an outcome (R540). -/
def State.snapEvent (s : State) (outcome : Nat) : State :=
  s.postEvent 0x0F01 (s.cnt.cutId % 4294967296) (wd (outcome) :: wd (s.cnt.cutId / 4294967296) :: timeWords s.cnt.cutTime
    ++ [wd s.cnt.withheld, wd ((s.time.record.t - s.cnt.cutTime) / 65536000)])

/-- Abort a copy in progress: the image says so, and no later write reaches it (R542). -/
def State.snapAbort (s : State) (outcome : Nat) : State :=
  if s.cnt.snap = .copying ∧ s.cnt.snapStats then
    let s := match s.cnt.area with
      | some a => s.ddrStore (a + 0x14) [4#8]
      | none => s
    (s.cntM fun c => { c with snap := .aborted }).snapEvent outcome
  else s

/-- Count a statistics pair (R269, R286, R535). -/
def State.statAdd (s : State) (pair bytes : Nat) : State :=
  (s.copyOnWrite (pair / 4)).cntM fun c => { c with stats := Tbl.upd c.stats pair (0, 0) fun x => (wrapAdd 64 x.1 1, wrapAdd 64 x.2 bytes) }

/-- Some SA lives in its spill record. -/
def State.spilled (s : State) : Nat := (s.cip.sas.filter fun e => e.2.ctx.isNone && !e.2.lost).length

end Sys2Proof.Machine
end

