-- ==== Sys2Proof/Machine/Reply.lean ====
section
/-!
DEFINITION. The reply writer, tags in flight and their completion (R54, R82, R84, R88 to R91), and the trace ring (R495, R496).
-/
namespace Sys2Proof

/-! ## Packet fields (R83) -/

/-- REPLY_ALWAYS. -/
def Packet.always (c : Packet) : Bool := nbit c.flags.toNat 0
/-- IN_BATCH. -/
def Packet.inBatch (c : Packet) : Bool := nbit c.flags.toNat 1
/-- FENCE. -/
def Packet.fence (c : Packet) : Bool := nbit c.flags.toNat 2
/-- LATE_OK. -/
def Packet.lateOk (c : Packet) : Bool := nbit c.flags.toNat 3
/-- The tag, bits 11:0. -/
def Packet.tagNo (c : Packet) : Nat := c.tag.toNat % 4096
/-- object_id as a number. -/
def Packet.obj (c : Packet) : Nat := c.objectId.toNat
/-- Parameter word i. -/
def Packet.w (c : Packet) (i : Nat) : Word := nth c.params i 0#32
/-- Parameter word i as a number. -/
def Packet.n (c : Packet) (i : Nat) : Nat := (c.w i).toNat
/-- The parameters as bytes. -/
def Packet.bytes (c : Packet) : Bytes := wordsBytes c.params
/-- Slots of the packet (R79, R80). -/
def Packet.slots (c : Packet) : Nat :=
  if 1020 < c.plen.toNat then 1 else ceilDiv (16 + 4 * c.plen.toNat) 64

end Sys2Proof

namespace Sys2Proof.Machine

/-! ## Trace (R495, R496) -/

/-- Write a trace record of a kind that is enabled; without a write opportunity in the last 16 core clocks, with DDR5 not in service, or with its domain held asleep in SAFE, it is lost. -/
def State.trace (s : State) (on : Bool) (kind ctx addr tag op : Nat) (rest : Bytes) : State :=
  let v := s.vnt
  if !v.trEnable || !on then s
  else
    let free := match v.trClock with
      | none => true
      | some k => decide (k + 16 ≤ s.time.core)
    if free && s.ddrReady && s.mode.mode != .safe then
      let r := leBytes 4 v.trSeq ++ leBytes 8 s.ns ++ [by8 kind, by8 ctx] ++ leBytes 2 addr ++ leBytes 2 tag
        ++ leBytes 2 op ++ bytesAt rest 0 12
      (s.ddrStore (v.trBase + 32 * (v.trSeq % 2 ^ v.trLog2)) r).vntM fun v =>
        { v with trSeq := (v.trSeq + 1) % 4294967296, trClock := some s.time.core }
    else s.vntM fun v => { v with trLost := sat32 v.trLost }

/-- Two paths share their tags: every command ring has the one set, the tunnel its own (R77, R88). -/
def samePath : Path → Path → Bool
  | .ring _, .ring _ => true
  | .tunnel, .tunnel => true
  | _, _ => false

/-- Is this the tag in flight of a packet? -/
def Tag.isOf (t : Tag) (c : Packet) : Bool := samePath t.pkt.path c.path && t.pkt.tagNo == c.tagNo

/-! ## Writing replies -/

/-- Slots of a reply (R82). -/
def Reply.slots (r : Reply) : Nat := ceilDiv (16 + 4 * r.data.length) 64

/-- The reply ring takes this reply now. -/
def State.replyFits (s : State) (r : Reply) : Bool :=
  let g := nth s.hif.rings 4 {}
  g.active && s.hif.bme && decide (r.slots ≤ g.room)

/-- The bytes of a reply, before the last slot is filled with zero (R84). -/
def Reply.bytes (r : Reply) : Bytes :=
  leBytes 2 r.opcode ++ leBytes 2 r.status.code ++ leBytes 2 r.tag ++ leBytes 2 r.data.length
    ++ leBytes 4 r.detail ++ leBytes 4 r.time ++ wordsBytes r.data

/-- Free the tag of a packet. -/
def State.dropTag (s : State) (c : Packet) : State :=
  s.cmdsM fun k => { k with tags := k.tags.filter fun t => !t.isOf c }

/-- Free the tag a reply ends. -/
def State.dropTagOf (s : State) (r : Reply) : State :=
  s.cmdsM fun k => { k with tags := k.tags.filter fun t => !(samePath t.pkt.path r.path && t.pkt.tagNo == r.tag % 4096) }

/-- Write a reply into its slots of the reply ring (R56, R82). -/
def State.writeReply (s : State) (r : Reply) (final : Bool) : State :=
  let g := nth s.hif.rings 4 {}
  let s := (((s.emit (.reply g.engine r (g.place r.bytes))).perfHost 0x11 1).perfHost 0x13 1).ringAdvance 4 r.slots 0
  if final then s.dropTagOf r else s

/-- Hand a reply to its path: written, held in completion order (R54), or waiting for TUNNEL_READ (R77). -/
def State.sendReply (s : State) (r : Reply) (final : Bool) : State :=
  match r.path with
  | .tunnel =>
    let s := (s.emit (.tunnelReply r)).smbM fun m =>
      { m with reply := some (r.bytes, 0), command := if final then none else m.command, alertReleased := false }
    if final then s.dropTagOf r else s
  | .ring _ =>
    if s.cmds.held.isEmpty && s.replyFits r then s.writeReply r final
    else
      s.cmdsM fun k => { k with
        held := k.held ++ [(r, final)]
        tags := if final then k.tags.map fun t =>
            if samePath t.pkt.path r.path && t.pkt.tagNo == r.tag % 4096 then { t with phase := .done } else t
          else k.tags }

/-- A reply to a packet; in the tick of a TIME_SET step it carries the old record time (R416). -/
def State.mkReply (s : State) (op : Nat) (c : Packet) (st : Status) (detail : Nat) (data : List Word) : Reply :=
  { path := c.path, opcode := op, status := st, tag := c.tag.toNat, detail := detail % 4294967296, time := s.time.oldNs.getD s.ns32, data := data }

/-- The data of a final reply: a VINT_COMMIT or VINT_COMMIT_AT that fails carries its two words, zero (R252). -/
def finalWords (op : Nat) (st : Status) (data : List Word) : List Word :=
  if (op == 0x0502 || op == 0x0505) && data.isEmpty && st != .ok then [0#32, 0#32] else data

/-- End a command: written when R89 asks for a reply, silent otherwise. -/
def State.complete (s : State) (op : Nat) (c : Packet) (st : Status) (detail : Nat) (data : List Word) : State :=
  let data := finalWords op st data
  let s := s.trace s.vnt.trCmd 3 0 0 c.tagNo op (leBytes 2 st.code ++ [0#8, 0#8] ++ leBytes 4 detail)
  if st != .ok || !data.isEmpty || c.always then s.sendReply (s.mkReply op c st detail data) true
  else
    let s := match c.path with
      | .tunnel => s.smbM fun m => { m with command := none }
      | .ring _ => s
    s.dropTag c

/-- End a command that has a tag, whatever REPLY_ALWAYS says (R35, R93, R592). -/
def State.completeAlways (s : State) (t : Tag) (st : Status) : State :=
  let s := s.trace s.vnt.trCmd 3 0 0 t.pkt.tagNo t.opcode (leBytes 2 st.code)
  s.sendReply (s.mkReply t.opcode t.pkt st 0 (finalWords t.opcode st [])) true

/-- End every unfinished command that satisfies `p`, in fetch order, with a status. -/
def State.completeAll (s : State) (p : Tag → Bool) (st : Status) : State :=
  (s.cmds.tags.filter fun t => t.phase != .done && p t).foldl (fun s t => s.completeAlways t st) s

/-- Started and not finished: parked, with or without a PENDING reply. -/
def Tag.begun (t : Tag) : Bool := t.phase == .pended || t.phase == .running

/-- End every parked command that satisfies `p`, in fetch order. -/
def State.completePended (s : State) (p : Tag → Bool) (st : Status) (detail : Nat) (data : List Word) : State :=
  (s.cmds.tags.filter fun t => t.begun && p t).foldl
    (fun s t => s.complete t.opcode t.pkt st detail data) s

/-- A parked command with this opcode. -/
def State.parked (s : State) (op : Nat) : Option Tag :=
  s.cmds.tags.find? fun t => t.begun && t.opcode == op

/-- A parked command with this opcode and object. -/
def State.parkedOn (s : State) (op obj : Nat) : Option Tag :=
  s.cmds.tags.find? fun t => t.begun && t.opcode == op && t.pkt.obj == obj

/-- Write the first held reply if it fits (R54). -/
def State.writeHeld (s : State) : State :=
  match s.cmds.held with
  | [] => s
  | (r, f) :: rest =>
    if s.replyFits r then (s.cmdsM fun k => { k with held := rest }).writeReply r f else s

/-- The open batch and what is staged in it go (R105). -/
def State.noBatch (s : State) : State := s.cmdsM fun k => { k with batchOpen := false, staged := [], landing := false, applying := false }

/-! ## Results of commands -/

/-- What a command's own checks and effect end in. -/
inductive Res
  /-- A status that leaves every object as it was (R95). -/
  | fail (st : Status) (detail : Nat)
  /-- Done, with the detail, the reply data and the state. -/
  | done (st : Status) (detail : Nat) (data : List Word) (s : State)
  /-- Parked after a PENDING reply, with a number kept beside the tag. -/
  | pend (aux : Nat) (s : State)
  /-- Started and waiting inside the engine, with a number kept beside the tag; no interim reply. -/
  | hold (aux : Nat) (s : State)
  /-- A status other than OK with reply data; every object is as it was (R95). -/
  | failData (st : Status) (detail : Nat) (data : List Word)
deriving DecidableEq, Repr

/-- NO_RESOURCE that leaves nothing changed but the counts it is counted in. -/
def Res.noRoom (detail : Nat) (s : State) : Res := .done .noResource detail [] s

/-- Done with OK and nothing else to say. -/
def Res.ok (s : State) : Res := .done .ok 0 [] s

/-- Done with OK and reply data. -/
def Res.data (d : List Word) (s : State) : Res := .done .ok 0 d s

/-- The first check that fails decides; when all hold, the rest runs. -/
def checks (cs : List (Bool × Status × Nat)) (k : Res) : Res :=
  match cs.find? (fun c => !c.1) with
  | some (_, st, d) => .fail st d
  | none => k

/-- R624: an object_id that must be zero. -/
def objZero (c : Packet) : Bool × Status × Nat := (c.obj == 0, .badParam, 8)

/-- R624: an object_id within a range. -/
def objBelow (c : Packet) (n : Nat) : Bool × Status × Nat := (decide (c.obj < n), .notFound, 0)

/-- Byte offset, from header byte 0, of the field of parameter word i that starts at bit lo (R87). -/
def fieldOff (i lo : Nat) : Nat := 16 + 4 * i + lo / 8

/-- First bit of the run of undefined bits that bit b lies in, for a mask of defined bits. -/
def runStart (mask : Nat) : Nat → Nat
  | 0 => 0
  | b + 1 => if nbit mask b then b + 1 else runStart mask b

/-- R7: the bits of parameter word i outside the mask of bits a command defines are zero; the detail names the first reserved field with a bit set. -/
def reserved (c : Packet) (i mask : Nat) : Bool × Status × Nat :=
  match setBits 32 (clrMask (c.n i) mask) with
  | [] => (true, .badParam, 0)
  | b :: _ => (false, .badParam, fieldOff i (runStart mask b))

/-- Parameter words that are reserved whole. -/
def reservedWords (c : Packet) (a n : Nat) : List (Bool × Status × Nat) := (List.range n).map fun k => reserved c (a + k) 0

/-- R102: a field that may not be zero. -/
def nonZero (c : Packet) (i hi lo : Nat) : Bool × Status × Nat := ((c.w i).fld hi lo != 0, .badZero, fieldOff i lo)

/-- A field within a range. -/
def within (c : Packet) (i hi lo a b : Nat) : Bool × Status × Nat :=
  (decide (a ≤ (c.w i).fld hi lo) && decide ((c.w i).fld hi lo ≤ b), .badParam, fieldOff i lo)

/-- A condition on a field; its failure is BAD_PARAM at the field. -/
def fieldIs (i lo : Nat) (b : Bool) : Bool × Status × Nat := (b, .badParam, fieldOff i lo)

end Sys2Proof.Machine
end

