-- ==== Sys2Proof/Machine/Micro.lean ====
section
/-!
DEFINITION. The microword: its fields, its parity, the ALU with its flags, the conditions and the next address, and what one word does to the context that issues it (R487 to R490).
The contents of the ROM are not in the manual: it is an opaque constant, and no command issues its words; MACHINE_CHECK checks the parity of the word it brings.
-/
namespace Sys2Proof.Machine

/-- A microword, bit 0 least significant (R487). -/
abbrev Micro := BitVec 136

/-- A field of a microword. -/
def Micro.fld (w : BitVec 136) (hi lo : Nat) : Nat := nfld w.toNat hi lo

/-- Parity bit k and the sixteen bits it covers hold an odd number of ones (R490). -/
def parityFails (w : BitVec 136) (k : Nat) : Bool :=
  (popCnt 16 (nfld w.toNat (16 * k + 15) (16 * k)) + b2n (nbit w.toNat (128 + k))) % 2 == 1

/-- PERR of a word: bit k for each P_k that fails (R490). -/
def perrOf (w : BitVec 136) : Nat := sumL ((List.range 8).map fun k => b2n (parityFails w k) * 2 ^ k)

/-! ## The ALU (R488) -/

/-- Index of the lowest set bit, 32 for zero. -/
def lowestBit (n : Nat) : Nat := ((setBits 32 n).head?).getD 32

/-- Insert the low bits of B into A at a position, with a length. -/
def insertBits (a b pos len : Nat) : Nat :=
  let m := (2 ^ len - 1) * 2 ^ pos
  ((a &&& (4294967295 - m % 4294967296)) ||| (b * 2 ^ pos &&& m)) % 4294967296

/-- The result of an ALU operation, exact before it is narrowed: none for the codes never used and for no operation. -/
def aluExact (op : Nat) (a b lit : Nat) (carry : Bool) : Option Int :=
  let sh := b % 32
  match op with
  | 1 => some a
  | 2 => some b
  | 3 => some (a + b)
  | 4 | 15 => some ((a : Int) - b)
  | 5 => some (a &&& b : Nat)
  | 6 => some (a ||| b : Nat)
  | 7 => some (a ^^^ b : Nat)
  | 8 => some (a * 2 ^ sh % 4294967296 : Nat)
  | 9 => some (a / 2 ^ sh : Nat)
  | 10 => some (((BitVec.ofNat 32 a).sshiftRight sh).toNat)
  | 11 => some (((BitVec.ofNat 32 a).rotateLeft sh).toNat)
  | 12 => some (4294967295 - a : Nat)
  | 13 => some (a + b + b2n carry)
  | 14 => some ((a : Int) - b - b2n carry)
  | 16 => some (min a b : Nat)
  | 17 => some (max a b : Nat)
  | 18 => some (popCnt 32 a)
  | 19 => some (lowestBit a)
  | 20 => some (beNat (leBytes 4 a))
  | 21 => some (crc32c a (leBytes 4 b))
  | 22 => some (insertBits a b (lit % 32) (lit / 32 % 32))
  | 23 => some (a / 2 ^ (lit % 32) % 2 ^ (lit / 32 % 32) : Nat)
  | _ => none

/-- Overflow of an addition or a subtraction of two's complement numbers. -/
def aluOverflow (op a b : Nat) (r : BitVec 32) : Bool :=
  let x := nbit a 31
  let y := nbit b 31
  if op = 3 ∨ op = 13 then x == y && r.msb != x
  else if op = 4 ∨ op = 14 ∨ op = 15 then x != y && r.msb != x
  else false

/-- The context after the ALU of a word: four flags from each result, and the register DEST unless only flags are asked for. -/
def VCtx.alu (k : VCtx) (w : BitVec 136) : VCtx :=
  let op := Micro.fld w 104 100
  let lit := Micro.fld w 79 64
  let a := (nth k.w (Micro.fld w 99 96) 0#32).toNat
  let bs := Micro.fld w 95 92
  let b := if bs = 15 then lit else (nth k.w bs 0#32).toNat
  match aluExact op a b lit k.c with
  | none => k
  | some r =>
    let x : BitVec 32 := BitVec.ofInt 32 r
    { k with
      w := if op = 15 then k.w else updAt k.w (Micro.fld w 91 88) fun _ => x
      z := x == 0#32, n := x.msb, c := decide (r < 0 ∨ 4294967295 < r), v := aluOverflow op a b x }

/-! ## Conditions and sequencing (R488, R489) -/

/-- A condition, given what the context's last ALU result was and the conditions outside it, by code. -/
def VCtx.cond (k : VCtx) (last : Nat) (outside : Nat → Bool) (code : Nat) : Bool :=
  match code with
  | 0 => false
  | 1 => k.z
  | 2 => k.n
  | 3 => k.c
  | 4 => k.v
  | _ => if 16 ≤ code then nbit last (code - 16) else outside code

/-- Conditions of the state (R488): full rings, an open batch, an open vintage, a twin mode, an acknowledgement waited for. -/
def State.microCond (s : State) (code : Nat) : Bool :=
  match code with
  | 8 => decide ((nth s.hif.rings 4 {}).room = 0)
  | 9 => decide ((nth s.hif.rings 5 {}).room = 0)
  | 12 => s.cmds.batchOpen
  | 13 => match s.vin.vint with
    | some v => v.state == .opened
    | none => false
  | 14 => s.mode.mode.isTwin
  | 15 => !s.twin.waits.isEmpty
  | _ => false

/-- The address after a word, for a context that holds a command of this opcode. -/
def VCtx.next (k : VCtx) (w : BitVec 136) (opcode : Nat) (holds : Bool) : Nat :=
  let nxt := Micro.fld w 127 114
  match Micro.fld w 107 106 with
  | 0 => nxt
  | 1 => if holds then nxt ||| 1 else nxt
  | 2 =>
    let c := Micro.fld w 109 108
    nxt / 16 * 16 + nfld opcode (4 * c + 3) (4 * c)
  | _ => k.link

/-- What a word of ALU and sequencing does to its context (R487 to R489): a word that fails parity is never executed. -/
def VCtx.issue (k : VCtx) (w : BitVec 136) (opcode last : Nat) (outside : Nat → Bool) : Option VCtx :=
  if perrOf w != 0 then none
  else
    let holds := k.cond last outside (Micro.fld w 113 108)
    let k' := { k.alu w with addr := k.next w opcode holds }
    some { k' with link := if nbit w.toNat 105 then (k.addr + 1) % 16384 else k.link }

/-! ## The ROM and the scratch (R485, R487) -/

/-- The word of the ROM at an address. -/
def romWord (a : Nat) : Micro := Config.microcode (a % 16384)

/-- What a word's MEMOP does with the scratch: the context and the scratch after a read into W[MEMD], or a write from it, at the word that W[MEMA] names. -/
def scratchOp (w : Micro) (k : VCtx) (m : Tbl Word) : VCtx × Tbl Word :=
  let a := (nth k.w (Micro.fld w 15 12) 0#32).toNat % 131072
  let d := Micro.fld w 11 8
  match Micro.fld w 87 84 with
  | 1 => ({ k with w := updAt k.w d fun _ => Tbl.lookD m a 0#32 }, m)
  | 2 => (k, Tbl.put m a (nth k.w d 0#32))
  | _ => (k, m)

/-- What a word's TIMOP does with the timers: start in ns or in µs from LIT, or stop. -/
def timerOp (w : Micro) (ts : List Nat) : List Nat :=
  let i := Micro.fld w 43 40
  match Micro.fld w 47 44 with
  | 1 => updAt ts i fun _ => Micro.fld w 79 64
  | 2 => updAt ts i fun _ => 1000 * Micro.fld w 79 64
  | 3 => updAt ts i fun _ => 0
  | _ => ts

/-- The rules of R487 to R489 on the fields of a word: the codes never used, the bits that are zero, and the low bits of NEXT before a branch. -/
def Micro.legal (w : Micro) : Bool :=
  let f := Micro.fld w
  let bmode := f 107 106
  decide (f 104 100 ≤ 23) && decide (f 87 84 ≤ 5) && decide (f 83 80 ≤ 3) && decide (f 63 60 ≤ 7) && decide (f 59 56 ≤ 11)
    && decide (f 55 52 ≤ 7) && decide (f 47 44 ≤ 4) && f 39 37 == 0 && f 7 0 == 0
    && (if bmode = 1 then f 114 114 == 0 && decide (f 113 108 ≤ 0x2F) else if bmode = 2 then f 117 114 == 0 && f 113 110 == 0 else decide (f 113 108 ≤ 0x2F))

/-- One core clock of the sequencer: context `i`, which holds a command of this tag and opcode, issues the word at its address; its scratch access, its timer, its ALU, its next address, its trace record and its fault (EVOP bits 35 and 36) act in that clock. A word that fails parity is never executed. -/
def State.issueWord (s : State) (i tag opcode last : Nat) (outside : Nat → Bool) : State :=
  let k := nth s.vnt.ctx i {}
  let w := romWord k.addr
  match k.issue w opcode last outside with
  | none => s
  | some k' =>
    let (k', m) := scratchOp w k' s.vnt.scratch
    let d := Micro.fld w 91 88
    let s := s.vntM fun v => { v with ctx := updAt v.ctx i (fun _ => k'), scratch := m, timers := timerOp w v.timers }
    let s := if nbit w.toNat 35 then
        s.trace s.vnt.trMicro 1 i k.addr tag opcode ([by8 d, 0#8, 0#8, 0#8] ++ leBytes 4 (nth k'.w d 0#32).toNat) else s
    if nbit w.toNat 36 then s.fault (nth k'.w 15 0#32).toNat (0x10 + i) 4 k.addr 0 else s

end Sys2Proof.Machine
end

