-- ==== Sys2Proof/Machine/Sha.lean ====
section
/-!
DEFINITION. SHA-384 (FIPS 180-4), HMAC-SHA-384 (RFC 2104) and HKDF-SHA-384 (RFC 5869), which R111 to R113, R459 and R460 name.
The manual gives none of these algorithms; they are taken from the standards it cites (PRESUMED, log entry 6).
-/
namespace Sys2Proof.Sha

/-- A prime below 2,809: no number from 2 up to its root divides it. -/
def isPrime (n : Nat) : Bool := 2 ≤ n && (List.range 53).all fun d => d < 2 || n < d * d || n % d != 0

/-- The largest r below `r + 2^bits` whose power `e` is at most n, bit by bit from the top. -/
def rootBits (e n : Nat) : Nat → Nat → Nat
  | 0, r => r
  | bits + 1, r => rootBits e n bits (if (r + 2 ^ bits) ^ e ≤ n then r + 2 ^ bits else r)

/-- First 64 bits of the fractional part of the e-th root of p, for a root below 8 (FIPS 180-4 takes its constants so). -/
def rootFrac (e p : Nat) : Nat := rootBits e (p * 2 ^ (64 * e)) 67 0 % 2 ^ 64

/-- Round constants: cube roots of the first eighty primes. -/
def roundKeys : List Nat := ((List.range 410).filter isPrime).map (rootFrac 3)

/-- Initial hash value of SHA-384: square roots of the ninth to sixteenth primes. -/
def h0 : List Nat := (((List.range 54).filter isPrime).drop 8).map (rootFrac 2)

/-- Addition modulo 2^64. -/
def add (a b : Nat) : Nat := (a + b) % 18446744073709551616

/-- Rotation to the right of 64 bits. -/
def rotr (x n : Nat) : Nat := (x / 2 ^ n) ||| (x * 2 ^ (64 - n) % 18446744073709551616)

/-- Big sigma 0. -/
def bs0 (x : Nat) : Nat := rotr x 28 ^^^ rotr x 34 ^^^ rotr x 39
/-- Big sigma 1. -/
def bs1 (x : Nat) : Nat := rotr x 14 ^^^ rotr x 18 ^^^ rotr x 41
/-- Small sigma 0. -/
def ss0 (x : Nat) : Nat := rotr x 1 ^^^ rotr x 8 ^^^ x / 128
/-- Small sigma 1. -/
def ss1 (x : Nat) : Nat := rotr x 19 ^^^ rotr x 61 ^^^ x / 64

/-- Message schedule, latest word first, `n` more words. -/
def sched : Nat → List Nat → List Nat
  | 0, w => w
  | n + 1, w =>
    sched n (add (add (ss1 (nth w 1 0)) (nth w 6 0)) (add (ss0 (nth w 14 0)) (nth w 15 0)) :: w)

/-- One round on a to h. -/
def round (v : List Nat) (kw : Nat) : List Nat :=
  match v with
  | [a, b, c, d, e, f, g, h] =>
    let ch := (e &&& f) ^^^ ((18446744073709551615 - e) &&& g)
    let maj := (a &&& b) ^^^ (a &&& c) ^^^ (b &&& c)
    let t1 := add (add h (bs1 e)) (add ch kw)
    let t2 := add (bs0 a) maj
    [add t1 t2, a, b, c, add d t1, e, f, g]
  | l => l

/-- One block of sixteen words. -/
def block (hs ws : List Nat) : List Nat :=
  let w := (sched 64 ws.reverse).reverse
  let v := (List.zipWith add roundKeys w).foldl round hs
  List.zipWith add hs v

/-- Words of 64 bits, most significant byte first, `n` of them. -/
def words64 : Nat → Bytes → List Nat
  | 0, _ => []
  | n + 1, b => beNat (b.take 8) :: words64 n (b.drop 8)

/-- Blocks of 128 bytes, `n` of them. -/
def blocks : Nat → List Nat → Bytes → List Nat
  | 0, hs, _ => hs
  | n + 1, hs, b => blocks n (block hs (words64 16 b)) (b.drop 128)

/-- SHA-384, 48 bytes. -/
def sha384 (m : Bytes) : Bytes :=
  let z := (128 - (m.length + 17) % 128) % 128
  let p := m ++ [0x80#8] ++ List.replicate z 0#8 ++ beBytes 16 (8 * m.length)
  ((blocks (p.length / 128) h0 p).take 6).flatMap (beBytes 8)

/-- HMAC-SHA-384. -/
def hmac (key m : Bytes) : Bytes :=
  let k := if 128 < key.length then sha384 key else key
  let k := k ++ List.replicate (128 - k.length) 0#8
  sha384 (k.map (· ^^^ 0x5C#8) ++ sha384 (k.map (· ^^^ 0x36#8) ++ m))

/-- HKDF-Expand, block by block. -/
def expandN (prk info : Bytes) : Nat → Nat → Bytes → Bytes
  | 0, _, _ => []
  | n + 1, i, t =>
    let t := hmac prk (t ++ info ++ [by8 i])
    t ++ expandN prk info n (i + 1) t

/-- HKDF-SHA-384 of a length. -/
def hkdf (ikm salt info : Bytes) (len : Nat) : Bytes :=
  (expandN (hmac salt ikm) info ((len + 47) / 48) 1 []).take len

end Sys2Proof.Sha
end

