-- ==== Sys2Proof/Machine/P384.lean ====
section
/-!
DEFINITION. The curve P-384 (NIST SP 800-186), ECDH, and ECDSA with SHA-384 (FIPS 186-5), which R112, R113 and R459 name.
The manual gives none of these algorithms; they are taken from the standards it cites (PRESUMED, log entry 6).
-/
namespace Sys2Proof.P384

/-- The field prime. -/
def p : Nat := 0xfffffffffffffffffffffffffffffffffffffffffffffffffffffffffffffffeffffffff0000000000000000ffffffff

/-- The group order. -/
def n : Nat := 0xffffffffffffffffffffffffffffffffffffffffffffffffc7634d81f4372ddf581a0db248b0a77aecec196accc52973

/-- The coefficient b; the coefficient a is -3. -/
def b : Nat := 0xb3312fa7e23ee7e4988e056be3f82d19181d9c6efe8141120314088f5013875ac656398d8a2ed19d2a85c8edd3ec2aef

/-- The base point's x. -/
def gx : Nat := 0xaa87ca22be8b05378eb1c71ef320ad746e1d3b628ba79b9859f741e082542a385502f25dbf55296c3a545e3872760ab7

/-- The base point's y. -/
def gy : Nat := 0x3617de4a96262c6f5d9e98bf9292dc29f8f41dbd289a147ce9da3113b5f0b8c00a60b1ce1d7e819d7a431d7c90ea0e5f

/-- A point in Jacobian coordinates; z = 0 is the point at infinity. -/
structure Pt where
  /-- X. -/
  x : Nat
  /-- Y. -/
  y : Nat
  /-- Z. -/
  z : Nat
deriving DecidableEq, Repr

/-- Difference modulo p. -/
def sub (a c : Nat) : Nat := (a + p - c % p) % p

/-- Doubling. -/
def dbl (q : Pt) : Pt :=
  let d := q.z * q.z % p
  let g := q.y * q.y % p
  let be := q.x * g % p
  let al := 3 * (sub q.x d) * (q.x + d) % p
  let x := sub (al * al) (8 * be)
  ⟨x, sub (al * sub (4 * be) x) (8 * g * g), 2 * q.y * q.z % p⟩

/-- Addition. -/
def add (q r : Pt) : Pt :=
  if q.z = 0 then r
  else if r.z = 0 then q
  else
    let z1 := q.z * q.z % p
    let z2 := r.z * r.z % p
    let u1 := q.x * z2 % p
    let u2 := r.x * z1 % p
    let s1 := q.y * r.z * z2 % p
    let s2 := r.y * q.z * z1 % p
    if u1 = u2 then (if s1 = s2 then dbl q else ⟨1, 1, 0⟩)
    else
      let h := sub u2 u1
      let k := sub s2 s1
      let h2 := h * h % p
      let h3 := h * h2 % p
      let v := u1 * h2 % p
      let x := sub (sub (k * k) h3) (2 * v)
      ⟨x, sub (k * sub v x) (s1 * h3), h * q.z * r.z % p⟩

/-- The multiple of a point by the low `i` bits of a scalar, most significant first. -/
def mulBits (k : Nat) (q : Pt) : Nat → Pt → Pt
  | 0, acc => acc
  | i + 1, acc =>
    let d := dbl acc
    mulBits k q i (if nbit k i then add d q else d)

/-- The multiple of a point. -/
def mul (k : Nat) (q : Pt) : Pt := mulBits k q 384 ⟨1, 1, 0⟩

/-- Power modulo m, over `i` bits of the exponent. -/
def powBits (m a e : Nat) : Nat → Nat → Nat
  | 0, acc => acc
  | i + 1, acc =>
    let s := acc * acc % m
    powBits m a e i (if nbit e i then s * a % m else s)

/-- Inverse modulo a prime of 384 bits. -/
def inv (m a : Nat) : Nat := powBits m (a % m) (m - 2) 384 1

/-- Affine coordinates. -/
def affine (q : Pt) : Nat × Nat :=
  let i := inv p q.z
  (q.x * (i * i % p) % p, q.y * (i * i % p * i % p) % p)

/-- The base point. -/
def base : Pt := ⟨gx, gy, 1⟩

/-- Is (x, y) a point of the curve? -/
def onCurve (x y : Nat) : Bool :=
  decide (x < p) && decide (y < p) && decide (y * y % p = (x * x % p * x + (p - 3) * x + b) % p)

/-- A private key made from a number: 1 to n - 1. -/
def scalar (k : Nat) : Nat := k % (n - 1) + 1

/-- The public point of a private key. -/
def pub (d : Nat) : Nat × Nat := affine (mul d base)

/-- The x-coordinate of a Diffie-Hellman product, 48 bytes. -/
def ecdh (d x y : Nat) : Bytes := beBytes 48 (affine (mul d ⟨x, y, 1⟩)).1

/-- ECDSA signature (r, s) of a message with a private key and a per-message secret. -/
def sign (d k : Nat) (m : Bytes) : Nat × Nat :=
  let e := beNat (Sha.sha384 m)
  let r := (affine (mul k base)).1 % n
  (r, inv n k * (e + r * d) % n)

/-- ECDSA verification. -/
def verify (x y : Nat) (m : Bytes) (r s : Nat) : Bool :=
  let e := beNat (Sha.sha384 m)
  let w := inv n s
  let q := add (mul (e * w % n) base) (mul (r * w % n) ⟨x, y, 1⟩)
  onCurve x y && decide (0 < r) && decide (r < n) && decide (0 < s) && decide (s < n)
    && decide (q.z ≠ 0) && decide ((affine q).1 % n = r)

/-- Identity fingerprint: SHA-384 of 0x04, X and Y (R111). -/
def fingerprint (x y : Nat) : Bytes := Sha.sha384 ([4#8] ++ beBytes 48 x ++ beBytes 48 y)

end Sys2Proof.P384
end

