-- ==== Sys2Proof/Machine/Aes.lean ====
section
/-!
DEFINITION. AES (FIPS 197), AES key wrap (RFC 3394) and AES-GCM (NIST SP 800-38D), which the manual names for key wrapping, sealing, MACsec, ESP and Trellis.
The manual gives none of these algorithms; they are taken from the standards it cites (PRESUMED, log entry 6).
-/
namespace Sys2Proof.Aes

/-- The S-box, entry x in bits [8x+7:8x]. -/
def sboxBits : Nat := 0x16bb54b00f2d99416842e6bf0d89a18cdf2855cee9871e9b948ed9691198f8e19e1dc186b95735610ef6034866b53e708a8bbd4b1f74dde8c6b4a61c2e2578ba08ae7a65eaf4566ca94ed58d6d37c8e779e4959162acd3c25c2406490a3a32e0db0b5ede14b8ee4688902a22dc4f816073195d643d7ea7c41744975fec130ccdd2f3ff1021dab6bcf5389d928f40a351a89f3c507f02f94585334d43fbaaefd0cf584c4a39becb6a5bb1fc20ed00d153842fe329b3d63b52a05a6e1b1a2c830975b227ebe28012079a059618c323c7041531d871f1e5a534ccf73f362693fdb7c072a49cafa2d4adf04759fa7dc982ca76abd7fe2b670130c56f6bf27b777c63

/-- The inverse S-box, entry x in bits [8x+7:8x]. -/
def invSboxBits : Nat := 0x7d0c2155631469e126d677ba7e042b17619953833cbbebc8b0f52aae4d3be0a0ef9cc9939f7ae52d0d4ab519a97f51605fec8027591012b131c7078833a8dd1ff45acd78fec0db9a2079d2c64b3e56fc1bbe18aa0e62b76f89c5291d711af1476edf751ce837f9e28535ade72274ac9673e6b4f0cecff297eadc674f4111913a6b8a130103bdafc1020f3fca8f1e2cd00645b3b80558e4f70ad3bc8c00abd890849d8da75746155edab9edfd5048706c92b6655dcc5ca4d41698688664f6f87225d18b6d49a25b76b224d92866a12e084ec3fa420b954cee3d23c2a632947b54cbe9dec444438e3487ff2f9b8239e37cfbd7f3819ea340bf38a53630d56a0952

/-- The S-box. -/
def sbox (x : Nat) : Nat := (sboxBits >>> (8 * x)) % 256

/-- The inverse S-box. -/
def invSbox (x : Nat) : Nat := (invSboxBits >>> (8 * x)) % 256

/-- Multiplication by x in the field of AES. -/
def xt (a : Nat) : Nat := if a < 128 then 2 * a else (2 * a) ^^^ 0x11B

/-- One word of the state or schedule, four bytes as numbers. -/
abbrev W := List Nat

/-- Bytewise XOR. -/
def xorL (a b : List Nat) : List Nat := List.zipWith (· ^^^ ·) a b

/-- RotWord. -/
def rot (w : W) : W := w.drop 1 ++ w.take 1

/-- Words of the key schedule, latest first: `n` more from word `i`, with `nk` words of key. -/
def expand (nk : Nat) : Nat → Nat → Nat → List W → List W
  | 0, _, _, ws => ws
  | n + 1, i, rc, ws =>
    let prev := ws.headD []
    let back := (ws[nk - 1]?).getD []
    if i % nk = 0 then
      let t := xorL ((rot prev).map sbox) [rc, 0, 0, 0]
      expand nk n (i + 1) (xt rc) (xorL back t :: ws)
    else if nk = 8 ∧ i % 8 = 4 then
      expand nk n (i + 1) rc (xorL back (prev.map sbox) :: ws)
    else expand nk n (i + 1) rc (xorL back prev :: ws)

/-- A list cut into pieces of `k`, with at most `n` pieces. -/
def pieces (k : Nat) : Nat → List Nat → List (List Nat)
  | 0, _ => []
  | n + 1, l => if l.isEmpty then [] else l.take k :: pieces k n (l.drop k)

/-- Round keys of 16 bytes, in order. A key of 32 bytes is AES-256, any other AES-128. -/
def schedule (key : List Nat) : List (List Nat) :=
  let nk := if key.length = 32 then 8 else 4
  let rounds := nk + 7
  let ws := (expand nk (4 * rounds - nk) nk 1 (pieces 4 nk key).reverse).reverse
  pieces 16 rounds ws.flatten

/-- ShiftRows on a state held column by column. -/
def shiftRows (s : List Nat) : List Nat :=
  [0, 5, 10, 15, 4, 9, 14, 3, 8, 13, 2, 7, 12, 1, 6, 11].map (fun i => (s[i]?).getD 0)

/-- The inverse of ShiftRows. -/
def invShiftRows (s : List Nat) : List Nat :=
  [0, 13, 10, 7, 4, 1, 14, 11, 8, 5, 2, 15, 12, 9, 6, 3].map (fun i => (s[i]?).getD 0)

/-- MixColumns on one column. -/
def mix : List Nat → List Nat
  | [a, b, c, d] =>
    let t := a ^^^ b ^^^ c ^^^ d
    [a ^^^ t ^^^ xt (a ^^^ b), b ^^^ t ^^^ xt (b ^^^ c), c ^^^ t ^^^ xt (c ^^^ d), d ^^^ t ^^^ xt (d ^^^ a)]
  | l => l

/-- The inverse of MixColumns on one column. -/
def invMix : List Nat → List Nat
  | [a, b, c, d] =>
    let u := xt (xt (a ^^^ c))
    let v := xt (xt (b ^^^ d))
    mix [a ^^^ u, b ^^^ v, c ^^^ u, d ^^^ v]
  | l => l

/-- MixColumns. -/
def mixColumns (s : List Nat) : List Nat := ((pieces 4 4 s).map mix).flatten

/-- The inverse of MixColumns. -/
def invMixColumns (s : List Nat) : List Nat := ((pieces 4 4 s).map invMix).flatten

/-- The rounds after the first key addition. -/
def rounds : List (List Nat) → List Nat → List Nat
  | [], s => s
  | [k], s => xorL (shiftRows (s.map sbox)) k
  | k :: ks, s => rounds ks (xorL (mixColumns (shiftRows (s.map sbox))) k)

/-- The inverse rounds, over the round keys from the last. -/
def invRounds : List (List Nat) → List Nat → List Nat
  | [], s => s
  | [k], s => xorL ((invShiftRows s).map invSbox) k
  | k :: ks, s => invRounds ks (invMixColumns (xorL ((invShiftRows s).map invSbox) k))

/-- The cipher on one block, with a schedule. -/
def encWith (ks : List (List Nat)) (b : List Nat) : List Nat :=
  match ks with
  | [] => b
  | k :: r => rounds r (xorL b k)

/-- The inverse cipher on one block, with a schedule. -/
def decWith (ks : List (List Nat)) (b : List Nat) : List Nat :=
  match ks.reverse with
  | [] => b
  | k :: r => invRounds r (xorL b k)

/-- Bytes as numbers. -/
def nums (b : Bytes) : List Nat := b.map (·.toNat)

/-- Numbers as bytes. -/
def bytes (l : List Nat) : Bytes := l.map by8

/-! ## Key wrap (RFC 3394) -/

/-- One unwrap step: A and the registers, for the step number. -/
def unwrapStep (ks : List (List Nat)) (n : Nat) (st : List Nat × List (List Nat)) (t : Nat) : List Nat × List (List Nat) :=
  let a := xorL st.1 ((beBytes 8 t).map (·.toNat))
  let i := (t - 1) % n
  let b := decWith ks (a ++ (st.2[i]?).getD [])
  (b.take 8, updAt st.2 i (fun _ => b.drop 8))

/-- The plaintext of a wrapped key, none when the integrity check fails (RFC 3394 with the default initial value). -/
def unwrap (kek wrapped : Bytes) : Option Bytes :=
  let ks := schedule (nums kek)
  let n := wrapped.length / 8 - 1
  let bs := pieces 8 (n + 1) (nums wrapped)
  let r := ((List.range (6 * n)).reverse.map (· + 1)).foldl (unwrapStep ks n) (bs.headD [], bs.drop 1)
  if r.1 = List.replicate 8 0xA6 then some (bytes r.2.flatten) else none

/-! ## GCM (SP 800-38D) -/

/-- One step of the GHASH product: bit `i` of x counted from the most significant, the product so far, and V. -/
def ghStep (x : Nat) (zv : Nat × Nat) (i : Nat) : Nat × Nat :=
  let z := if nbit x (127 - i) then zv.1 ^^^ zv.2 else zv.1
  (z, if zv.2 % 2 = 1 then (zv.2 / 2) ^^^ 0xE1000000000000000000000000000000 else zv.2 / 2)

/-- The product in the field of GHASH. -/
def ghMul (x y : Nat) : Nat := ((List.range 128).foldl (ghStep x) (0, y)).1

/-- A string filled with zero bytes to a multiple of 16. -/
def pad16 (l : List Nat) : List Nat := l ++ List.replicate ((16 - l.length % 16) % 16) 0

/-- A number from bytes, most significant first. -/
def beL (l : List Nat) : Nat := l.foldl (fun a b => a * 256 + b) 0

/-- GHASH of a whole number of blocks. -/
def ghash (h : Nat) (l : List Nat) : Nat :=
  (pieces 16 (l.length / 16) l).foldl (fun y b => ghMul (y ^^^ beL b) h) 0

/-- The counter block of a 12-byte nonce. -/
def ctrBlock (nonce : List Nat) (c : Nat) : List Nat := nonce ++ (beBytes 4 c).map (·.toNat)

/-- Counter-mode encryption of the blocks from counter `c`. -/
def ctrBlocks (ks : List (List Nat)) (nonce : List Nat) : Nat → List (List Nat) → List Nat
  | _, [] => []
  | c, b :: bs => xorL b (encWith ks (ctrBlock nonce c)) ++ ctrBlocks ks nonce (c + 1) bs

/-- Counter-mode encryption. -/
def ctr (ks : List (List Nat)) (nonce l : List Nat) : List Nat :=
  ctrBlocks ks nonce 2 (pieces 16 (l.length / 16 + 1) l)

/-- The tag over additional data and ciphertext. -/
def tag (ks : List (List Nat)) (nonce aad ct : List Nat) : List Nat :=
  let h := beL (encWith ks (List.replicate 16 0))
  let lens := (beBytes 8 (8 * aad.length) ++ beBytes 8 (8 * ct.length)).map (·.toNat)
  let s := ghash h (pad16 aad ++ pad16 ct ++ lens)
  xorL ((beBytes 16 s).map (·.toNat)) (encWith ks (ctrBlock nonce 1))

/-- AES-GCM encryption: ciphertext followed by the 16-byte tag. -/
def gcmSeal (key nonce aad pt : Bytes) : Bytes :=
  let ks := schedule (nums key)
  let ct := ctr ks (nums nonce) (nums pt)
  bytes (ct ++ tag ks (nums nonce) (nums aad) ct)

/-- AES-GCM decryption of ciphertext and tag, none when the tag fails. -/
def gcmOpen (key nonce aad ct tg : Bytes) : Option Bytes :=
  let ks := schedule (nums key)
  if tag ks (nums nonce) (nums aad) (nums ct) = nums tg then some (bytes (ctr ks (nums nonce) (nums ct))) else none

end Sys2Proof.Aes
end

