-- ==== Sys2Proof/Machine/Reset.lean ====
section
/-!
DEFINITION. What a reset and a loss of rails leave (R37, R594, R602).
-/
namespace Sys2Proof.Machine

/-- Locks after a reset: those of masters 0 and 1 freed, and those of master 3, whose Trellis is lost (R72, R594). -/
def State.locksAfterReset (s : State) : List (Option Nat) := s.locks.map fun o => if o == some 2 then o else none

/-- Everything the core holds at its reset value; what the cellar, the pins, the mailboxes and the test access port hold stays (R594). -/
def State.rebooted (s : State) : State :=
  { mode := { s.mode with
      safeFromFactory := false, drainTimeout := 0, drainFrom := .forward, pendingTarget := none, safeDeferred := false, resetHeld := false }
    pins := { s.pins with ownOut := false, safeN := false, ppsOut := 0 }
    mbx := s.mbx, locks := s.locksAfterReset, smb := s.smb
    book := { s.book with dropped := 0, committed := 0 }
    cip := { guardOff := s.cip.guardOff }
    twin := { shakes := s.twin.shakes }
    tap := s.tap, diag := s.diag, out := s.out, free := s.free, pending := s.pending }

/-- Domains while only the cellar is powered (R37). -/
def railsOff : List PState := .run :: List.replicate 32 .off

/-- The rails go: everything in the core is lost, a command over the tunnel ends with ABORTED, and the outputs fall (R509, R594, R617). -/
def State.loseRails (s : State) (kind : Nat) : State :=
  let s := s.completeAll (fun t => t.pkt.path == .tunnel) .aborted
  let d := s.book.dropped
  let c := s.book.committed
  let s := s.rebooted
  { s with
    mode := { s.mode with resetKind := kind }
    pins := { s.pins with thermN := false, pwrReq := 0, pgIn := false, pcieUp := false }
    book := { s.book with dropped := d, committed := c }
    cip := {}, tap := {}, diag := {}
    pwr := { doms := railsOff } }

/-- TWIN runs while the twin link is enabled, and in DIAGNOSTIC and FACTORY_TEST; otherwise it is OFF (R37, R497). -/
def State.twinDomain (s : State) : State :=
  let on := s.twin.en || s.mode.mode == .diagnostic || s.mode.mode == .factoryTest
  s.pwrM fun p => { p with doms := updAt p.doms 32 fun _ => if on then .run else .off }

end Sys2Proof.Machine
end

