-- ==== Sys2Proof/Machine/Pool.lean ====
section
/-!
DEFINITION. Columns and buffer pools: segments, free lists, credit, allocation, references, quarantine, carving and rebuild (R321 to R329, R345 to R361).
-/
namespace Sys2Proof.Machine

/-! ## Segments (R345, R346) -/

/-- Buffer size of a pool, bytes. -/
def poolSize (p : Nat) : Nat := nth [256, 1024, 4096, 16384] p 16384

/-- Units charged by a pool. -/
def poolUnits (p : Nat) : Nat := nth [1, 4, 16, 64] p 64

/-- First segment of a pool in a carving of pools 0 to 2. -/
def segStart (segs : List Nat) (p : Nat) : Nat := sumL (segs.take p)

/-- Segment after the last of a pool. -/
def segEnd (segs : List Nat) (p : Nat) : Nat := if p < 3 then sumL (segs.take (p + 1)) else 704

/-- Segments of a pool. -/
def segCount (segs : List Nat) (p : Nat) : Nat := segEnd segs p - segStart segs p

/-- Pool of a segment in a carving. -/
def poolBy (segs : List Nat) (seg : Nat) : Nat :=
  if seg < segEnd segs 0 then 0 else if seg < segEnd segs 1 then 1 else if seg < segEnd segs 2 then 2 else 3

/-- Pool of a segment now, a carve in progress counted. -/
def Column.segPool (c : Column) (seg : Nat) : Nat :=
  match c.carve with
  | some new => if c.carveDone.contains seg then poolBy new seg else poolBy c.segs seg
  | none => poolBy c.segs seg

/-- The segment is due to move and has not moved. -/
def Column.segDue (c : Column) (seg : Nat) : Bool :=
  match c.carve with
  | some new => poolBy new seg != poolBy c.segs seg && !c.carveDone.contains seg
  | none => false

/-- Segments of a pool now. -/
def Column.segsOf (c : Column) (p : Nat) : Nat :=
  match c.carve with
  | none => segCount c.segs p
  | some _ => ((List.range 704).filter fun g => c.segPool g == p).length

/-- First unit of a source's guard buffer (R346). -/
def guardUnit (src : Nat) : Nat := 64 * (693 + src)

/-- Is a unit the first of a guard buffer? -/
def isGuard (unit : Nat) : Bool := decide (64 * 693 ≤ unit)

/-- Free lists of a fresh carving: nothing pushed, every buffer of the pool in rising order (R347, R354). -/
def freshFree (segs : List Nat) : List FreeList :=
  (List.range 4).map fun p =>
    { stack := [], lo := 64 * segStart segs p, hi := 64 * (if p = 3 then 693 else segEnd segs p) }

/-- A column as it stands at entry to CONFIG (R347). -/
def Column.config : Column := { free := freshFree [64, 128, 192] }

/-- The eleven columns at CONFIG entry: column 9 has hold_units 4,096 (R329). -/
def coreColumns : List Column := List.replicate 9 Column.config ++ [{ Column.config with holdUnits := 4096 }, Column.config]

/-- Buffers on a free list. -/
def FreeList.count (f : FreeList) (p : Nat) : Nat := f.stack.length + (f.hi - f.lo) / poolUnits p

/-- Units of the never-used part of a list that a carve has moved to another pool (R363). -/
def Column.movedFresh (c : Column) (f : FreeList) (p : Nat) : Nat :=
  sumL ((c.carveDone.filter fun g => c.segPool g != p).map fun g => min f.hi (64 * g + 64) - max f.lo (64 * g))

/-- Free buffers on the list of a pool. -/
def Column.freeCount (c : Column) (p : Nat) : Nat :=
  let f := nth c.free p {}
  f.count p - c.movedFresh f p / poolUnits p

/-- Lowest free count of the present pools. -/
def Column.minFree (c : Column) : Nat :=
  (List.range 4).foldl (fun m p => if 0 < c.segsOf p then min m (c.freeCount p) else m) 65535

/-- The lowest free count takes in the present one (R366). -/
def Column.low (c : Column) : Column := { c with lowFree := min c.lowFree c.minFree }

/-- A free buffer stands on its pool's list: a quarantined one stays there until a pop meets it (R354). -/
def Column.onList (c : Column) (unit p : Nat) : Bool :=
  let f := nth c.free p {}
  f.stack.contains unit || (decide (f.lo ≤ unit) && decide (unit < f.hi))

/-! ## Use and credit (R325, R326, R328) -/

/-- Units of a buffer that count as its crosspoint's occupancy. -/
def Buf.charge (b : Buf) : Nat := if b.refs = 0 then 0 else poolUnits b.pool

/-- Quarantined units of a column (R357). -/
def Column.quarUnits (c : Column) : Nat :=
  sumL (c.bufs.vals.map fun b => if b.quarantined && b.refs == 0 then poolUnits b.pool else 0)

/-- Units a source holds in a column. -/
def Column.occ (c : Column) (src : Nat) : Nat :=
  sumL (c.bufs.vals.map fun b => if b.owner = src then b.charge else 0)

/-- Units in use in a column. -/
def Column.inUse (c : Column) : Nat := sumL (c.bufs.vals.map Buf.charge)

/-- Buffers a source holds in a column of a pool. -/
def Column.holds (c : Column) (src p : Nat) : Nat :=
  (c.bufs.vals.filter fun b => b.owner == src && b.pool == p && b.refs != 0).length

/-- The column. -/
def State.col (s : State) (c : Nat) : Column := nth s.core.cols c {}

/-- Change a column. -/
def State.colM (s : State) (c : Nat) (f : Column → Column) : State :=
  s.coreM fun k => { k with cols := updAt k.cols c f }

/-- Crosspoint number (R322). -/
def xpKey (src c : Nat) : Nat := 16 * src + c

/-- The crosspoint. -/
def State.xp (s : State) (src c : Nat) : Xp := Tbl.lookD s.core.xps (xpKey src c) {}

/-- Change a crosspoint. -/
def State.xpM (s : State) (src c : Nat) (f : Xp → Xp) : State :=
  s.coreM fun k => { k with xps := Tbl.upd k.xps (xpKey src c) {} f }

/-- Units of held fragments of a source, which stand in the shared region of column 9 (R339). -/
def State.heldUnits (s : State) (src c : Nat) : Nat :=
  if c = 9 then
    sumL (s.frag.held.map fun h =>
      if (Tbl.lookD (s.col 9).bufs h.handle { owner := 15, pool := 0, refs := 0 }).owner = src then h.units else 0)
  else 0

/-- Reserved use of a crosspoint (R325). -/
def State.rUsed (s : State) (src c : Nat) : Nat :=
  min ((s.col c).occ src - s.heldUnits src c) (s.xp src c).rmin

/-- Shared use of a crosspoint. -/
def State.sUsed (s : State) (src c : Nat) : Nat := (s.col c).occ src - s.rUsed src c

/-- Sum of the reserved minima of a column. -/
def State.rminSum (s : State) (c : Nat) : Nat := sumL ((List.range 11).map fun x => (s.xp x c).rmin)

/-- Shared region of a column (R325). -/
def State.region (s : State) (c : Nat) : Nat := 45056 - s.rminSum c

/-- All shared use of a column, quarantined units among it (R357). -/
def State.sharedUse (s : State) (c : Nat) : Nat :=
  sumL ((List.range 11).map fun x => s.sUsed x c) + (s.col c).quarUnits

/-- s_free of R326. -/
def State.sFree (s : State) (c : Nat) : Nat := s.region c - s.sharedUse c

/-- Give back what frees have covered of pending(x), in the order of the sources (R328). -/
def State.fixPending (s : State) (c : Nat) : State :=
  let due := s.sharedUse c - s.region c
  ((List.range 11).foldl (fun (a : State × Nat) x =>
    let p := (a.1.xp x c).pending
    let keep := min p a.2
    (if p = keep then a.1 else a.1.xpM x c fun k => { k with pending := keep }, a.2 - keep)) (s, due)).1

/-- The credit test of R326, and of R360 in compatibility mode, for a buffer of a pool; `shared` for a fragment that may take no reserve (R339). -/
def State.credit (s : State) (src c p : Nat) (shared : Bool) : Bool :=
  if s.core.compat then
    decide ((s.col c).holds src p < Tbl.lookD (s.col c).quota (4 * src + p) 0)
  else
    let need := poolUnits p
    let x := s.xp src c
    let rp := if shared then 0 else min need (x.rmin - s.rUsed src c - x.pending)
    let sp := need - rp
    let use := s.sUsed src c + sp
    let free := s.sFree c
    sp == 0 ||
      (decide (sp ≤ free) && decide (use ≤ x.slimit)
        && ((s.col c).alpha == 7 || decide (8 * use ≤ 2 ^ (s.col c).alpha * free)))

/-! ## Free lists (R352 to R358) -/

/-- POOL_QUARANTINE_HIGH, as a column's quarantined units pass 4,096 from `was` (R357). -/
def State.quarHigh (s : State) (c was : Nat) : State :=
  let now := (s.col c).quarUnits
  if was ≤ 4096 ∧ 4096 < now then s.fault (0x90 + c) 0x50 2 now 0 else s

/-- Quarantine a buffer of a column (R357). -/
def State.quarantine (s : State) (c unit : Nat) : State :=
  let was := (s.col c).quarUnits
  let s := s.colM c fun k => { k with
    bufs := Tbl.upd k.bufs unit { owner := 15, pool := k.segPool (unit / 64), refs := 0, guardBuf := isGuard unit }
      fun b => { b with quarantined := true } }
  s.quarHigh c was

/-- Take buffers off the pushed part of a list until one is good: quarantined ones are removed, bad headers noted for quarantine, and those of a segment due to move are set aside (R354, R356, R363). -/
def Column.popStack (k : Column) : List Nat → List Nat → Option Nat × List Nat × List Nat
  | [], bad => (none, [], bad)
  | u :: r, bad =>
    match Tbl.look k.bufs u with
    | some b => if b.parityBad then Column.popStack k r (u :: bad) else Column.popStack k r bad
    | none => if k.segDue (u / 64) then Column.popStack k r bad else (some u, r, bad)

/-- Take a buffer off the never-used part of a list, `n` tries; buffers of a segment due to move are set aside, those of one that has moved are no longer there. -/
def Column.popFresh (k : Column) (p hi : Nat) : Nat → Nat → Option Nat × Nat
  | 0, lo => (none, lo)
  | n + 1, lo =>
    if hi ≤ lo then (none, lo)
    else if k.segDue (lo / 64) || k.segPool (lo / 64) != p then Column.popFresh k p hi n (64 * (lo / 64) + 64)
    else if Tbl.has k.bufs lo then Column.popFresh k p hi n (lo + poolUnits p)
    else (some lo, lo + poolUnits p)

/-- A bad header met at a pop: counted and reported, its buffer quarantined (R356). -/
def State.badHeader (s : State) (c unit : Nat) : State :=
  ((s.colM c fun k => { k with counts := updAt k.counts 6 sat32 }).fault (0x70 + c) c 3 (16 * unit + c) 0).quarantine c unit

/-- A pool's list is broken: it ends at the last good buffer, given by its handle, and is rebuilt; a second one in the column within a second is POOL_LIST_REPEAT (R356, R358). -/
def State.listBroken (s : State) (c handle : Nat) : State :=
  let unit := handle / 16 % 65536
  let p := (s.col c).segPool (unit / 64)
  let now := s.time.record.t
  let again := match (s.col c).lastBroken with
    | some t => decide (now ≤ t + 1000000000 * 65536)
    | none => false
  let ended (f : FreeList) : FreeList :=
    let head := f.stack.takeWhile (· != unit)
    if head.length = f.stack.length then
      (if f.lo ≤ unit ∧ unit < f.hi then { f with hi := unit + poolUnits p } else { stack := [], lo := f.hi, hi := f.hi })
    else { stack := head ++ [unit], lo := f.hi, hi := f.hi }
  let s := s.colM c fun k => Column.low { k with
    rebuilding := p :: k.rebuilding.filter (· != p), lastBroken := some now, free := updAt k.free p ended }
  if again then s.fault (0xA0 + c) 0x50 1 handle 0 else s

/-- What a pop finds in the link of the buffer it takes: nothing, an error of one bit corrected, or a broken link, at which the list ends (R356). -/
def State.popLink (s : State) (c unit p : Nat) : State :=
  match Tbl.look (s.col c).badLinks unit with
  | none => s
  | some n =>
    let s := s.colM c fun k => { k with badLinks := Tbl.del k.badLinks unit }
    if n = 1 then s.fault 0x20 0x50 1 (256 * (45056 * c + unit)) 0
    else
      let s := s.colM c fun k => { k with free := updAt k.free p fun f => { f with stack := [], lo := f.hi } }
      (s.fault (0x80 + c) 0x50 1 (16 * unit + c) 0).listBroken c (16 * unit + c)

/-- Pop a buffer of a pool (R354). -/
def State.popBuf (s : State) (c p : Nat) : Option Nat × State :=
  let k := s.col c
  if k.rebuilding.contains p then (none, s)
  else
    let f := nth k.free p {}
    let (u, rest, bad) := k.popStack f.stack []
    let (u, lo) := match u with
      | some u => (some u, f.lo)
      | none => k.popFresh p f.hi (704 + k.bufs.length) f.lo
    let s := s.colM c fun k => { k with free := updAt k.free p fun f => { f with stack := rest, lo := lo } }
    let s := bad.foldl (fun s b => s.badHeader c b) s
    match u with
    | some u => (some u, s.popLink c u p)
    | none => (none, s)

/-- Push a buffer at the head of its pool's list (R353). A guard buffer returns to its source instead (R351). -/
def Column.push (k : Column) (unit p : Nat) : Column :=
  if isGuard unit || k.rebuilding.contains p then k
  else { k with free := updAt k.free p fun f => { f with stack := unit :: f.stack } }

/-! ## Carving (R363) -/

/-- Every buffer of a segment is free and none is quarantined. -/
def Column.segFree (k : Column) (seg : Nat) : Bool :=
  !(k.bufs.any fun e => e.1 / 64 == seg)

/-- Move one segment to its new pool: its buffers leave the old pool's list, where they still stand there, and join the head of the new one's. -/
def Column.moveSeg (k : Column) (new : List Nat) (seg : Nat) : Column :=
  let p := poolBy new seg
  let us := (List.range (64 / poolUnits p)).map fun i => 64 * seg + poolUnits p * i
  let free := k.free.map fun f => { f with stack := f.stack.filter fun u => u / 64 != seg }
  { k with
    carveDone := seg :: k.carveDone
    badLinks := k.badLinks.filter fun e => e.1 / 64 != seg
    free := updAt free p fun f => { f with stack := us ++ f.stack } }

/-- The end of a carve: no list reaches beyond the segments of its pool. -/
def Column.carveEnd (k : Column) (new : List Nat) : Column :=
  { k with
    segs := new, carve := none, carveDone := []
    free := (List.range 4).map fun p =>
      let f := nth k.free p {}
      let hi := min f.hi (64 * segEnd new p)
      { f with lo := min hi (max f.lo (64 * segStart new p)), hi := hi } }

/-- Move every due segment that is free; when none is left the carve is done. -/
def Column.carveStep (k : Column) : Column :=
  match k.carve with
  | none => k
  | some new =>
    let k := Column.low (((List.range 693).filter fun g => k.segDue g && k.segFree g).foldl (fun k g => k.moveSeg new g) k)
    if (List.range 693).any k.segDue then k else k.carveEnd new

/-- Start a carve: from here on no buffer of a segment due to move is handed out. -/
def Column.carveStart (k : Column) (new : List Nat) : Column :=
  { k with
    carve := some new
    carveMoves := ((List.range 693).filter fun g => poolBy new g != poolBy k.segs g).length
    carveDone := [] }

/-- Let a carve in progress on a column go on, and end its command when it is done. -/
def State.carveGo (s : State) (c : Nat) : State :=
  match (s.col c).carve with
  | none => s
  | some _ =>
    let s := s.colM c Column.carveStep
    if (s.col c).carve.isNone then
      s.completePended (fun t => t.opcode == 0x0810 && t.pkt.obj == c) .ok (s.col c).carveMoves []
    else s

/-- Every carve in progress takes its next steps. -/
def State.carveAll (s : State) : State :=
  if s.core.cols.any fun k => k.carve.isSome then (List.range 11).foldl State.carveGo s else s

/-- Rebuild a pool's list from its headers: every buffer free, not quarantined, with good parity (R358). -/
def Column.rebuild (k : Column) (p : Nat) : Column :=
  let segs := (List.range 693).filter fun g => k.segPool g == p && !k.segDue g
  let us := segs.flatMap fun g => (List.range (64 / poolUnits p)).map fun i => 64 * g + poolUnits p * i
  { k with
    rebuilding := k.rebuilding.filter (· != p)
    badLinks := k.badLinks.filter fun e => k.segPool (e.1 / 64) != p
    free := updAt k.free p fun _ => { stack := us.filter fun u => !Tbl.has k.bufs u, lo := 0, hi := 0 } }

/-! ## Drops (R353, R355 to R357) -/

/-- The link a push writes takes the bits FAULT_INJECT planted for the columns' memory (R579). -/
def State.pushLink (s : State) (c unit : Nat) : State :=
  let (n, s) := s.takePlanted [0x20, 0x30]
  s.colM c fun k => { k with badLinks := if n = 0 then Tbl.del k.badLinks unit else Tbl.put k.badLinks unit n }

/-- A buffer whose last reference has gone: back on its list, or quarantined units. -/
def State.freeBuf (s : State) (c unit : Nat) (b : Buf) : State :=
  if b.quarantined then
    let was := (s.col c).quarUnits
    let s := s.colM c fun k => { k with bufs := Tbl.put k.bufs unit { b with refs := 0, owner := 15, bytes := [] } }
    (s.quarHigh c was).fixPending c
  else
    (((s.colM c fun k => Column.push { k with bufs := Tbl.del k.bufs unit } unit b.pool).pushLink c unit).carveGo c).fixPending c

/-- Drop one reference, with what the reader presents and the core port it reads for (R355, R356). -/
def State.dropRef (s : State) (c unit owner pool reader : Nat) : State :=
  let handle := 16 * unit + c
  let k := s.col c
  match Tbl.look k.bufs unit with
  | none =>
    if unit < 45056 ∧ unit % poolUnits (k.segPool (unit / 64)) = 0 then
      ((s.colM c fun k => { k with counts := updAt k.counts 4 sat32 }).fault (0x50 + c) reader 3 handle 0).quarantine c unit
    else (s.colM c fun k => { k with counts := updAt k.counts 5 sat32 }).fault (0x60 + c) reader 3 handle 0
  | some b =>
    if b.parityBad then
      ((s.colM c fun k => { k with counts := updAt k.counts 6 sat32 }).fault (0x70 + c) reader 3 handle 0).quarantine c unit
    else if b.refs = 0 then
      ((s.colM c fun k => { k with counts := updAt k.counts 4 sat32 }).fault (0x50 + c) reader 3 handle 0).quarantine c unit
    else if b.owner ≠ owner ∨ b.pool ≠ pool then
      ((s.colM c fun k => { k with counts := updAt k.counts 5 sat32 }).fault (0x60 + c) reader 3 handle 0).quarantine c unit
    else if b.refs = 1 then s.freeBuf c unit b
    else s.colM c fun k => { k with bufs := Tbl.put k.bufs unit { b with refs := b.refs - 1 } }

/-! ## Allocation (R348, R349) -/

/-- Present pools that a length fits, smallest first (R348). -/
def Column.fitting (k : Column) (len : Nat) : List Nat :=
  (List.range 4).filter fun p => decide (0 < k.segsOf p) && decide (len ≤ poolSize p)

/-- Sources that ask a pool for a buffer in one clock: those whose fitting pool it is, and those whom empty smaller pools let fall back to it (R350). `asks` are the sources with a write ready for the column, each with its length. -/
def Column.askers (k : Column) (asks : List (Nat × Nat)) (p : Nat) : List Nat :=
  (asks.filter fun a =>
    let fit := k.fitting a.2
    fit.head? == some p || (k.fallback && fit.contains p && fit.all fun q => decide (p ≤ q) || k.freeCount q == 0)).map (·.1)

/-- What a pool's arbiter makes of a source's request: whether it is served, and the pointer after it. A contested pool serves, in the order of its pointer, as many as it has buffers; the pointer moves with the last of them. -/
def Column.arbiter (k : Column) (src p : Nat) (asks : List (Nat × Nat)) : Bool × Nat :=
  let who := src :: k.askers asks p
  let n := k.freeCount p
  let at_ := nth k.arb p 0
  if who.length ≤ n then (true, at_)
  else
    let wins := (((List.range 11).map fun i => (at_ + i) % 11).filter who.contains).take n
    (wins.contains src, if wins.getLast? = some src then (src + 1) % 11 else at_)

/-- Try pools in order: the first that serves the source, with how many did not; the number of arbiters lost is the last component. -/
def State.popAny (s : State) (src c : Nat) (asks : List (Nat × Nat)) : List Nat → Nat → Nat → Option (Nat × Nat × Nat) × Nat × State
  | [], _, lost => (none, lost, s)
  | p :: ps, tried, lost =>
    let (won, ptr) := (s.col c).arbiter src p asks
    if won then
      match (s.colM c fun k => { k with arb := updAt k.arb p fun _ => ptr }).popBuf c p with
      | (some u, s) => (some (u, p, tried), lost, s)
      | (none, s) => State.popAny s src c asks ps (tried + 1) lost
    else State.popAny s src c asks ps (tried + 1) (if (s.col c).freeCount p = 0 then lost else lost + 1)

/-- Put a popped buffer back at the head of its list. -/
def State.unpop (s : State) (c unit p : Nat) : State :=
  s.colM c fun k => { k with free := updAt k.free p fun f => { f with stack := unit :: f.stack } }

/-- Note a new buffer in the peaks and counts of its column and crosspoint. -/
def State.noteWrite (s : State) (src c len : Nat) : State :=
  let s := s.colM c fun k => { k with
    peak := max k.peak k.inUse
    lowFree := min k.lowFree k.minFree
    writeClocks := satAdd 32 k.writeClocks (ceilDiv len 250)
    busy := max k.busy s.time.core + ceilDiv len 250 }
  let s := s.perf (32 + c) 0x10 1
  let occ := (s.col c).occ src
  s.xpM src c fun x => { x with peak := max x.peak occ, written := sat32 x.written }

/-- Store a string in a buffer with a number of references. -/
def State.storeBuf (s : State) (src c unit p refs : Nat) (bytes : Bytes) : State :=
  let bad := s.flt.planted.contains (0x70 + c)
  let s := if bad then s.fltM fun f => { f with planted := f.planted.erase (0x70 + c) } else s
  s.colM c fun k => { k with
    bufs := Tbl.put k.bufs unit { owner := src, pool := p, refs := refs, guardBuf := isGuard unit, parityBad := bad, bytes := bytes } }

/-- Choose a buffer for a write of a length and apply the credit test: the unit and pool, or none when the write waits (R349 to R351). A loser of the one pool tried is counted, and goes on to the guard buffer. -/
def State.allocBuf (s : State) (src c len : Nat) (shared : Bool) (asks : List (Nat × Nat)) : Option (Nat × Nat) × State :=
  let k := s.col c
  let fit := k.fitting len
  let order := if k.fallback then fit else fit.take 1
  match s.popAny src c asks order 0 0 with
  | (some (u, p, tried), _, s1) =>
    if s.credit src c p shared then
      (some (u, p), if tried = 0 then s1 else s1.colM c fun k => { k with counts := updAt k.counts 0 sat32 })
    else (none, s1.unpop c u p)
  | (none, lost, s1) =>
    let loser := lost != 0 && !k.fallback
    let s1 := if loser then s1.colM c fun k => { k with counts := updAt k.counts 1 sat32 } else s1
    let g := guardUnit src
    if (k.occ src == 0) && !Tbl.has k.bufs g && !shared then
      if s.credit src c 3 false then (some (g, 3), s1.colM c fun k => { k with counts := updAt k.counts 3 sat32 })
      else (none, s1)
    else (none, if loser then s1 else s1.colM c fun k => { k with counts := updAt k.counts 2 sat32 })

/-- A write waits: the crosspoint counts it (R344 word 7). -/
def State.noteWait (s : State) (src c : Nat) : State := (s.perf (32 + c) 0x11 1).xpM src c fun x => { x with waits := sat32 x.waits }

/-- Allocate and store; none when the write waits. A write that `granted` keeps from its column waits as it would for credit, and takes its buffer anew (R324). -/
def State.writeBuf (s : State) (src c refs : Nat) (bytes : Bytes) (len : Nat) (asks : List (Nat × Nat)) (granted : Bool) :
    Option (Nat × Nat) × State :=
  match s.allocBuf src c len false asks with
  | (some (u, p), t) =>
    if granted then (some (u, p), (t.storeBuf src c u p refs bytes).noteWrite src c len)
    else (none, (s.colM c fun k => { k with grantWaits := sat32 k.grantWaits }).noteWait src c)
  | (none, t) => (none, t.noteWait src c)

end Sys2Proof.Machine
end

