-- ==== Sys2Proof/Machine/Port.lean ====
section
/-!
DEFINITION. A MAC port and its counts, which ports the mode and the ownership let send, and the frame a MAC has in transmission (R20, R35, R264, R305, R433, R462).
-/
namespace Sys2Proof.Machine

/-! ## MAC ports -/

/-- A MAC port. -/
def State.mport (s : State) (p : Nat) : MacPort := Tbl.lookD s.mac.ports p {}

/-- Change a MAC port. -/
def State.mportM (s : State) (p : Nat) (f : MacPort → MacPort) : State :=
  s.macM fun k => { k with ports := Tbl.upd k.ports p {} f }

/-- Count one event of a port (R454): corrected, uncorrectable, received, transmitted, FCS errors, runts, too long, MAC control acted on, ignored, trips, TX_LINK_LOST, link downs, RX_PORT_DOWN. -/
def State.portCount (s : State) (p i n : Nat) : State :=
  s.mportM p fun m => { m with counts := updAt m.counts i fun x => satAdd 32 x n }

/-! ## SAs in use by frames -/

/-- An installed SA. -/
def State.sa (s : State) (i : Nat) : Option SaRes := Tbl.look s.cip.sas i

/-- Change an installed SA. -/
def State.saM (s : State) (i : Nat) (f : SaRes → SaRes) : State :=
  match s.sa i with
  | some r => s.cipM fun k => { k with sas := Tbl.put k.sas i (f r) }
  | none => s

/-- One more frame uses an SA (R305). -/
def State.saHold (s : State) (i : Nat) : State := s.saM i fun r => { r with refs := r.refs + 1 }

/-- One frame less uses an SA. -/
def State.saRelease (s : State) (i : Nat) : State := s.saM i fun r => { r with refs := r.refs - 1 }

/-! ## Which ports may send -/

/-- The engine owns the cipher side: its claim window and any leap sweep are over, and OWN_IN is deasserted (R462, R463, R471). -/
def State.owns (s : State) : Bool := s.run.owner && s.pins.ownOut && !s.pins.ownIn && !s.run.leaping

/-- A cipher-side port may send: the engine owns the cipher side, or FACTORY_TEST opens it (R20, R462). -/
def State.sideOpen (s : State) (p : Nat) : Bool :=
  !(s.mport p).cipher || s.owns || (s.mode.mode == .factoryTest && nbit s.cip.guardOff (p / 8))

/-- The mode lets frames out at all (R20). -/
def Mode.sends (m : Mode) : Bool := m.forwards || m == .diagnostic || m == .factoryTest

/-- The mode and the ownership let a port's MAC start a frame. -/
def State.lineOpen (s : State) (p : Nat) : Bool := s.mode.mode.sends && s.sideOpen p

/-! ## The frame in transmission -/

/-- The last use of an SA by a frame at the MAC ends. -/
def State.txRelease (s : State) (t : Tx) : State :=
  match t.sa with
  | some i => s.saRelease i
  | none => s

/-- The bytes of a frame as the MAC sends it: padded to 60, with its FCS (R264, R433). -/
def wireBytes (b : Bytes) : Bytes :=
  let f := if b.length < 60 then bytesAt b 0 60 else b
  f ++ fcsBytes f

/-- The cipher guard discards this frame before its first byte. -/
def State.guardStops (s : State) (p : Nat) (t : Tx) : Bool :=
  (s.mport p).cipher && !t.mark && !t.bypass && !(s.mode.mode == .factoryTest && nbit s.cip.guardOff (p / 8))

/-- The frame in transmission is cut off: it ends with an errored termination. A frame the guard stops is never in transmission. -/
def State.cutFrame (s : State) (p : Nat) : Nat × State :=
  match (s.mport p).tx with
  | [] => (0, s)
  | t :: r => if s.guardStops p t then (0, s) else (1, ((s.mportM p fun m => { m with tx := r }).emit (.frame p (wireBytes t.bytes) true)).txRelease t)

end Sys2Proof.Machine
end

