-- ==== Sys2Proof/Machine/Queue.lean ====
section
/-!
DEFINITION. Writes into columns, flow queues, residue, and the egress states of scheduler ports (R330 to R336, R371).
-/
namespace Sys2Proof.Machine

/-- Column of a scheduler port (R323). -/
def portCol (p : Nat) : Nat := if p < 64 then p / 8 else p - 56

/-- Egress side of a scheduler port. -/
def State.cport (s : State) (p : Nat) : CorePort := Tbl.lookD s.core.ports p {}

/-- Change the egress side of a scheduler port. -/
def State.cportM (s : State) (p : Nat) (f : CorePort → CorePort) : State :=
  s.coreM fun k => { k with ports := Tbl.upd k.ports p {} f }

/-- Egress state of a scheduler port; port 65 is always ENABLED (R333). -/
def State.egress (s : State) (p : Nat) : Egress := if p = 65 then .enabled else (s.cport p).egress

/-- Flow queue. -/
def State.fq (s : State) (q : Nat) : FQueue := Tbl.lookD s.sched.queues q {}

/-- Change a flow queue. -/
def State.fqM (s : State) (q : Nat) (f : FQueue → FQueue) : State :=
  s.schedM fun k => { k with queues := Tbl.upd k.queues q {} f }

/-- Scheduler group. -/
def State.sgrp (s : State) (g : Nat) : SGroup := Tbl.lookD s.sched.groups g {}

/-- Change a scheduler group. -/
def State.sgrpM (s : State) (g : Nat) (f : SGroup → SGroup) : State :=
  s.schedM fun k => { k with groups := Tbl.upd k.groups g {} f }

/-- A port node as at CONFIG: charge_adjust 20 for MAC ports (R386). -/
def nodeInit (p : Nat) : PortNode := { adjust := if p < 64 then 20 else 0 }

/-- Port node. -/
def State.node (s : State) (p : Nat) : PortNode := Tbl.lookD s.sched.nodes p (nodeInit p)

/-- Change a port node. -/
def State.nodeM (s : State) (p : Nat) (f : PortNode → PortNode) : State :=
  s.schedM fun k => { k with nodes := Tbl.upd k.nodes p (nodeInit p) f }

/-- The port node an enabled queue feeds. -/
def State.queuePort (s : State) (q : Nat) : Option Nat :=
  let f := s.fq q
  if f.en then
    let g := s.sgrp f.group
    if g.en then some g.port else none
  else none

/-- Stored length of a copy with its FCS; a truncated one has its truncated length (R348, R370). -/
def Copy.len (c : Copy) : Nat :=
  let n := c.bytes.length + 4
  if c.truncate = 0 then n else min n c.truncate

/-- The bytes a copy of its own is written with: at most `truncate` of them (R270, R348). -/
def Copy.kept (c : Copy) (b : Bytes) : Bytes := if c.truncate = 0 then b else b.take c.truncate

/-- The bytes a copy is sent with: a truncated one ends so that its length with FCS is `truncate` (R270). -/
def Copy.cut (c : Copy) (b : Bytes) : Bytes := if c.truncate = 0 then b else b.take (c.truncate - 4)

/-- A discard toward a port in FLUSH (R334). -/
def State.downDiscard (s : State) (p n : Nat) : State :=
  s.cportM p fun k => { k with downDiscards := satAdd 64 k.downDiscards n, sinceFlush := k.sinceFlush + n }

/-- A queue entry is there for one copy of a write; `fresh` says that the crosspoint held nothing as the write began, so that it may take its reserve of five (R371). -/
def State.qentOk (s : State) (c : Nat) (fresh : Bool) : Bool :=
  decide ((s.col c).qents < 49152 - 55) || (fresh && decide ((s.col c).qents < 49152))

/-- A copy's queue stands enabled under its port. -/
def State.queuedRight (s : State) (c : Copy) : Bool := c.port == 65 || s.queuePort c.queue == some c.port

/-- A copy found without its queue: counted and reported, the copy is gone (R371). -/
def State.misqueue (s : State) (c : Copy) : State :=
  (s.schedM fun k => { k with misqueued := sat32 k.misqueued }).fault 0xB0 0x51 2 c.queue 0

/-- A copy as its queue holds it: the bytes stand in the buffer. -/
def Copy.stored (c : Copy) : Copy := { c with bytes := [], pkt := { c.pkt with bytes := [] } }

/-- Ask for the fetch of the SA behind a binding, when it is installed and lives only in its record (R310). -/
def State.askFetch (s : State) (b : Nat) : State :=
  match Tbl.look s.cip.bindings b with
  | none => s
  | some e =>
    match Tbl.look s.cip.sas e.sa with
    | none => s
    | some r =>
      if e.valid && r.ctx.isNone && !r.lost then s.cipM fun k => { k with sas := Tbl.put k.sas e.sa { r with fetching := true } } else s

/-- Put a written copy at the tail of its queue; a queue that first holds a packet asks for the fetch of its SA, and the port group the copy is for wakes (R506). -/
def State.enqueue (s : State) (src : Nat) (c : Copy) (unit pool : Nat) : State :=
  let col := portCol c.port
  let s := if c.port < 64 then s.wakeDom (2 + c.port / 8) else s
  let e : QEnt := { copy := c.stored, col := col, unit := unit, owner := src, pool := pool, len := c.len, trunc := c.truncate != 0 && decide (c.truncate < c.bytes.length + 4), at_ := s.time.record.t }
  let s := s.colM col fun k => { k with qents := k.qents + 1 }
  if c.port = 65 then
    s.schedM fun k => if src = 9 then { k with recirc1 := k.recirc1 ++ [e] } else { k with recirc0 := k.recirc0 ++ [e] }
  else
    let s := if (s.fq c.queue).q.isEmpty && c.intent != 0 then s.askFetch c.binding else s
    s.fqM c.queue fun f => { f with q := f.q ++ [e] }

/-- The bytes of a queued copy, from its buffer. -/
def State.entBytes (s : State) (e : QEnt) : Bytes := (Tbl.lookD (s.col e.col).bufs e.unit { owner := 15, pool := 0, refs := 0 }).bytes

/-- Read a queued copy and drop its reference (R323, R371). -/
def State.readOut (s : State) (e : QEnt) : State :=
  (s.colM e.col fun k => { k with qents := k.qents - 1 }).dropRef e.col e.unit e.owner e.pool e.col

/-- Add a reference to a buffer. -/
def State.addRef (s : State) (c unit : Nat) : State :=
  s.colM c fun k => { k with bufs := match Tbl.look k.bufs unit with
    | some b => Tbl.put k.bufs unit { b with refs := b.refs + 1 }
    | none => k.bufs }

/-- Outcome of one write of a copy. -/
inductive Wrote
  /-- It waits. -/
  | waits
  /-- It is gone: discarded toward a port in FLUSH, or misqueued. -/
  | gone
  /-- It stands in this buffer: column, unit, pool. -/
  | at_ (col unit pool : Nat)
deriving DecidableEq, Repr

/-- Residue waiting at a crosspoint. -/
def State.residueAt (s : State) (src c : Nat) : List Residue := (s.xp src c).residue

/-- The copies of the reorder head of a source: of its first entry that is no hole, when it is complete. -/
def State.headSet (s : State) (src : Nat) : List Copy :=
  let hole : REntry → Bool
    | .hole _ => true
    | _ => false
  match (nth s.ing.sources src {}).window.dropWhile hole with
  | .ready _ cs :: _ => cs
  | _ => []

/-- The length of the write a source has ready for a column, if any: its residue head, or the primary copy at its reorder head. -/
def State.request (s : State) (src c : Nat) : Option Nat :=
  match s.residueAt src c with
  | r :: _ => some r.copy.len
  | [] => ((s.headSet src).find? fun k =>
      k.session.isNone && portCol k.port == c && s.egress k.port != .flush && s.queuedRight k).map Copy.len

/-- The other sources with a write ready for a column, each with its length. -/
def State.asks (s : State) (src c : Nat) : List (Nat × Nat) :=
  ((List.range 11).filter (· != src)).filterMap fun y => (s.request y c).map fun n => (y, n)

/-- A source holds a buffer and credit for the write it has ready for a column. -/
def State.ready (s : State) (src c : Nat) : Bool :=
  match s.request src c with
  | some n => (s.allocBuf src c n false (s.asks src c)).1.isSome
  | none => false

/-- The column grants a source: no write is in progress there, and the source comes first, from the grant pointer on, of those that are ready (R324). -/
def State.granted (s : State) (src c : Nat) : Bool :=
  let k := s.col c
  decide (k.busy ≤ s.time.core) && (((List.range 11).map fun i => (k.grant + i) % 11).find? fun y => y == src || s.ready y c) == some src

/-- Write one copy into a buffer of its own: `whole` keeps a truncated copy's bytes that later copies of its set share, `mirror` marks a copy written at its set's release, which needs no column grant (R324, R330, R331, R349, R371). DEDUCED: R331 lets a mirror copy follow with the credit test alone, so it is written behind whatever its column is writing. -/
def State.writeCopy (s : State) (src : Nat) (c : Copy) (whole mirror : Bool) : Wrote × State :=
  let col := portCol c.port
  if s.egress c.port = .flush then
    (.gone, (s.downDiscard c.port 1).colM col fun k => { k with flushDrops := sat32 k.flushDrops })
  else if !s.queuedRight c then (.gone, s.misqueue c)
  else if !s.qentOk col ((s.col col).occ src == 0) then
    (.waits, (s.schedM fun k => { k with qWaits := sat32 k.qWaits }).noteWait src col)
  else
    let b := if whole then c.bytes else c.kept c.bytes
    let n := if whole then c.bytes.length + 4 else c.len
    match s.writeBuf src col 1 b n (s.asks src col) (mirror || s.granted src col) with
    | (some (u, p), s) =>
      let s := if mirror then s else s.colM col fun k => { k with grant := (src + 1) % 11 }
      (.at_ col u p, s.enqueue src c u p)
    | (none, s) => (.waits, s)

/-- A buffer of a copy set already written: where it is, its bytes, and whether its crosspoint held nothing before it. -/
structure SetBuf where
  /-- Column. -/
  col : Nat
  /-- First unit. -/
  unit : Nat
  /-- Pool. -/
  pool : Nat
  /-- Bytes of the copy it was written for. -/
  bytes : Bytes
  /-- Its write began with the crosspoint empty (R371). -/
  fresh : Bool
deriving DecidableEq, Repr

/-- A copy of a set shares its buffer with one of these. -/
def Copy.shares (c : Copy) (l : List Copy) : Bool := l.any fun x => portCol x.port == portCol c.port && x.bytes == c.bytes

/-- The copy joins the residue of its crosspoint, or is dropped where the source's 256 entries are in use (R332). -/
def State.toResidue (s : State) (src col : Nat) (c : Copy) : List SetBuf → State
  | [] => s.xpM src col fun x => { x with noCredit := sat32 x.noCredit }
  | b :: _ =>
    if 256 ≤ (nth s.ing.sources src {}).residue then s.xpM src col fun x => { x with resFull := sat32 x.resFull }
    else
      let r : Residue := { copy := c, refCol := b.col, refUnit := b.unit, owner := src, pool := b.pool, at_ := s.time.record.t }
      let s := (s.addRef b.col b.unit).xpM src col fun x => { x with residue := x.residue ++ [r] }
      s.ingM fun i => { i with sources := updAt i.sources src fun z => { z with residue := z.residue + 1 } }

/-- A mirror copy at the release of its set: `bufs` are the buffers of the set written so far, `rest` its copies still to come (R330, R331). -/
def State.writeMirror (s : State) (src : Nat) (c : Copy) (rest : List Copy) (bufs : List SetBuf) : List SetBuf × State :=
  let col := portCol c.port
  if s.egress c.port = .flush then
    (bufs, (s.downDiscard c.port 1).colM col fun k => { k with flushDrops := sat32 k.flushDrops })
  else if !s.queuedRight c then (bufs, s.misqueue c)
  else if (s.residueAt src col).isEmpty then
    match bufs.find? (fun b => b.col == col && b.bytes == c.bytes) with
    | some b =>
      if s.qentOk col b.fresh then (bufs, (s.addRef col b.unit).enqueue src c b.unit b.pool)
      else (bufs, (s.schedM fun k => { k with qWaits := sat32 k.qWaits }).toResidue src col c bufs)
    | none =>
      let fresh := (s.col col).occ src == 0
      match s.writeCopy src c (c.shares rest) true with
      | (.at_ col u p, s) => (bufs ++ [{ col := col, unit := u, pool := p, bytes := c.bytes, fresh := fresh }], s)
      | (.gone, s) => (bufs, s)
      | (.waits, s) => (bufs, s.toResidue src col c bufs)
  else (bufs, s.toResidue src col c bufs)

/-- Release the mirror copies of a set after its first written copy. -/
def State.writeMirrors (s : State) (src : Nat) : List Copy → List SetBuf → State
  | [], _ => s
  | c :: cs, bufs =>
    let (bufs, t) := s.writeMirror src c cs bufs
    State.writeMirrors t src cs bufs

/-- Release a set without a primary copy: the first copy that passes is written first, then the others; all are dropped when none passes (R332). -/
def State.releaseMirrors (s : State) (src : Nat) : List Copy → List Copy → State
  | [], failed =>
    failed.foldl (fun s c => s.xpM src (portCol c.port) fun x => { x with noCredit := sat32 x.noCredit }) s
  | c :: cs, failed =>
    if (s.residueAt src (portCol c.port)).isEmpty then
      let fresh := (s.col (portCol c.port)).occ src == 0
      match s.writeCopy src c (c.shares (failed ++ cs)) true with
      | (.at_ col u p, s) => s.writeMirrors src (failed ++ cs) [{ col := col, unit := u, pool := p, bytes := c.bytes, fresh := fresh }]
      | (.gone, s) => State.releaseMirrors s src cs failed
      | (.waits, s) => State.releaseMirrors s src cs (failed ++ [c])
    else State.releaseMirrors s src cs (failed ++ [c])

/-- Release a copy set: none while its primary copy waits (R331). -/
def State.releaseSet (s : State) (src : Nat) (cs : List Copy) : Option State × State :=
  let (prim, mir) := cs.partition fun c => c.session.isNone
  match prim with
  | [] => let t := s.releaseMirrors src mir []; (some t, t)
  | c :: _ =>
    let col := portCol c.port
    if s.egress c.port != .flush && !(s.residueAt src col).isEmpty then (none, s.noteWait src col)
    else
      let fresh := (s.col col).occ src == 0
      match s.writeCopy src c true false with
      | (.waits, s) => (none, s)
      | (.gone, s) => let t := s.releaseMirrors src mir []; (some t, t)
      | (.at_ col u p, s) =>
        let t := s.writeMirrors src mir [{ col := col, unit := u, pool := p, bytes := c.bytes, fresh := fresh }]
        (some t, t)

/-! ## Residue -/

/-- Forget a residue entry of a source: its reference and its place. -/
def State.endResidue (s : State) (src : Nat) (r : Residue) : State :=
  let s := s.dropRef r.refCol r.refUnit r.owner r.pool src
  s.ingM fun i => { i with sources := updAt i.sources src fun z => { z with residue := z.residue - 1 } }

/-! ## Flush -/

/-- Mark a queued entry for the flush engine (R334). -/
def State.markEnts (s : State) (p : Nat) (es : List QEnt) : State :=
  (s.downDiscard p es.length).cportM p fun k => { k with
    marked := k.marked ++ es.map fun e => (e.col, e.unit, e.owner, e.pool) }

/-- Flow queues attached to a port node. -/
def State.queuesOf (s : State) (p : Nat) : List Nat :=
  Tbl.keys (s.sched.queues.filter fun e => e.2.en && (s.sgrp e.2.group).en && (s.sgrp e.2.group).port == p)

/-- Drop the residue aimed at a port, with a port-down discard each (R332). -/
def State.dropResidue (s : State) (p : Nat) : State :=
  s.core.xps.foldl (fun s e =>
    let src := e.1 / 16
    let (gone, keep) := e.2.residue.partition fun r => r.copy.port == p
    if gone.isEmpty then s
    else gone.foldl (fun s r => (s.endResidue src r).downDiscard p 1)
      (s.coreM fun k => { k with xps := Tbl.upd k.xps e.1 {} fun x => { x with residue := keep } })) s

/-- Every deficit below a node to zero (R378). -/
def State.zeroDeficits (s : State) (p : Nat) : State :=
  let s := s.nodeM p fun n => { n with deficits := List.replicate 8 0 }
  s.schedM fun k => { k with
    groups := k.groups.mapV fun _ g => if g.en && g.port == p then { g with deficit := 0 } else g
    queues := k.queues.mapV fun _ q => if q.en && (s.sgrp q.group).en && (s.sgrp q.group).port == p then { q with deficit := 0 } else q }

/-- Discard the frames selected for a port and not started (R378). -/
def State.dropSelected (s : State) (p : Nat) : State :=
  if p < 64 then
    let g := p / 8
    let gone := ((Tbl.lookD s.cip.egress g []).filter fun x => x.port == p).length
    let s := s.cipM fun k => { k with egress := Tbl.upd k.egress g [] fun l => l.filter fun x => x.port != p }
    let m := (s.mport p).tx
    let s := s.mportM p fun x => { x with tx := [] }
    (m.foldl (fun s t => s.txRelease t) s).downDiscard p (gone + m.length)
  else if p = 64 then
    let l := s.hst.sel
    let s := l.foldl (fun s x =>
      (s.hstM fun h => { h with rx := Tbl.upd h.rx x.ring {} fun r => { r with reserved := r.reserved - x.descs } }).readOut x.ent) s
    (s.hstM fun h => { h with sel := [] }).downDiscard 64 l.length
  else s

/-- Blank all egress: every port that may send ends its frame in transmission with an errored termination, the frame counted as discarded (R35 step 2, R592). -/
def State.blankEgress (s : State) : State :=
  (Tbl.keys s.mac.ports).foldl (fun s p => if s.lineOpen p then let (n, s) := s.cutFrame p; s.downDiscard p n else s) s

/-- Put a scheduler port into FLUSH (R334). -/
def State.enterFlush (s : State) (p : Nat) : State :=
  let fresh := s.egress p != .flush
  let s := s.cportM p fun k => { k with egress := .flush, sinceFlush := if fresh then 0 else k.sinceFlush }
  let s := (s.queuesOf p).foldl (fun s q =>
    let es := (s.fq q).q
    let s := s.fqM q fun f => { f with q := [], deficit := 0 }
    s.markEnts p es) s
  ((s.dropSelected p).dropResidue p).zeroDeficits p

/-- Let the flush engine free every marked reference of a port. -/
def State.freeMarked (s : State) (p : Nat) : State :=
  let m := (s.cport p).marked
  let s := s.cportM p fun k => { k with marked := [] }
  m.foldl (fun s (e : Nat × Nat × Nat × Nat) =>
    (s.colM e.1 fun k => { k with qents := k.qents - 1, flushed := sat32 k.flushed }).dropRef e.1 e.2.1 e.2.2.1 e.2.2.2 e.1) s

/-- Leave FLUSH for AWAIT_MARKER: markers are written (R334). -/
def State.leaveFlush (s : State) (p : Nat) : State :=
  if s.egress p = .flush then
    s.cportM p fun k => { k with egress := .await, leftFlush := s.time.record.t }
  else s

/-- A pending CORE_PORT_FLUSH of a port ends (R343). -/
def State.endPortFlush (s : State) (p : Nat) : State :=
  if (s.cport p).cmdFlush then
    (s.cportM p fun k => { k with cmdFlush := false }).completePended
      (fun t => t.opcode == 0x0804 && t.pkt.obj == p) .ok (s.cport p).sinceFlush []
  else s

/-- Every marker has passed: ENABLED, with its event (R334, R336). -/
def State.portEnabled (s : State) (p : Nat) : State :=
  if s.egress p = .await ∧ p ≠ 65 then
    let us := (s.time.record.t - (s.cport p).leftFlush) / 65536000
    let s := s.cportM p fun k => { k with egress := .enabled }
    (s.postEvent 0x0103 p [wd us, wd (s.cport p).sinceFlush]).endPortFlush p
  else s

end Sys2Proof.Machine
end

