-- ==== Sys2Proof/Machine/Vint.lean ====
section
/-!
DEFINITION. Epochs, visibility, live slots, reference counts of versioned objects, and the undo of a vintage (R171, R173, R179, R206, R228 to R244, R257, R276, R387).
-/
namespace Sys2Proof.Machine

/-! ## Order of epochs (R171) -/

/-- before(a, b). -/
def before (a b : Nat) : Bool :=
  let d := (b + 65536 - a % 65536) % 65536
  decide (1 ≤ d) && decide (d ≤ 32767)

/-- visible(entry, P) for a valid entry. -/
def visible (birth death : Nat) (deathSet : Bool) (p : Nat) : Bool :=
  !before p birth && (!deathSet || before p death)

/-- The slot of the current epoch. -/
def State.curSlot (s : State) : Slot := nth s.vin.slots s.vin.cur {}

/-- The current epoch. -/
def State.epoch (s : State) : Nat := s.curSlot.epoch

/-- The epoch that follows one, skipping zero (R230). -/
def nextEpoch (e : Nat) : Nat := if e = 0xFFFF then 1 else e + 1

/-- The live slots with their numbers. -/
def State.liveSlots (s : State) : List (Nat × Slot) :=
  ((List.range 4).map fun i => (i, nth s.vin.slots i {})).filter fun e => e.2.live

/-- The oldest live epoch. -/
def State.oldest (s : State) : Nat :=
  s.liveSlots.foldl (fun o e => if before e.2.epoch o then e.2.epoch else o) s.epoch

/-- The slot that holds a live epoch. -/
def State.slotOf (s : State) (e : Nat) : Option Slot := (s.liveSlots.find? fun x => x.2.epoch == e).map (·.2)

/-- The arrays of an epoch named in a command: 0 is the current one (R230). -/
def State.arraysOf (s : State) (e : Nat) : Option Arrays :=
  if e = 0 then some s.curSlot.arrays else (s.slotOf e).map (·.arrays)

/-- An entry with these epochs is free for a new one (R173). -/
def State.reclaimable (s : State) (death : Nat) (deathSet : Bool) : Bool := deathSet && before death s.oldest

/-- Change a slot. -/
def State.slotM (s : State) (i : Nat) (f : Slot → Slot) : State :=
  s.vinM fun v => { v with slots := updAt v.slots i f }

/-! ## Fields of action entries, next hops and sessions (R257, R258, R270) -/

/-- verdict. -/
def actVerdict (a : List Word) : Nat := (nth a 0 0#32).fld 3 2
/-- recirculate. -/
def actRecirc (a : List Word) : Bool := (nth a 0 0#32).bit 4
/-- bypass. -/
def actBypass (a : List Word) : Bool := (nth a 0 0#32).bit 5
/-- reason. -/
def actReason (a : List Word) : Nat := (nth a 0 0#32).fld 15 8
/-- queue. -/
def actQueue (a : List Word) : Nat := (nth a 0 0#32).fld 31 16
/-- next_hop. -/
def actHop (a : List Word) : Nat := (nth a 1 0#32).fld 13 0
/-- sa_binding. -/
def actBinding (a : List Word) : Nat := (nth a 1 0#32).fld 31 16
/-- meter. -/
def actMeter (a : List Word) : Nat := (nth a 2 0#32).fld 15 0
/-- mirror_session. -/
def actSession (a : List Word) : Nat := (nth a 2 0#32).fld 19 16
/-- mirror_en. -/
def actMirrorEn (a : List Word) : Bool := (nth a 2 0#32).bit 20
/-- meter_en. -/
def actMeterEn (a : List Word) : Bool := (nth a 2 0#32).bit 21
/-- count_en. -/
def actCountEn (a : List Word) : Bool := (nth a 2 0#32).bit 22
/-- queue_set. -/
def actQueueSet (a : List Word) : Bool := (nth a 2 0#32).bit 23
/-- nexthop_set. -/
def actHopSet (a : List Word) : Bool := (nth a 2 0#32).bit 24
/-- intent. -/
def actIntent (a : List Word) : Nat := (nth a 2 0#32).fld 27 25
/-- esp_udp. -/
def actEspUdp (a : List Word) : Bool := (nth a 2 0#32).bit 28
/-- counter. -/
def actCounter (a : List Word) : Nat := (nth a 3 0#32).fld 19 0
/-- precedence. -/
def actPrec (a : List Word) : Nat := (nth a 3 0#32).fld 27 24
/-- template. -/
def actTmpl (a : List Word) : Nat := (nth a 4 0#32).fld 11 0
/-- template_en. -/
def actTmplEn (a : List Word) : Bool := (nth a 4 0#32).bit 12
/-- anchor. -/
def actAnchor (a : List Word) : Nat := (nth a 4 0#32).fld 14 13
/-- vlan_op. -/
def actVlan (a : List Word) : Nat := (nth a 4 0#32).fld 18 16
/-- mpls_op. -/
def actMpls (a : List Word) : Nat := (nth a 4 0#32).fld 21 19
/-- ttl_op. -/
def actTtl (a : List Word) : Nat := (nth a 4 0#32).fld 23 22
/-- ttl_value. -/
def actTtlValue (a : List Word) : Nat := (nth a 4 0#32).fld 31 24
/-- vid, pcp and dei, as the 16 bits pcp, dei, vid of a tag. -/
def actTci (a : List Word) : Nat :=
  (nth a 5 0#32).fld 14 12 * 8192 + (nth a 5 0#32).fld 15 15 * 4096 + (nth a 5 0#32).fld 11 0
/-- label. -/
def actLabel (a : List Word) : Nat := (nth a 5 0#32).fld 31 16 + 65536 * (nth a 6 0#32).fld 3 0
/-- mpls_tc. -/
def actTc (a : List Word) : Nat := (nth a 6 0#32).fld 6 4
/-- dscp. -/
def actDscp (a : List Word) : Nat := (nth a 6 0#32).fld 13 8
/-- dscp_set. -/
def actDscpSet (a : List Word) : Bool := (nth a 6 0#32).bit 14
/-- An encapsulation intent: 1, 2 or 3. -/
def actEncap (a : List Word) : Bool := decide (1 ≤ actIntent a) && decide (actIntent a ≤ 3)

/-- port of a next hop. -/
def hopPort (h : List Word) : Nat := (nth h 0 0#32).fld 14 8
/-- dmac_set of a next hop. -/
def hopDmacSet (h : List Word) : Bool := (nth h 0 0#32).bit 2
/-- queue of a next hop. -/
def hopQueue (h : List Word) : Nat := (nth h 0 0#32).fld 31 16
/-- dmac of a next hop, six bytes. -/
def hopDmac (h : List Word) : Bytes := (wordsBytes (h.drop 1)).take 6

/-- enable of a session. -/
def mirEnable (m : List Word) : Bool := (nth m 0 0#32).bit 0
/-- trigger. -/
def mirTrigger (m : List Word) : Nat := (nth m 0 0#32).fld 2 1
/-- dest. -/
def mirDest (m : List Word) : Nat := (nth m 0 0#32).fld 9 3
/-- sa_valid. -/
def mirSaValid (m : List Word) : Bool := (nth m 0 0#32).bit 10
/-- sa_binding. -/
def mirBinding (m : List Word) : Nat := (nth m 0 0#32).fld 31 16
/-- queue. -/
def mirQueue (m : List Word) : Nat := (nth m 1 0#32).fld 15 0
/-- truncate. -/
def mirTruncate (m : List Word) : Nat := (nth m 1 0#32).fld 29 16
/-- sample_n. -/
def mirSample (m : List Word) : Nat := (nth m 2 0#32).fld 15 0
/-- port_mask. -/
def mirMask (m : List Word) : Nat := (nth m 3 0#32).toNat + 4294967296 * (nth m 4 0#32).toNat

/-- The disposition of an exception word; to host is 2 (R150). -/
def excDisp (w : Word) : Nat := w.fld 1 0
/-- The host queue of an exception word. -/
def excQueue (w : Word) : Nat := w.fld 31 16

/-! ## Reference counts (R276, R387) -/

/-- One more on a count that stops at 65,535. -/
def refUp (n : Nat) : Nat := satAdd 16 n 1

/-- One less, unless it stands at 65,535. -/
def refDown (n : Nat) : Nat := if n = 65535 then n else n - 1

/-- Count a reference up or down. -/
def refStep (up : Bool) (n : Nat) : Nat := if up then refUp n else refDown n

/-- live_refs of an action. -/
def State.refAct (s : State) (up : Bool) (a : Nat) : State :=
  s.actM fun k => { k with acts := match Tbl.look k.acts a with
    | some e => Tbl.put k.acts a { e with refs := refStep up e.refs }
    | none => k.acts }

/-- live_refs of a template. -/
def State.refTmpl (s : State) (up : Bool) (t : Nat) : State :=
  s.actM fun k => { k with tmpls := match Tbl.look k.tmpls t with
    | some e => Tbl.put k.tmpls t { e with refs := refStep up e.refs }
    | none => k.tmpls }

/-- live_refs of a next hop. -/
def State.refHop (s : State) (up : Bool) (h : Nat) : State :=
  s.actM fun k => { k with hops := match Tbl.look k.hops h with
    | some e => Tbl.put k.hops h { e with refs := refStep up e.refs }
    | none => k.hops }

/-- live_refs of a meter. -/
def State.refMeter (s : State) (up : Bool) (m : Nat) : State :=
  s.actM fun k => { k with meters := Tbl.upd k.meters m {} fun e => { e with refs := refStep up e.refs } }

/-- live_refs of an SA binding. -/
def State.refBind (s : State) (up : Bool) (b : Nat) : State :=
  s.actM fun k => { k with bindRefs := Tbl.upd k.bindRefs b 0 (refStep up) }

/-- refs of a flow queue. -/
def State.refQueue (s : State) (up : Bool) (q : Nat) : State :=
  s.schedM fun k => { k with refs := Tbl.upd k.refs q 0 (refStep up) }

/-- A reference to a flow queue takes a death epoch. -/
def State.killQueueRef (s : State) (q n : Nat) : State :=
  (s.refQueue false q).schedM fun k => { k with refDeath := Tbl.upd k.refDeath q n fun d => if before d n then n else d }

/-- What an action names, counted up or down; `dead` gives its queue reference a death epoch. -/
def State.refsOfAct (s : State) (up : Bool) (dead : Option Nat) (a : List Word) : State :=
  let s := if actTmplEn a then s.refTmpl up (actTmpl a) else s
  let s := if actHopSet a then s.refHop up (actHop a) else s
  let s := if actMeterEn a then s.refMeter up (actMeter a) else s
  let s := if actEncap a then s.refBind up (actBinding a) else s
  if actQueueSet a then
    match dead with
    | some n => s.killQueueRef (actQueue a) n
    | none => s.refQueue up (actQueue a)
  else s

/-- What a next hop names. -/
def State.refsOfHop (s : State) (up : Bool) (dead : Option Nat) (h : List Word) : State :=
  match dead with
  | some n => s.killQueueRef (hopQueue h) n
  | none => s.refQueue up (hopQueue h)

/-- What an enabled session names. -/
def State.refsOfMirror (s : State) (up : Bool) (dead : Option Nat) (m : List Word) : State :=
  if mirEnable m then
    let s := if mirSaValid m then s.refBind up (mirBinding m) else s
    match dead with
    | some n => s.killQueueRef (mirQueue m) n
    | none => s.refQueue up (mirQueue m)
  else s

/-- What the words of an exception table name. -/
def State.refsOfExcept (s : State) (up : Bool) (dead : Option Nat) (ws : List Word) : State :=
  (ws.take 10).foldl (fun s w =>
    if excDisp w = 2 then
      match dead with
      | some n => s.killQueueRef (excQueue w) n
      | none => s.refQueue up (excQueue w)
    else s) s

/-! ## The open vintage -/

/-- The vintage in hand, with its handle, when it is open and not committing. -/
def State.openVint (s : State) : Option Vintage := s.vin.vint.filter fun v => v.state == .opened

/-- Change the vintage in hand. -/
def State.vintM (s : State) (f : Vintage → Vintage) : State := s.vinM fun v => { v with vint := v.vint.map f }

/-- Change the arrays staged for N. -/
def State.stagedM (s : State) (f : Arrays → Arrays) : State := s.vintM fun v => { v with arrays := f v.arrays }

/-- The arrays as staged for N; the current ones where no vintage is in hand. -/
def State.staged (s : State) : Arrays :=
  match s.vin.vint with
  | some v => v.arrays
  | none => s.curSlot.arrays

/-- Free log regions: five less those of committed epochs and of the vintage in hand (R235). -/
def State.freeRegions (s : State) : Nat := 5 - s.vin.regions.length - b2n s.vin.vint.isSome

/-- A clash of two names for one epoch: it lies in force or is staged. -/
def State.isLive (s : State) (e : Nat) : Bool := (s.slotOf e).isSome

/-! ## Undo (R179, R206, R253) -/

/-- Undo what a vintage did to the exact-match pool. -/
def State.undoEm (s : State) (n : Nat) : State :=
  s.lookup.slots.foldl (fun s e =>
    let x := e.2
    if x.birth = n then
      (if x.deathSet then s else s.refAct false x.action).lookupM fun k => { k with slots := Tbl.del k.slots e.1 }
    else if x.deathSet && x.death == n then
      (s.refAct true x.action).lookupM fun k => { k with slots := Tbl.put k.slots e.1 { x with deathSet := false, death := 0 } }
    else s) s

/-- Undo what a vintage did to the prefix store. -/
def State.undoPfx (s : State) (n : Nat) : State :=
  let old := s.lookup.pfx
  let s := old.foldl (fun s x =>
    if x.birth = n then (if x.deathSet then s else s.refAct false x.action)
    else if x.deathSet && x.death == n then s.refAct true x.action else s) s
  s.lookupM fun k => { k with pfx := (old.filter fun x => x.birth != n).map fun x =>
    if x.deathSet && x.death == n then { x with deathSet := false, death := 0 } else x }

/-- Rows of the entry at a position of a bank (R199). -/
def Tcam.rowsAt (t : Tcam) (key : Nat) : List Nat :=
  let w := 2 ^ Tbl.lookD t.widths (key / 2048) 0
  (List.range w).map fun i => key / w * w + i

/-- Cells of rows committed whole at a core clock: both replicas equal the shadow there, and a repair queued for them is cancelled (R204, R207). -/
def Tcam.wrote (t : Tcam) (key clock : Nat) : Tcam :=
  let rs := t.rowsAt key
  { t with
    commits := rs.foldl (fun k r => Tbl.put k r clock) t.commits
    diffA := t.diffA.filter fun e => !rs.contains e.1
    diffB := t.diffB.filter fun e => !rs.contains e.1
    shadowErr := t.shadowErr.filter fun e => !rs.contains (e.1 / 8)
    repairA := t.repairA.filter fun r => !rs.contains r
    repairB := t.repairB.filter fun r => !rs.contains r }

/-- The rows of an entry are cleared, cells and shadow (R205). -/
def State.tcamClear (s : State) (key : Nat) : State :=
  s.tcamM fun t => ({ t with ents := Tbl.del t.ents key }).wrote key s.time.core

/-- Undo what a vintage did to the TCAM. -/
def State.undoTcam (s : State) (n : Nat) : State :=
  s.tcam.ents.foldl (fun s e =>
    let x := e.2
    if x.birth = n then
      (if x.deathSet then s else s.refAct false x.action).tcamClear e.1
    else if x.deathSet && x.death == n then
      (s.refAct true x.action).tcamM fun k => { k with ents := Tbl.put k.ents e.1 { x with deathSet := false, death := 0 } }
    else s) s

/-- Undo what a vintage did to actions. -/
def State.undoActs (s : State) (n : Nat) : State :=
  s.act.acts.foldl (fun s e =>
    let x := e.2
    if x.birth = n then
      (if x.deathSet then s else s.refsOfAct false none x.words).actM fun k => { k with acts := Tbl.del k.acts e.1 }
    else if x.deathSet && x.death == n then
      (s.refsOfAct true none x.words).actM fun k =>
        { k with acts := Tbl.upd k.acts e.1 x fun y => { y with deathSet := false, death := 0 } }
    else s) s

/-- Undo what a vintage did to templates. -/
def State.undoTmpls (s : State) (n : Nat) : State :=
  s.actM fun k => { k with tmpls := Tbl.mapV (k.tmpls.filter fun e => e.2.birth != n) fun _ x =>
    if x.deathSet && x.death == n then { x with deathSet := false, death := 0 } else x }

/-- Undo what a vintage did to next hops. -/
def State.undoHops (s : State) (n : Nat) : State :=
  s.act.hops.foldl (fun s e =>
    let x := e.2
    if x.birth = n then
      (if x.deathSet then s else s.refsOfHop false none x.words).actM fun k => { k with hops := Tbl.del k.hops e.1 }
    else if x.deathSet && x.death == n then
      (s.refsOfHop true none x.words).actM fun k =>
        { k with hops := Tbl.upd k.hops e.1 x fun y => { y with deathSet := false, death := 0 } }
    else s) s

/-- Undo what a vintage did to mirror sessions. -/
def State.undoMirrors (s : State) (n : Nat) : State :=
  s.act.mirrors.foldl (fun s e =>
    let s := e.2.foldl (fun s p =>
      if p.birth = n then (if p.death = 0 then s.refsOfMirror false none p.words else s)
      else if p.birth ≠ 0 ∧ p.death = n then s.refsOfMirror true none p.words else s) s
    s.actM fun k => { k with mirrors := Tbl.put k.mirrors e.1 (e.2.map fun p =>
      if p.birth = n then {} else if p.birth ≠ 0 ∧ p.death = n then { p with death := 0 } else p) }) s

/-- Undo what a vintage did to the exception table. -/
def State.undoExcept (s : State) (v : Vintage) : State :=
  if v.arrays.except = s.curSlot.arrays.except then s
  else (s.refsOfExcept false none v.arrays.except).refsOfExcept true none s.curSlot.arrays.except

/-- Queues whose latest death epoch was the undone one fall back to the latest that still stands (R387). -/
def State.undoQueueDeaths (s : State) (n : Nat) : State :=
  let cur := s.epoch
  let latest (q : Nat) : Option Nat :=
    let ds := (s.act.acts.vals.filter fun x => x.deathSet && actQueueSet x.words && actQueue x.words == q).map (·.death)
      ++ (s.act.hops.vals.filter fun x => x.deathSet && hopQueue x.words == q).map (·.death)
      ++ (s.act.mirrors.vals.flatten.filter fun p => p.death != 0 && mirQueue p.words == q).map (·.death)
      ++ (if s.liveSlots.any fun e => (e.2.arrays.except.take 10).any fun w => excDisp w == 2 && excQueue w == q then [cur] else [])
    ds.foldl (fun o d => match o with
      | none => some d
      | some x => if before x d then some d else some x) none
  s.schedM fun k => { k with refDeath := k.refDeath.filterMap fun e =>
    if e.2 = n then (latest e.1).map fun d => (e.1, d) else some e }

/-- Undo every change of the vintage in hand: its N is free again. -/
def State.undoVint (s : State) : State :=
  match s.vin.vint with
  | none => s
  | some v =>
    let n := v.n
    let s := ((((s.undoEm n).undoPfx n).undoTcam n).undoActs n).undoTmpls n
    let s := (((s.undoHops n).undoMirrors n).undoExcept v).undoQueueDeaths n
    s.vinM fun k => { k with
      vint := none
      last := some { v with state := .aborted, arrays := {} } }

/-- End a vintage by abort: the wait of its commit ends with ABORTED, and its changes are undone. -/
def State.abortVint (s : State) : State :=
  match s.vin.vint with
  | none => s
  | some v =>
    (s.undoVint).completePended
      (fun t => (t.opcode == 0x0502 || t.opcode == 0x0505) && t.pkt.handle.toNat == v.handle) .aborted 0 [0#32, 0#32]

/-- Set up epoch 1 in slot 0, with arrays, at the entry to CONFIG from BOOT (R232). -/
def vinConfig (a : Arrays) : Vintages :=
  { cur := 0, slots := [{ live := true, epoch := 1, arrays := a }, {}, {}, {}] }

end Sys2Proof.Machine
end

