-- ==== Sys2Proof/Machine/Safe.lean ====
section
/-!
DEFINITION. What several events share: zeroize, entry to SAFE, discarding every packet, a port's link going down, isolation, and the part of a Trellis loss that concerns no mode (R28, R35, R36, R314, R434 to R440, R461, R562).
-/
namespace Sys2Proof.Machine

/-! ## Ports -/

/-- Clear a tripped pause-storm guard, with its event (R440). -/
def State.clearTrip (s : State) (p : Nat) : State :=
  if (s.mport p).tripped then
    (s.mportM p fun m => { m with tripped := false }).postEvent 0x0104 p [0#32, wd (s.cport p).sinceFlush]
  else s

/-- A port's link goes down with a cause (R435, R436, R440). `cut` is the frames lost in transmission, 0 or 1. -/
def State.linkGoesDown (s : State) (p cause cut : Nat) : State :=
  if (s.mport p).up then
    let s := s.mportM p fun m => { m with up := false, downAt := s.time.record.t, cause := cause }
    let s := ((s.portCount p 11 1).portCount p 10 cut).clearTrip p
    (s.enterFlush p).postEvent 0x0102 p [wd cause, wd cut]
  else s

/-! ## Trellis -/

/-- Move to a twin state, with TWIN_STATE and IRQ_CAUSE.TWIN (R461). -/
def State.twinGo (s : State) (st : TwinState) (cause : Nat) : State :=
  if s.twin.st = st then s
  else
    let w0 := s.twin.st.code + 256 * s.twin.partnerMode + 65536 * b2n s.twin.stale + 131072 * b2n s.pins.ownIn
    ((s.twinM fun t => { t with st := st }).setCause 6).postEvent 0x0C01 st.code [wd w0, wd cause]

/-- Free every lock of a master (R72). -/
def State.freeLocks (s : State) (m : Nat) : State :=
  s.locksM fun l => l.map fun o => if o == some m then none else o

/-- The Trellis session ends: keys gone, waits forgotten, locks of master 3 freed, port 66 in FLUSH (R72, R335, R457, R461). -/
def State.twinCut (s : State) (cause : Nat) (link : Bool) : State :=
  let s := s.twinM fun t => { t with
    linkUp := t.linkUp && link, keys := none, partnerHello := none, hbRx := none, hbSent := [], misses := 0
    txCounter := 0, rxCounter := 0, mirrorSent := 0, acked := 0, applied := 0, sent := [], credits := 0, creditBack := 0
    partnerMode := 0, partnerReq := false, partnerHairpin := false }
  let s := (s.freeLocks 3).enterFlush 66
  if s.twin.en then s.twinGo .linkDown cause else s

/-! ## Zeroize (R21, R314) -/

/-- Clear all key material: seal key, key-wrap key, session keys, contexts and windows, bindings and SCI entries. -/
def State.zeroize (s : State) : State :=
  let s := s.cipM fun k => { k with
    sealKey := none, sas := [], sci := [], bindings := k.bindings.mapV fun _ b => { b with valid := false } }
  let s := s.cmdsM fun k => { k with kwk := none }
  s.twinM fun t => { t with keys := none, ephemeral := 0, m := [], sent := [] }

/-! ## Discarding packets (R28, R35 step 6) -/

/-- Count a packet that has no target yet against its port of first entry. -/
def State.countLost (s : State) (p : Pkt) : State :=
  s.downDiscard (if p.origin < 8 then p.port else if p.origin = 10 then 66 else 64) 1

/-- Count every copy of a reorder entry. -/
def State.countEntry (s : State) : REntry → State
  | .ready _ cs => cs.foldl (fun s c => s.downDiscard c.port 1) s
  | _ => s

/-- A column with every buffer free again but for the quarantined ones, with a carve in progress moved on or given up (R28, R363). -/
def Column.emptied (k : Column) (keepCarve : Bool) : Column :=
  let bufs := Tbl.mapV (k.bufs.filter fun e => e.2.quarantined) fun _ b => { b with refs := 0, owner := 15, bytes := [] }
  let k := { k with bufs := bufs, qents := 0, badLinks := [] }
  let k := if keepCarve then k else { k with carve := none, carveDone := [], rebuilding := [] }
  if k.carve.isSome || !bufs.isEmpty then (List.range 4).foldl (fun k p => Column.rebuild k p) k
  else { k with free := freshFree k.segs, rebuilding := [] }

/-- A retiring slice that holds no packet, or only packets that have timed out, takes its retired state, and its SLICE_RETIRE completes (R135, R136). -/
def State.sliceDone (s : State) (k : Nat) : State :=
  let z := nth s.ing.slices k {}
  if z.st == .retiring && z.held.all (·.2) then
    let s := s.ingM fun i => { i with slices := updAt i.slices k fun z => { z with st := z.after } }
    match s.parkedOn 0x0D20 k with
    | some t => if t.aux = 0 then s.completePended (fun x => x == t) .ok 0 [] else s.completePended (fun x => x == t) .okAdjusted t.aux []
    | none => s
  else s

/-- Discard every packet inside the engine, counted per core port. -/
def State.dropAllPackets (s : State) (keepCarve : Bool) : State :=
  let s := s.ing.groups.foldl (fun s g => (g.queue ++ g.pend ++ g.after).foldl (fun s f => s.countLost f.pkt) s) s
  let s := s.ing.slices.foldl (fun s z => (z.held.filter fun h => !h.2).foldl (fun s h => s.countLost h.1) s) s
  let s := s.ing.sources.foldl (fun s z => z.window.foldl (fun s e => s.countEntry e) s) s
  let s := (s.ing.hostQ ++ s.ing.twinQ ++ s.frag.held.map (·.pkt)).foldl (fun s p => s.countLost p) s
  let s := s.hst.pieces.foldl (fun s e => s.downDiscard 64 e.2.2.length) s
  let s := s.core.xps.foldl (fun s e => e.2.residue.foldl (fun s r => s.downDiscard r.copy.port 1) s) s
  let s := s.sched.queues.foldl (fun s e => e.2.q.foldl (fun s x => s.downDiscard x.copy.port 1) s) s
  let s := (s.sched.recirc0 ++ s.sched.recirc1).foldl (fun s _ => s.downDiscard 65 1) s
  let s := (Tbl.keys s.mac.ports).foldl (fun s p => s.dropSelected p) s
  let s := s.dropSelected 64
  let s := s.ingM fun i => { i with
    groups := i.groups.map fun g => { g with queue := [], pend := [], after := [], stalled := none, found := none }
    slices := i.slices.map fun z => { z with held := [] }
    sources := i.sources.map fun z => { z with window := [], residue := 0 }
    hostQ := [], twinQ := [] }
  let s := s.hstM fun h => { h with pieces := [], sel := [] }
  let s := s.fragM fun f => { f with held := [] }
  let s := s.cipM fun k => { k with egress := [], sas := k.sas.mapV fun _ a => { a with refs := 0 } }
  let s := s.schedM fun k => { k with
    queues := k.queues.mapV fun _ q => { q with q := [], deficit := 0 }
    groups := k.groups.mapV fun _ g => { g with deficit := 0 }
    nodes := k.nodes.mapV fun _ n => { n with deficits := List.replicate 8 0 }
    recirc0 := [], recirc1 := [] }
  let was := s.core.cols.map Column.quarUnits
  let s := s.coreM fun k => { k with
    cols := k.cols.map fun c => c.emptied keepCarve
    xps := k.xps.mapV fun _ x => { x with pending := 0, residue := [] }
    ports := k.ports.mapV fun _ p => { p with marked := [] } }
  let s := s.vinM fun v => { v with slots := v.slots.map fun x => { x with pass := 0, recirc := 0, hold := 0 } }
  let s := (List.range 11).foldl (fun s c => s.quarHigh c (nth was c 0)) s
  let s := if keepCarve then (List.range 11).foldl (fun s c => s.carveGo c) s else s
  (List.range 8).foldl (fun s k => s.sliceDone k) s

/-! ## Entering SAFE (R35, R36) -/

/-- Commands SAFE lets run on (R23). -/
def safeAllows (op : Nat) : Bool := op / 256 == 0x10 || op == 0 || op == 1 || op == 2

/-- Power states in SAFE (R36). -/
def State.safePower (s : State) : State :=
  let asleep := nth s.pwr.doms 31 .run != .run
  let s := s.pwrM fun p => { p with
    doms := (List.range 33).map fun d =>
      if d < 2 then .run
      else if d = 32 then (if s.twin.en then .doze else .off)
      else if nth p.doms d .run == .off then .off else .doze
    waking := [], railStep := none }
  let s := s.ddrM fun d => { d with
    trainMask := 0
    chans := d.chans.map fun c => if c.st == .training then { c with st := .untrained } else c }
  if asleep then s else s.ranksSleep

/-- Enter SAFE with a cause; the capture is that of the triggering fault. In SAFE, DORMANT and OFF nothing more happens (R34); a reset that holds the core overtakes every trigger but the loss of REFCLK25 (R15, R33). -/
def State.enterSafe (s : State) (cause : Nat) (cap : Option Capture) : State :=
  if s.mode.resetHeld && s.pins.refclk then s else
  match s.mode.mode with
  | .safe | .off | .dormant => s
  | prev =>
    let s := s.blankEgress.pinsM fun p => { p with safeN := false, ownOut := false }
    let s := if s.twin.en then s.twinCut 2 false else s
    let s := s.zeroize
    let s := s.abortVint
    let s := s.noBatch
    let s := s.completeAll (fun t => !safeAllows t.opcode) .aborted
    let s := s.dropAllPackets false
    let s := s.runM fun _ => {}
    let s := s.coreM fun k => { k with ports := k.ports.mapV fun _ p => { p with cmdFlush := false } }
    let s := s.snapAbort 3
    let s := s.modeM fun m => { m with
      safeFromFactory := prev == .factoryTest, pendingTarget := none, drainTimeout := 0, safeDeferred := false, resetHeld := false }
    let s := if prev == .boot && !s.vnt.haltedMc then
        (s.vntM fun v => { v with running := true }).hifM fun h => { h with ready := true }
      else s
    let runs := s.recordRuns
    let s := s.safePower.goMode .safe cause
    let ns := Config.freeValue s.free % 50001
    let c := match cap with
      | some c => c.bytes
      | none => List.replicate 32 0#8
    let s := s.drawn.bookPut runs (some (6144 + s.mode.bootCount % 256)) 0x11
      ([by8 cause, by8 prev.code, 0#8, 0#8] ++ c ++ leBytes 4 ns)
    s.setAlert 1

/-! ## Isolation (R562) -/

/-- Isolate a slice: it stays ISOLATED until reset, and a SLICE_RETIRE waiting for it ends. -/
def State.isolateSlice (s : State) (k src : Nat) : State :=
  (s.ingM fun i => { i with slices := updAt i.slices k fun z =>
    if z.st == .isolated then z else { z with st := .isolated, isolator := src } }).completePended
    (fun t => t.opcode == 0x0D20 && t.pkt.obj == k) .ok 0 []

/-- Isolate a port group: its domain goes OFF and every port of it goes down with cause 1. -/
def State.isolateGroup (s : State) (g : Nat) : State :=
  let d := 2 + g
  if s.pwr.isolated.contains d then s
  else
    let s := s.pwrM fun p => { p with
      isolated := d :: p.isolated, doms := updAt p.doms d fun _ => .off, waking := p.waking.filter (· != d) }
    let lost := (nth s.ing.groups g {}).pend
    let s := lost.foldl (fun s f => s.portCount f.port 12 1) s
    let s := match (nth s.ing.groups g {}).found with
      | some i => s.saRelease i
      | none => s
    let s := s.ingM fun i => { i with groups := updAt i.groups g fun b => { b with queue := b.queue ++ b.after, pend := [], after := [], stalled := none, found := none } }
    ((Tbl.keys s.mac.ports).filter fun p => p / 8 == g).foldl (fun s p => s.linkGoesDown p 1 0) s

end Sys2Proof.Machine
end

