-- ==== Sys2Proof/Machine/SaCore.lean ====
section
/-!
DEFINITION. Security associations: their context's bytes, where they live, the references to them, and the end of a retirement (R283 to R288, R305, R307).
-/
namespace Sys2Proof.Machine

/-! ## Contexts (R286) -/

/-- outbound. -/
def Sa.outbound (a : Sa) : Bool := nbit a.flags 1
/-- esp. -/
def Sa.esp (a : Sa) : Bool := nbit a.flags 2
/-- extended: XPN or ESN. -/
def Sa.extended (a : Sa) : Bool := nbit a.flags 3
/-- aes256. -/
def Sa.aes256 (a : Sa) : Bool := nbit a.flags 4
/-- replay_off. -/
def Sa.replayOff (a : Sa) : Bool := nbit a.flags 5
/-- tunnel. -/
def Sa.tunnel (a : Sa) : Bool := nbit a.flags 6
/-- udp_encap. -/
def Sa.udp (a : Sa) : Bool := nbit a.flags 7
/-- The suite's last number (R281, R301). -/
def Sa.last (a : Sa) : Nat := if a.extended then 18446744073709551615 else 0xFFFFFFFF
/-- The AES key, 16 or 32 bytes. -/
def Sa.aesKey (a : Sa) : Bytes := if a.aes256 then a.key else a.key.take 16

/-- Bytes 0 to 103 of a context. -/
def Sa.bytes (a : Sa) : Bytes :=
  bytesAt a.key 0 32 ++ bytesAt a.salt 0 12 ++ leBytes 4 a.ssci ++ beBytes 8 a.sci ++ leBytes 8 a.pn ++ leBytes 8 a.threshold
    ++ leBytes 4 a.spi
    ++ [by8 a.flags,
        by8 (a.conf + 4 * b2n a.includeSci + 8 * b2n a.outerKeep + 16 * b2n a.pin + 32 * b2n a.frozen + 64 * b2n a.thrRaised
          + 128 * b2n a.exhausted),
        by8 (a.an + 4 * a.group), by8 a.port]
    ++ leBytes 2 a.windowBits ++ leBytes 2 (if a.esp && !a.outbound then a.spi / 4194304 else 0)
    ++ leBytes 4 (a.counter + 1048576 * b2n a.countEn + 2097152 * b2n a.wasBound)
    ++ leBytes 4 a.serial ++ leBytes 4 a.discA ++ leBytes 4 a.discB ++ leBytes 2 a.udpSrc ++ leBytes 2 a.udpDst

/-- A context from its bytes 0 to 103 and its window. -/
def Sa.ofBytes (b : Bytes) (window : Nat) : Sa :=
  let x := byteAt b 77
  let c := leNat (bytesAt b 84 4)
  { key := bytesAt b 0 32, salt := bytesAt b 32 12, ssci := leNat (bytesAt b 44 4), sci := beAt b 48 8
    pn := leNat (bytesAt b 56 8), threshold := leNat (bytesAt b 64 8), spi := leNat (bytesAt b 72 4), flags := byteAt b 76
    conf := x % 4, includeSci := nbit x 2, outerKeep := nbit x 3, pin := nbit x 4, frozen := nbit x 5, thrRaised := nbit x 6
    exhausted := nbit x 7, an := byteAt b 78 % 4, group := nfld (byteAt b 78) 4 2, port := byteAt b 79 % 64
    windowBits := leNat (bytesAt b 80 2) % 2048, window := window
    counter := c % 1048576, countEn := nbit c 20, wasBound := nbit c 21, serial := leNat (bytesAt b 88 4)
    discA := leNat (bytesAt b 92 4), discB := leNat (bytesAt b 96 4), udpSrc := leNat (bytesAt b 100 2), udpDst := leNat (bytesAt b 102 2) }

/-! ## Where SAs live -/

/-- The context of an SA, where it is resident. -/
def State.ctx (s : State) (i : Nat) : Option Sa := (s.sa i).bind (·.ctx)

/-- Change the context of a resident SA. -/
def State.ctxM (s : State) (i : Nat) (f : Sa → Sa) : State :=
  s.saM i fun r => { r with
    ctx := r.ctx.map f
    exhausted := match r.ctx with
      | some a => (f a).exhausted
      | none => r.exhausted }

/-- A binding. -/
def State.binding (s : State) (b : Nat) : Option Binding := Tbl.look s.cip.bindings b

/-- The valid binding that names an SA. -/
def State.bindingOf (s : State) (i : Nat) : Option Nat := (s.cip.bindings.find? fun e => e.2.valid && e.2.sa == i).map (·.1)

/-- The SA a valid binding names. -/
def State.boundSa (s : State) (b : Nat) : Option Nat :=
  match s.binding b with
  | some e => if e.valid then some e.sa else none
  | none => none

/-- SCI entries with one slot changed; an entry without a valid slot is gone (R288). -/
def sciUpd (l : List SciEnt) (group port sci an : Nat) (v : Option (Nat × Nat)) : List SciEnt :=
  (l.map fun e => if e.group = group ∧ e.port = port ∧ e.sci = sci then { e with slots := updAt e.slots an fun _ => v } else e).filter
    fun e => e.slots.any Option.isSome

/-- The SCI slot that names an SA: group, port, SCI, AN and expected generation. -/
def State.sciSlot (s : State) (i : Nat) : Option (Nat × Nat × Nat × Nat × Nat) :=
  s.cip.sci.findSome? fun e => (List.range 4).findSome? fun an =>
    match nth e.slots an none with
    | some (x, g) => if x = i then some (e.group, e.port, e.sci, an, g) else none
    | none => none

/-- Clear the SCI slot that names an SA. -/
def State.clearSci (s : State) (i : Nat) : State :=
  match s.sciSlot i with
  | some (g, p, sci, an, _) => s.cipM fun k => { k with sci := sciUpd k.sci g p sci an none }
  | none => s

/-- Address of an SA's record (R308). -/
def State.recAddr (s : State) (i : Nat) : Nat := s.cip.spillBase + 256 * i

/-- An SA goes: context, window, way and slot, its reference and its record, once the records have a place (R307). -/
def State.removeSa (s : State) (i : Nat) : State :=
  let s := (s.clearSci i).cipM fun k => { k with sas := Tbl.del k.sas i }
  let s := s.twinM fun t => { t with m := Tbl.del t.m i, sent := t.sent.filter fun e => e.1 != i }
  if s.cip.spillPlaced then s.ddrStore (s.recAddr i) (List.replicate 256 0#8) else s

/-- The standby's answer on an SA's retirement is still out. -/
def State.retireWaits (s : State) (i : Nat) : Bool :=
  s.twin.waits.any fun w => match w.undo with
    | .retire j _ => i == j
    | _ => false

/-- Nothing holds up the end of a retirement any more. -/
def State.retireReady (s : State) (i : Nat) : Bool :=
  match s.sa i with
  | some r => r.retiring && r.refs == 0 && !r.fetching && !s.retireWaits i
  | none => false

/-- The end of a retirement (R307). -/
def State.retireDone (s : State) (i : Nat) : State :=
  if s.retireReady i then
    ((s.removeSa i).cipM fun k => { k with retirements := sat32 k.retirements }).completePended
      (fun t => t.opcode == 0x0701 && t.pkt.obj == i) .ok 0 []
  else s

/-- End every retirement that nothing holds up. -/
def State.retireAll (s : State) : State :=
  (s.cip.sas.filter fun e => e.2.retiring).foldl (fun s e => s.retireDone e.1) s

end Sys2Proof.Machine
end

