-- ==== Sys2Proof/Machine/Link.lean ====
section
/-!
DEFINITION. Ownership of the cipher side, ports leaving FLUSH, Trellis messages, planned handover, mailbox waiting, and what is settled before a command ends (R65 to R68, R334, R456 to R463, R473, R561).
-/
namespace Sys2Proof.Machine

/-! ## Ports leaving FLUSH (R22, R334, R335, R463) -/

/-- Nothing holds this scheduler port in FLUSH. -/
def State.mayRun (s : State) (p : Nat) : Bool :=
  if p < 64 then
    let m := s.mport p
    m.up && !m.tripped && (!m.cipher || s.owns || (s.mode.mode == .factoryTest && nbit s.cip.guardOff (p / 8)))
  else if p = 66 then s.twin.up && s.twin.hairpin && s.twin.partnerHairpin
  else true

/-- A port in FLUSH goes on to AWAIT_MARKER when nothing holds it. -/
def State.tryLeave (s : State) (p : Nat) : State := if s.mayRun p then s.leaveFlush p else s

/-- Cipher-side ports present. -/
def State.cipherPorts (s : State) : List Nat := Tbl.keys (s.mac.ports.filter fun e => e.2.cipher)

/-- Every cipher-side port enters FLUSH. -/
def State.flushCipher (s : State) : State := s.cipherPorts.foldl (fun s p => s.enterFlush p) s

/-- Every cipher-side port that may leave FLUSH does. -/
def State.releaseCipher (s : State) : State := s.cipherPorts.foldl (fun s p => s.tryLeave p) s

/-- Wake every PG domain: a mode transition that needs them wakes them first (R38). -/
def State.wakePgs (s : State) : State := (List.range 8).foldl (fun s g => s.wakeDom (2 + g)) s

/-- Assert OWN_OUT and start the claim window, or wait while OWN_IN is asserted (R462, R463). -/
def State.claimOwn (s : State) : State :=
  if s.pins.ownOut then s
  else if s.pins.ownIn then s.runM fun r => { r with wantOwn := true }
  else (s.wakePgs.pinsM fun p => { p with ownOut := true }).runM fun r => { r with claim := true, owner := false, wantOwn := false }

/-- Deassert OWN_OUT; cipher-side ports enter FLUSH (R22, R473). -/
def State.dropOwn (s : State) : State :=
  ((s.pinsM fun p => { p with ownOut := false }).runM fun r =>
    { r with claim := false, owner := false, wantOwn := false }).flushCipher

/-! ## Trellis messages (R456, R458) -/

/-- The header of a Trellis frame, bytes 0 to 15. -/
def trellisHead (ch len counter credit : Nat) : Bytes := [1#8, by8 ch] ++ leBytes 2 len ++ leBytes 8 counter ++ leBytes 4 credit

/-- A Trellis frame from its header, its payload and its tag: the FCS comes last. A frame is at least 64 bytes; the layout does not say how a shorter one is filled, and the model puts zeros between the tag and the FCS. DESIGN CHOICE. -/
def trellisBytes (head payload tag : Bytes) : Bytes :=
  let f := head ++ payload ++ tag
  let f := if f.length < 60 then bytesAt f 0 60 else f
  f ++ fcsBytes f

/-- A handshake frame: counter 0, in clear, its tag zero. -/
def trellisClear (msg : Bytes) : Bytes := trellisBytes (trellisHead 0 msg.length 0 0) msg (List.replicate 16 0#8)

/-- A frame under the session keys: AES-256-GCM under the key of its direction, 0 from the engine with TWIN_ID low. -/
def trellisSealed (keys : Bytes × Bytes) (high : Bool) (ch counter credit : Nat) (msg : Bytes) : Bytes :=
  let head := trellisHead ch msg.length counter credit
  let nonce := [by8 (0xA0 + b2n high), 0#8, 0#8, 0#8] ++ leBytes 8 counter
  let x := Aes.gcmSeal (if high then keys.2 else keys.1) nonce head msg
  trellisBytes head (x.take msg.length) (x.drop msg.length)

/-- Send a message on a channel, when session keys are in force: it takes the next counter and carries the credit due. -/
def State.twinSend (s : State) (ch typ : Nat) (body : Bytes) : State :=
  match s.twin.keys with
  | none => s
  | some keys =>
    let k := s.twin.txCounter + 1
    let msg := [by8 typ, 0#8] ++ leBytes 2 (4 + body.length) ++ body
    let s := (s.emit (.trellis msg (trellisSealed keys s.pins.twinId ch k s.twin.creditBack msg))).perfTrellis 0x10 1
    let s := if ch = 1 then s.perfTrellis 0x12 1 else s
    s.twinM fun t => { t with
      txCounter := k, creditBack := 0
      mirrorSent := if ch = 1 then k else t.mirrorSent
      counts := if ch = 1 then updAt t.counts 1 sat32 else t.counts }

/-- A NUMBER message for an SA (R466); the record waits for its ACK. -/
def State.sendNumber (s : State) (i : Nat) (a : Sa) : State :=
  let b := leBytes 3 i ++ [by8 (b2n a.thrRaised + 2 * b2n a.exhausted + 4 * b2n a.frozen)] ++ leBytes 8 a.pn
  let s := s.twinSend 1 0x40 b
  s.twinM fun t => { t with sent := t.sent ++ [(i, a.pn, t.mirrorSent)] }

/-- Outbound SAs whose contexts are resident. -/
def State.outSas (s : State) : List (Nat × Sa) :=
  s.cip.sas.filterMap fun e => match e.2.ctx with
    | some a => if e.2.outbound then some (e.1, a) else none
    | none => none

/-! ## Planned handover (R473) -/

/-- Start a planned handover, asked for by MODE_SET or by the partner's HANDOVER; R41 lists no cause for the second, and the model reports 0x01 for both (DESIGN CHOICE). HANDOVER is sent, the selections of cipher-side ports end, a final NUMBER goes out for every outbound SA, OWN_OUT is released and the engine enters TWIN_STANDBY. -/
def State.startHandover (s : State) : State :=
  if s.mode.mode == .twinActive && s.twin.st == .inSync then
    let s := (s.twinSend 0 0x08 []).dropOwn
    let s := s.outSas.foldl (fun s e => s.sendNumber e.1 e.2) s
    (s.runM fun r => { r with handoverOut := true }).goMode .twinStandby 1
  else s

/-! ## Mailbox waiting (R65, R67, R476) -/

/-- Why the receiver of a mailbox cannot take a message now; 0 when it can (R67). Choices the manual leaves open: host software, the receiver of 8 to 11, 14 and 15, can take a message in every mode from CONFIG on, whatever the HOST domain does, whose endpoint stays powered (R497); and the sender of 12 and 13 sees WAITING with reason 6 from SEND until the partner accepts. -/
def State.waitReason (s : State) (m : Nat) : Nat :=
  if m = 12 ∨ m = 13 then (if s.twin.st.code < 3 ∨ s.twin.st = .authFailed then 4 else if s.twin.st = .stranger then 5 else 6)
  else if !s.mode.mode.isUp then 2
  else if 8 ≤ m then 0
  else if !s.vnt.running then 3
  else if s.pwr.waking.contains 1 || nth s.pwr.doms 1 .run != .run then 1
  else 0

/-- A change of a mailbox's state: the state, the reason and MBX_TIME. -/
def State.mbxGo (s : State) (m : Nat) (st : MbxState) (reason : Nat) : State :=
  s.mbxM fun l => updAt l m fun b => { b with state := st, reason := reason, time := s.ns32 }

/-- Bring one mailbox from WAITING to POSTED or back, as its receiver is able now. Messages entering POSTED in 8 to 15 set their cause (R68). -/
def State.mbxRefresh (s : State) (m : Nat) : State :=
  let b := nth s.mbx m {}
  let r := s.waitReason m
  match b.state with
  | .posted => if r = 0 then s else s.mbxGo m .waiting r
  | .waiting =>
    if r = 0 then
      let s := s.mbxGo m .posted 0
      if 8 ≤ m then s.setMbxCause m else s
    else if b.reason = r then s
    else s.mbxM fun l => updAt l m fun b => { b with reason := r }
  | _ => s

/-! ## What is settled before a command ends -/

/-- An entry to SAFE. -/
def Due.isSafe : Due → Bool
  | .safe _ _ => true
  | _ => false

/-- Apply one reaction (R561, R562). A handover that an entry to SAFE overtakes has no effect (R33). -/
def State.applyDue (s : State) : Due → State
  | .safe cause cap => s.enterSafe cause cap
  | .slice k src => s.isolateSlice k src
  | .group g => s.isolateGroup g
  | .handover => if s.flt.due.any Due.isSafe then s else s.startHandover
  | .dormant => if s.mode.mode == .config then (s.goMode .dormant 1).loseRails 0 else s

/-- Apply the reactions raised, oldest first, and those they raise in turn. -/
def settleDue : Nat → State → State
  | 0, s => s.fltM fun f => { f with due := [] }
  | n + 1, s =>
    match s.flt.due with
    | [] => s
    | d :: r => settleDue n ((s.fltM fun f => { f with due := r }).applyDue d)

/-- What every command ends with: the reactions due, retirements nothing holds up, carves whose next segments are free, and mailboxes whose receivers became able or unable. -/
def State.settle (s : State) : State :=
  let s := (settleDue 1024 s).retireAll.carveAll.timeM fun t => { t with oldNs := none }
  if s.mode.mode = .off then s else (List.range 16).foldl (fun s m => s.mbxRefresh m) s

/-- A command that has its effect and ends. -/
def State.done (s : State) : Host.Outcome State Fault Refusal := .next s.settle

end Sys2Proof.Machine
end

