-- ==== Sys2Proof/Machine/Ports.lean ====
section
/-!
DEFINITION. Port layouts, landing-buffer occupancy and flow control, and the commands of class 0x01 (R118 to R125, R428 to R432, R454).
-/
namespace Sys2Proof.Machine

/-! ## Layouts (R428, R429) -/

/-- Layout word of a group. -/
def State.layout (s : State) (g : Nat) : Word := nth s.mac.layouts g 0#32

/-- Rate code of the port at lane k of a layout, none where no port starts: 0 800, 1 400, 2 200, 3 100, 4 50, 5 25, 6 10 GbE. -/
def laneRate (w : Word) (k : Nat) : Option Nat :=
  if w.bit 0 then guardO (k == 0) 0
  else
    let m := if k < 4 then w.fld 2 1 else w.fld 4 3
    if m = 1 then guardO (k % 4 == 0) 1
    else if m = 2 then guardO (k % 2 == 0) 2
    else if m = 3 then some (3 + w.fld (17 + 2 * k) (16 + 2 * k))
    else none

/-- Rate of a rate code in Mb/s. -/
def rateMbps (r : Nat) : Nat := nth [800000, 400000, 200000, 100000, 50000, 25000, 10000] r 0

/-- Rate code of a MAC port, none when it is absent from its group's layout. -/
def State.portRate (s : State) (p : Nat) : Option Nat := if p < 64 then laneRate (s.layout (p / 8)) (p % 8) else none

/-- The port stands in its group's layout. -/
def State.hasPort (s : State) (p : Nat) : Bool := (s.portRate p).isSome

/-- Ports of a group in a layout, rising. -/
def layoutPorts (g : Nat) (w : Word) : List Nat := ((List.range 8).filter fun k => (laneRate w k).isSome).map (8 * g + ·)

/-- Ports present. -/
def State.allPorts (s : State) : List Nat := (List.range 8).flatMap fun g => layoutPorts g (s.layout g)

/-- Landing-buffer settings of a port in a new layout (R124). -/
def lbDefault (w : Word) (k : Nat) : LbPort :=
  let rs := (List.range 8).filterMap (laneRate w)
  let total := sumL (rs.map rateMbps)
  let r := match laneRate w k with
    | some c => rateMbps c
    | none => 0
  let share := 128 + (if total = 0 then 0 else (4096 - 192 * rs.length) * r / total)
  { share := share, common := 64, xoff := share - 128, xon := share - 128 - 64, xoffQuanta := 65535, refresh := 32768 }

/-- A port at its initial settings; the counts of this boot, and when its link went down, stay (R431, R454). -/
def MacPort.initial (m : MacPort) : MacPort :=
  { counts := m.counts, guardDiscards := m.guardDiscards, downAt := m.downAt, cause := m.cause, lastEnd := m.lastEnd }

/-- A landing buffer at its initial settings; what LB_STATUS counts stays (R124, R125). -/
def LbPort.initial (w : Word) (k : Nat) (b : LbPort) : LbPort :=
  { lbDefault w k with peak := b.peak, xoffs := b.xoffs, overrun := b.overrun, discards := b.discards }

/-- A group as its layout leaves it: every port at its initial settings. -/
def State.setLayout (s : State) (g : Nat) (w : Word) : State :=
  let lanes := (List.range 8).map fun k => 8 * g + k
  let s := s.macM fun m => { m with
    layouts := updAt m.layouts g fun _ => w, ports := lanes.foldl (fun t p => Tbl.upd t p {} MacPort.initial) m.ports }
  s.ingM fun i => { i with ports := (layoutPorts g w).foldl (fun t p => Tbl.upd t p {} (LbPort.initial w (p % 8))) i.ports }

/-! ## Occupancy (R115, R118, R121) -/

/-- Settings of a port's landing buffer. -/
def State.lb (s : State) (p : Nat) : LbPort := Tbl.lookD s.ing.ports p {}

/-- Change a port's landing-buffer settings or state. -/
def State.lbM (s : State) (p : Nat) (f : LbPort → LbPort) : State :=
  s.ingM fun i => { i with ports := Tbl.upd i.ports p {} f }

/-- Frames that hold cells of a group. -/
def LbGroup.frames (g : LbGroup) : List LFrame := g.queue ++ g.pend ++ g.after

/-- Cells a port holds. -/
def State.lbOcc (s : State) (p : Nat) : Nat :=
  sumL (((nth s.ing.groups (p / 8) {}).frames.filter fun f => f.port == p).map (·.cells))

/-- Cells a priority of a port holds. -/
def State.lbPrio (s : State) (p pr : Nat) : Nat :=
  sumL (((nth s.ing.groups (p / 8) {}).frames.filter fun f => f.port == p && f.prio == pr).map (·.cells))

/-- Common-region cells in use in a group. -/
def State.commonUse (s : State) (g : Nat) : Nat :=
  sumL ((layoutPorts g (s.layout g)).map fun p => s.lbOcc p - (s.lb p).share)

/-- Cells of the common region of a group. -/
def State.commonSize (s : State) (g : Nat) : Nat :=
  4096 - sumL ((layoutPorts g (s.layout g)).map fun p => (s.lb p).share)

/-! ## Flow control sent (R120, R121) -/

/-- A MAC control frame of a port, without its FCS. -/
def macControl (sa : Bytes) (body : Bytes) : Bytes :=
  bytesAt ([0x01#8, 0x80#8, 0xC2#8, 0#8, 0#8, 0x01#8] ++ sa ++ [0x88#8, 0x08#8] ++ body) 0 60

/-- Send a MAC control frame on a port whose link is up, where the mode and the ownership let its MAC send (R20, R462). -/
def State.sendControl (s : State) (p : Nat) (xoff : Bool) (body : Bytes) : State :=
  let m := s.mport p
  if m.up && s.lineOpen p then
    let f := macControl m.pauseSa body
    (if xoff then s.perf (2 * (p / 8)) 0x13 1 else s).emit (.frame p (f ++ fcsBytes f) false)
  else s

/-- Send PAUSE. -/
def State.sendPause (s : State) (p q : Nat) : State := s.sendControl p (q != 0) (beBytes 2 1 ++ beBytes 2 q)

/-- Send PFC with one time for the priorities of a mask. -/
def State.sendPfc (s : State) (p mask q : Nat) : State :=
  s.sendControl p (q != 0) (beBytes 2 0x0101 ++ beBytes 2 mask
    ++ (List.range 8).flatMap fun i => beBytes 2 (if nbit mask i then q else 0))

/-- An amount stands below xon; xon 0 means no cells (R123). -/
def belowXon (xon n : Nat) : Bool := if xon = 0 then n == 0 else decide (n < xon)

/-- Flow control of the port as a whole, from its present occupancy. -/
def State.fcPort (s : State) (p : Nat) : State :=
  let b := s.lb p
  let occ := s.lbOcc p
  if b.fcMode = 0 then s
  else if !b.xoffOn && decide (b.xoff ≤ occ) then
    let s := s.lbM p fun b => { b with
      xoffOn := true, xoffs := satAdd 16 b.xoffs 1, pfcOn := if b.fcMode = 2 then b.pfcMask else b.pfcOn }
    if b.fcMode = 1 then s.sendPause p b.xoffQuanta else s.sendPfc p b.pfcMask b.xoffQuanta
  else if b.xoffOn && belowXon b.xon occ then
    let s := s.lbM p fun b => { b with xoffOn := false, pfcOn := 0 }
    if b.fcMode = 1 then s.sendPause p 0 else s.sendPfc p b.pfcMask 0
  else s

/-- Flow control of one priority. -/
def State.fcPrio (s : State) (p pr : Nat) : State :=
  let b := s.lb p
  let n := s.lbPrio p pr
  if b.fcMode != 2 || b.xoffOn then s
  else if !nbit b.pfcOn pr && nbit b.pfcMask pr && decide (b.xoff ≤ n) && decide (s.lbOcc p < b.xoff) then
    (s.lbM p fun b => { b with pfcOn := orBit b.pfcOn pr, xoffs := satAdd 16 b.xoffs 1 }).sendPfc p (2 ^ pr) b.xoffQuanta
  else if nbit b.pfcOn pr && belowXon b.xon n then
    (s.lbM p fun b => { b with pfcOn := clrBit b.pfcOn pr }).sendPfc p (2 ^ pr) 0
  else s

/-- Flow control of a port after its occupancy or its settings have changed, and its peak. -/
def State.fcUpdate (s : State) (p : Nat) : State :=
  let s := s.lbM p fun b => { b with peak := max b.peak (s.lbOcc p) }
  (List.range 8).foldl (fun s pr => s.fcPrio p pr) (s.fcPort p)

/-! ## Class 0x01 -/

/-- Some position of a mirror session that is visible in a live epoch names a port of a group. -/
def State.mirrorNames (s : State) (g : Nat) : Bool :=
  s.act.mirrors.any fun e => e.2.any fun m =>
    m.birth != 0
      && (s.liveSlots.any fun l => visible m.birth m.death (m.death != 0) l.2.epoch)
      && ((decide (mirDest m.words < 64) && mirDest m.words / 8 == g) || nfld (mirMask m.words) (8 * g + 7) (8 * g) != 0)

/-- PORT_LAYOUT_SET (R430). -/
def portLayoutSet (c : Packet) (s : State) : Res :=
  let g := c.obj
  let w := c.w 0
  let mode3 (k : Nat) : Bool := !w.bit 0 && (if k < 4 then w.fld 2 1 else w.fld 4 3) == 3
  let badLane := (List.range 8).find? fun k => !mode3 k && w.fld (17 + 2 * k) (16 + 2 * k) != 0
  let dom (d : PtpDom) : Bool := d.en && d.port / 8 == g
  checks [objBelow c 8, reserved c 0 0xFFFF001F,
      (w.fld 4 0 != 0, .badZero, 16),
      fieldIs 0 0 (!(w.bit 0 && w.fld 4 1 != 0)),
      fieldIs 0 (16 + 2 * badLane.getD 0) badLane.isNone,
      (!(dom s.time.domA || dom s.time.domB), .conflict, 1),
      (!(s.cip.sas.any fun e => !e.2.outbound && !e.2.esp && e.2.group == g), .conflict, 2),
      (!s.mirrorNames g, .conflict, 3)]
    (let s := (layoutPorts g (s.layout g)).foldl (fun s p => s.linkGoesDown p 4 0) s
     let s := (layoutPorts g w).foldl (fun s p => s.mportM p fun m => { m with downAt := s.time.record.t }) (s.setLayout g w)
     .done .ok (layoutPorts g w).length [] s)

/-- The port settings a PORT_SET carries (R431). -/
def portFields (c : Packet) (m : MacPort) : MacPort :=
  { m with
    en := (c.w 0).bit 0, cipher := (c.w 0).bit 1, rxFc := (c.w 0).fld 3 2, guardOn := (c.w 0).bit 4
    fec25 := (c.w 0).bit 5, train := (c.w 0).bit 6, stormMs := (c.w 0).fld 31 16
    maxFrame := (c.w 1).fld 14 0, pauseSa := bytesAt (wordsBytes [c.w 2, c.w 3]) 0 6 }

/-- PORT_SET (R431, R432). -/
def portSet (c : Packet) (s : State) : Res :=
  let p := c.obj
  let w := c.w 0
  let old := s.mport p
  checks [(s.hasPort p, .notFound, 0), reserved c 0 0xFFFF007F, reserved c 1 0x7FFF, reserved c 3 0xFFFF,
      (!(w.bit 4 && w.fld 31 16 == 0), .badZero, 18), nonZero c 1 14 0,
      fieldIs 0 2 (w.fld 3 2 != 3),
      fieldIs 0 5 (!w.bit 5 || s.portRate p == some 5),
      fieldIs 0 16 (if w.bit 4 then decide (w.fld 31 16 ≤ 10000) else w.fld 31 16 == 0),
      within c 1 14 0 64 16384,
      fieldIs 2 0 (!(c.w 2).bit 0)]
    (let s :=
      if old.en && !w.bit 0 then s.linkGoesDown p 3 0
      else if old.train != w.bit 6 || old.fec25 != w.bit 5 then s.linkGoesDown p 4 0
      else s
     let s := s.mportM p (portFields c)
     let s :=
      if old.cipher != w.bit 1 then
        let s := s.cipM fun k => { k with ports := if w.bit 1 then Tbl.put k.ports p {} else Tbl.del k.ports p }
        (s.enterFlush p).tryLeave p
      else s
     let s := if old.guardOn && !w.bit 4 && (s.mport p).tripped then (s.clearTrip p).tryLeave p else s
     .ok s)

/-- PORT_STATUS (R454). -/
def portStatus (c : Packet) (s : State) : Res :=
  let p := c.obj
  let m := s.mport p
  let k (i : Nat) : Nat := nth m.counts i 0
  let pf := sumL ((List.range 8).map fun i => if nth m.pfc i 0 = 0 then 0 else 2 ^ i)
  checks [(s.hasPort p, .notFound, 0)]
    (.data [wd (b2n m.up + 2 * b2n m.en + 4 * b2n m.cipher + 8 * b2n m.tripped + 16 * b2n (m.pause != 0)
          + 256 * pf + 65536 * m.cause),
        wd (k 0), wd (k 1), wd (k 2), wd (k 3), wd (k 4), wd (min (k 5) 65535 + 65536 * min (k 6) 65535),
        wd (k 7), wd (k 8), wd (k 9), wd (k 10), wd (k 11), wd (k 12)] s)

/-- A port's share, the one staged last in the batch going before the one in force (R123). -/
def State.lbShare (s : State) (q : Nat) : Nat :=
  match (s.cmds.staged.filter fun x => x.opcode == 0x0120 && x.pkt.obj == q).getLast? with
  | some x => (x.pkt.w 0).fld 12 0
  | none => (s.lb q).share

/-- Sum of the shares of a group with one port's share replaced. -/
def State.shareSum (s : State) (g p share : Nat) : Nat :=
  sumL ((layoutPorts g (s.layout g)).map fun q => if q = p then share else s.lbShare q)

/-- Release what the old settings hold and the new ones no longer do (R124): a PAUSE in force whenever fc_mode or pfc_mask changes. -/
def State.fcRelease (s : State) (p : Nat) (b : LbPort) (mode mask : Nat) : State :=
  if b.fcMode = 1 ∧ b.xoffOn ∧ (mode ≠ 1 ∨ mask ≠ b.pfcMask) then (s.lbM p fun b => { b with xoffOn := false }).sendPause p 0
  else if b.fcMode = 2 ∧ b.pfcOn ≠ 0 ∧ (mode ≠ 2 ∨ mask ≠ b.pfcMask) then
    let gone := if mode = 2 then clrMask b.pfcOn mask else b.pfcOn
    let s := s.lbM p fun b => { b with xoffOn := false, pfcOn := clrMask b.pfcOn gone }
    if gone = 0 then s else s.sendPfc p gone 0
  else s

/-- LB_PORT_SET (R123, R124). -/
def lbPortSet (c : Packet) (s : State) : Res :=
  let p := c.obj
  let share := (c.w 0).fld 12 0
  let xoff := (c.w 1).fld 12 0
  let xon := (c.w 1).fld 28 16
  let mode := (c.w 2).fld 1 0
  let mask := (c.w 2).fld 15 8
  let q := (c.w 3).fld 15 0
  let sum := s.shareSum (p / 8) p share
  checks [(s.hasPort p, .notFound, 0),
      reserved c 0 0x1FFF1FFF, reserved c 1 0x1FFF1FFF, reserved c 2 0x7FF03,
      nonZero c 0 12 0, nonZero c 1 12 0, nonZero c 3 15 0,
      within c 0 12 0 64 4096, within c 0 28 16 0 4096,
      fieldIs 1 0 (decide (xoff + 64 ≤ share)), fieldIs 1 16 (decide (xon < xoff)),
      fieldIs 2 0 (mode != 3), fieldIs 2 8 (!(mode == 2 && mask == 0)),
      fieldIs 3 0 (decide (2 ≤ q)), fieldIs 3 16 (decide (1 ≤ (c.w 3).fld 31 16 ∧ (c.w 3).fld 31 16 < q)),
      (decide (sum ≤ 4096), .conflict, sum)]
    (let s := s.fcRelease p (s.lb p) mode mask
     let s := s.lbM p fun b => { b with
      share := share, common := (c.w 0).fld 28 16, xoff := xoff, xon := xon, fcMode := mode, pfcMask := mask
      defPri := (c.w 2).fld 18 16, xoffQuanta := q, refresh := (c.w 3).fld 31 16 }
     .ok (s.fcUpdate p))

/-- LB_STATUS (R125). A peak that is cleared starts again from the present occupancy. DESIGN CHOICE. -/
def lbStatus (c : Packet) (s : State) : Res :=
  let g := c.obj
  checks [objBelow c 8]
    (let lbg := nth s.ing.groups g {}
     let ws := (List.range 8).flatMap fun k =>
       let p := 8 * g + k
       if s.hasPort p then
         let b := s.lb p
         [wd (s.lbOcc p + 65536 * b.peak), wd (b2n b.xoffOn + 256 * b.pfcOn + 65536 * b.xoffs), wd b.overrun, wd b.discards]
       else [0#32, 0#32, 0#32, 0#32]
     let inUse := sumL (lbg.frames.map (·.cells))
     let t := s.ingM fun i => { i with
       groups := updAt i.groups g fun x => { x with heldLands := 0 }
       ports := i.ports.mapV fun p b => if p / 8 == g then { b with peak := s.lbOcc p, xoffs := 0, overrun := 0, discards := 0 } else b }
     .data (wd (inUse + 65536 * s.commonUse g) :: wd lbg.heldLands :: ws) t)

end Sys2Proof.Machine
end

