-- ==== Sys2Proof/Machine/Parse.lean ====
section
/-!
DEFINITION. The parse graph and its walk, the default graph, dispositions, the fragment table, and the commands of class 0x02 (R138 to R165).
-/
namespace Sys2Proof.Machine

/-! ## State and transition entries (R142, R143) -/

/-- A state entry as the walk uses it. -/
structure PState8 where
  /-- The eight words. -/
  w : List Word
deriving DecidableEq, Repr

/-- Word i of a state. -/
def PState8.word (s : PState8) (i : Nat) : Word := nth s.w i 0#32
/-- kind. -/
def PState8.kind (s : PState8) : Nat := (s.word 0).fld 12 10

/-- A state of the graph that is valid. -/
def Arrays.state (a : Arrays) (i : Nat) : Option PState8 :=
  match Tbl.look a.states i with
  | some w => guardO ((nth w 3 0#32).bit 31) ⟨w⟩
  | none => none

/-- Transitions a state names: indices. -/
def PState8.trans (s : PState8) : List Nat := (List.range ((s.word 3).fld 14 10)).map ((s.word 3).fld 9 0 + ·)

/-- A transition entry: value, mask, next state, stop; none when it is not valid. -/
def Arrays.transOf (a : Arrays) (i : Nat) : Option (Nat × Nat × Nat × Bool) :=
  match Tbl.look a.trans i with
  | some [lo, hi] => guardO (hi.bit 9) (lo.fld 15 0, lo.fld 31 16, hi.fld 7 0, hi.bit 8)
  | _ => none

/-! ## The walk (R138 to R144, R152, R153) -/

/-- What a walk has found so far. -/
structure Walk where
  /-- The key vector, 64 bytes. -/
  kv : Bytes := List.replicate 64 0#8
  /-- Headers recorded, in walk order: header_id and offset. -/
  hdrs : List (Nat × Nat) := []
  /-- Result code (R148). -/
  result : Nat := 0
  /-- IPV4_OPTIONS. -/
  options : Bool := false
  /-- TINY_FIRST. -/
  tiny : Bool := false
  /-- 0 not a fragment, 1 first, 2 later. -/
  frag : Nat := 0
  /-- MF or M of the fragment. -/
  more : Bool := false
  /-- Fragment key: IPv6, and bytes 0 to 36 of its entry. -/
  key : Bool × Bytes := (false, [])
  /-- End of the IP payload. -/
  ipEnd : Nat
  /-- Offset of the last IPv6 header. -/
  v6at : Nat := 0
deriving DecidableEq, Repr

/-- A byte the parse engine reads: zero beyond the frame end and beyond byte 255 (R140). -/
def rdb (b : Bytes) (i : Nat) : Nat := if i < 256 then byteAt b i else 0

/-- `n` bytes the parse engine reads. -/
def rdBytes (b : Bytes) (i n : Nat) : Bytes := (List.range n).map fun k => by8 (rdb b (i + k))

/-- Two bytes in network order the parse engine reads. -/
def rd16 (b : Bytes) (i : Nat) : Nat := 256 * rdb b i + rdb b (i + 1)

/-- Header length of a state at an offset. -/
def PState8.hlen (s : PState8) (b : Bytes) (off : Nat) : Nat :=
  let w := s.word 1
  if w.fld 15 8 = 0 then (s.word 0).fld 23 16
  else ((rdb b (off + w.fld 7 0) &&& w.fld 15 8) / 2 ^ w.fld 18 16) * 2 ^ w.fld 21 19 + w.fld 31 24

/-- The built-in checks of a kind: the result on failure, none when they hold (R144). The length of a UDP header in a first fragment is that of the whole datagram, so it is not held to the fragment's payload: R152 classifies such a fragment normally. DEDUCED from R152 and its example. -/
def PState8.check (s : PState8) (b : Bytes) (off hl : Nat) (k : Walk) : Option Nat :=
  let left := b.length - off
  match s.kind with
  | 1 =>
    let ihl := rdb b off % 16
    let tl := rd16 b (off + 2)
    if rdb b off / 16 ≠ 4 ∨ ihl < 5 ∨ tl < 4 * ihl ∨ left < tl then some 6
    else if (s.word 0).bit 9 && inetSum (rdBytes b off (4 * ihl)) != 0 then some 5 else none
  | 2 =>
    let pl := rd16 b (off + 4)
    if rdb b off / 16 ≠ 6 ∨ left < 40 + pl ∨ (pl = 0 ∧ rdb b (off + 6) ≠ 59) then some 6 else none
  | 3 => if hl = 8 then none else some 6
  | 4 => if rdb b (off + 12) / 16 < 5 then some 7 else none
  | 5 =>
    let ul := rd16 b (off + 4)
    if ul < 8 ∨ (k.frag ≠ 1 ∧ k.ipEnd - off < ul) then some 7 else none
  | _ => none

/-- Address fields of an IPv4 fragment key. -/
def key4 (b : Bytes) (off : Nat) : Bytes :=
  let z : Bytes := List.replicate 12 0#8
  z ++ rdBytes b (off + 12) 4 ++ z ++ rdBytes b (off + 16) 4 ++ leBytes 4 (rd16 b (off + 4)) ++ [by8 (rdb b (off + 9))]

/-- The key of an IPv6 fragment, from its IPv6 header and its Fragment header. -/
def key6 (b : Bytes) (ip off : Nat) : Bytes :=
  rdBytes b (ip + 8) 32 ++ leBytes 4 (beNat (rdBytes b (off + 4) 4)) ++ [0#8]

/-- Marks a header of a kind sets once its checks have passed. -/
def PState8.marks (s : PState8) (b : Bytes) (off : Nat) (fragEn : Bool) (k : Walk) : Walk :=
  match s.kind with
  | 1 =>
    let fo := rd16 b (off + 6)
    let k := { k with
      options := k.options || decide (5 < rdb b off % 16), ipEnd := off + rd16 b (off + 2) }
    if fragEn && k.frag == 0 && fo % 16384 != 0 then
      { k with frag := (if fo % 8192 = 0 then 1 else 2), more := nbit fo 13, key := (false, key4 b off) }
    else k
  | 2 => { k with ipEnd := off + 40 + rd16 b (off + 4), v6at := off }
  | 3 =>
    let fo := rd16 b (off + 2)
    if fragEn && k.frag == 0 && (nbit fo 0 || fo / 8 != 0) then
      { k with frag := (if fo / 8 = 0 then 1 else 2), more := nbit fo 0, key := (true, key6 b k.v6at off) }
    else k
  | _ => k

/-- A state of the shipped graph whose byte 27 is the traffic class (R147): it carries a ninth word, which no host can write. -/
def PState8.shippedTc (s : PState8) : Bool := decide (8 < s.w.length)

/-- Extraction words 4 to 7 of a state. The traffic class of the shipped IPv6 state is put together from the two bytes that hold it (DESIGN CHOICE, log entry 20). -/
def PState8.extract (s : PState8) (b : Bytes) (off : Nat) (kv : Bytes) : Bytes :=
  (List.range 4).foldl (fun kv n =>
    let w := s.word (4 + n)
    let len := w.fld 13 8
    if len = 0 then kv
    else
      let v := if s.shippedTc ∧ w.fld 21 16 = 27 then
          [by8 (16 * (rdb b off % 16) + rdb b (off + 1) / 16)]
        else rdBytes b (off + w.fld 7 0) len
      bytesSet kv (w.fld 21 16) v) kv

/-- The select value. -/
def PState8.sel (s : PState8) (b : Bytes) (off : Nat) : Nat :=
  let w := s.word 2
  let v := match w.fld 9 8 with
    | 1 => rdb b (off + w.fld 7 0)
    | 2 => rd16 b (off + w.fld 7 0)
    | _ => 0
  v &&& w.fld 31 16

/-- The transition taken: next state and stop, and whether default_next was taken. -/
def Arrays.next (a : Arrays) (s : PState8) (v : Nat) : Nat × Bool × Bool :=
  match (s.trans.filterMap a.transOf).find? (fun t => v &&& t.2.1 == t.1 &&& t.2.1) with
  | some t => (t.2.2.1, t.2.2.2, false)
  | none => ((s.word 3).fld 23 16, (s.word 3).bit 24, true)

/-- The L4 header of a first fragment, as its kind defines it, ends beyond the fragment's IP payload: a TCP header as long as its data offset says, at least 20 bytes, or 8 bytes of UDP (R153). -/
def PState8.tinyFirst (s : PState8) (b : Bytes) (off : Nat) (k : Walk) : Bool :=
  k.frag == 1 &&
    ((s.kind == 4 && decide (k.ipEnd < off + max 20 (4 * (rdb b (off + 12) / 16)))) || (s.kind == 5 && decide (k.ipEnd < off + 8)))

/-- Visit states from one, at most `n` more. -/
def walk (a : Arrays) (b : Bytes) (fragEn : Bool) : Nat → Nat → Nat → Walk → Walk
  | 0, _, _, k => { k with result := 3 }
  | n + 1, i, off, k =>
    match a.state i with
    | none => k
    | some s =>
      let hl := s.hlen b off
      let tiny := s.tinyFirst b off k
      let k := { k with tiny := k.tiny || tiny }
      if b.length < off + hl ∨ 256 < off + hl then { k with result := if b.length ≤ 256 then 2 else 4 }
      else if tiny then k
      else
        match s.check b off hl k with
        | some r => { k with result := r }
        | none =>
          let k := s.marks b off fragEn k
          let k := { k with
            hdrs := if (s.word 0).bit 8 then k.hdrs ++ [((s.word 0).fld 7 0, off)] else k.hdrs
            kv := s.extract b off k.kv }
          if k.frag = 2 then k
          else
            let (nx, stop, dflt) := a.next s (s.sel b off)
            let k := if dflt && (s.word 0).bit 13 then { k with result := 1 } else k
            if stop || k.result != 0 then k else walk a b fragEn n nx (off + hl) k

/-- Parse a packet with a graph, and write the metadata bytes (R138, R145). -/
def parse (a : Arrays) (fragEn : Bool) (p : Pkt) : Walk :=
  let k := walk a p.bytes fragEn 16 0 0 { ipEnd := p.bytes.length }
  let has (id : Nat) : Bool := k.hdrs.any fun h => h.1 == id
  let f := b2n k.options + 2 * b2n (k.frag == 1) + 4 * b2n (k.frag == 2) + 8 * b2n k.tiny + 16 * b2n (has 0x0D)
    + 32 * b2n p.decrypted + 64 * b2n p.fragRelease + 128 * b2n (has 2 || has 3)
  let mb := [by8 ((if p.origin < 8 then p.port else 0) + 64 * b2n p.cipherSide), by8 (p.origin + 16 * p.pass),
    by8 k.result, by8 f, by8 k.hdrs.length] ++ beBytes 3 (if p.decrypted then p.sa else 0)
  { k with kv := bytesSet k.kv 0 mb }

/-! ## Dispositions (R149, R150) -/

/-- Severity of a disposition: continue, to host, drop. -/
def severity (d : Nat) : Nat := if d = 1 then 2 else if d = 2 then 1 else 0

/-- The exception word a packet takes. -/
def Walk.exception (k : Walk) (a : Arrays) : Word :=
  let w := nth a.except k.result 0#32
  let w := if k.options && decide (severity (excDisp w) < severity (excDisp (nth a.except 8 0#32))) then nth a.except 8 0#32 else w
  if k.tiny && decide (severity (excDisp w) < severity (excDisp (nth a.except 9 0#32))) then nth a.except 9 0#32 else w

/-- reason of an exception word. -/
def excReason (w : Word) : Nat := w.fld 15 8

/-- default_action. -/
def Arrays.defaultAction (a : Arrays) : Nat := (nth a.except 15 0#32).fld 19 0

/-! ## The shipped default graph (R147; its shape is a DESIGN CHOICE, log entry 20) -/

/-- Words 0 to 3 of a state that transitions lead on from: header_id, recorded, kind, miss_unknown, length; select; transitions; default next or stop. -/
def gState (id : Nat) (w0 w1 w2 base cnt dflt : Nat) (ext : List (Nat × Nat × Nat)) : List Word :=
  let e := ext.map fun x => wd (x.1 + 256 * x.2.1 + 65536 * x.2.2)
  [wd (id + w0), wd w1, wd w2, wd (base + 1024 * cnt + dflt + 0x80000000)] ++ bytesWords (bytesAt (wordsBytes e) 0 16)

/-- A transition: value, mask, next state; next 256 is stop. -/
def gTrans (v m nx : Nat) : List Word :=
  [wd (v + 65536 * m), wd (if nx = 256 then 0x300 else nx + 0x200)]

/-- Transitions on an EtherType, with the C-tag and S-tag states they lead to. -/
def gEther (c s : Nat) : List (List Word) :=
  [gTrans 0x8100 0xFFFF c, gTrans 0x88A8 0xFFFF s, gTrans 0x0800 0xFFFF 10, gTrans 0x86DD 0xFFFF 11,
   gTrans 0x8847 0xFFFF 7, gTrans 0x8848 0xFFFF 7, gTrans 0x88E5 0xFFFF 23, gTrans 0x88F7 0xFFFF 25, gTrans 0x888E 0xFFFF 27]

/-- The default states 0 to 31. -/
def defaultStates : Tbl (List Word) :=
  let stop := 0x1000000
  let rec_ := 0x100
  let unk := 0x2000
  let tag (id base dst : Nat) : List Word :=
    gState id (rec_ + unk + 0x40000) 0 0xFFFF0202 base 9 stop ((if dst = 0 then [] else [(0, 2, dst)]) ++ [(2, 2, 24)])
  [ (0, gState 1 (rec_ + unk + 0xE0000) 0 0xFFFF020C 0 9 stop [(0, 6, 8), (6, 6, 14), (12, 2, 24)]),
    (1, tag 2 9 20), (2, tag 3 9 20), (3, tag 2 18 22), (4, tag 3 18 22), (5, tag 2 18 0), (6, tag 3 18 0),
    (7, gState 0x0D (rec_ + 0x40000) 0 0x00010102 27 1 (8 * 65536) [(0, 4, 14)]),
    (8, gState 0x0D (rec_ + 0x40000) 0 0x00010102 27 1 (8 * 65536) []),
    (9, gState 0 0 0 0x00F00100 28 2 stop []),
    (10, [0x00000704#32, 0x00100F00#32, 0x00FF0109#32, 0x81001440#32, 0x001B0101#32, 0x001A0109#32, 0x002C040C#32, 0x003C0410#32]),
    (11, gState 5 (rec_ + 0x800 + 0x280000) 0 0x00FF0106 0x48 9 stop [(6, 1, 26), (0, 1, 27), (8, 32, 32)] ++ [1#32]),
    (12, gState 6 rec_ 0x0818FF01 0x00FF0100 0x48 9 stop [(0, 1, 26)]),
    (13, gState 7 rec_ 0x0818FF01 0x00FF0100 0x48 9 stop [(0, 1, 26)]),
    (14, gState 8 (rec_ + 0xC00 + 0x80000) 0 0x00FF0100 0x48 9 stop [(0, 1, 26)]),
    (15, gState 9 rec_ 0x0818FF01 0x00FF0100 0x48 9 stop [(0, 1, 26)]),
    (16, gState 0x0A (rec_ + 0x1000) 0x0014F00C 0 0 0 stop [(0, 4, 28)]),
    (17, gState 0x0B (rec_ + 0x1400 + 0x80000) 0 0xFFFF0202 0x58 4 stop [(0, 4, 28)]),
    (18, gState 0x0C (rec_ + 0x40000) 0 0 0 0 stop [(0, 1, 28), (1, 1, 29)]),
    (19, gState 0x0F (rec_ + 0x80000) 0 0 0 0 stop [(0, 4, 28)]),
    (20, gState 0x10 (rec_ + 0x40000) 0 0x00A00100 0x60 2 stop []),
    (21, gState 0 0x40000 0 0 0 0 stop [(0, 4, 28)]),
    (22, gState 0 0x80000 0 0 0 0 stop [(4, 4, 28)]),
    (23, gState 0x0E (rec_ + 0x60000) 0 0x00200100 0x62 1 stop []),
    (24, gState 0 0x80000 0 0 0 0 stop [(0, 8, 32)]),
    (25, gState 0x11 (rec_ + 0x220000) 0 0 0 0 stop [(0, 1, 26)]),
    (26, gState 0x11 (rec_ + 0x220000) 0 0 0 0 stop []),
    (27, gState 0x12 (rec_ + 0x40000) 0 0 0 0 stop []),
    (28, gState 0 0 0 0xFFFF0200 0x63 1 (19 * 65536) []),
    (29, gState 0 0 0 0xFFFF0202 0x64 1 (19 * 65536) []) ]

/-- The default transitions 0 to 127. -/
def defaultTrans : Tbl (List Word) :=
  let at_ (b : Nat) (l : List (List Word)) : Tbl (List Word) := (List.range l.length).zip l |>.map fun e => (b + e.1, e.2)
  at_ 0 (gEther 1 2) ++ at_ 9 (gEther 3 4) ++ at_ 18 (gEther 5 6)
    ++ at_ 27 [gTrans 1 1 9, gTrans 0x40 0xF0 10, gTrans 0x60 0xF0 11]
    ++ at_ 0x40 [gTrans 6 0xFF 16, gTrans 17 0xFF 17, gTrans 47 0xFF 20, gTrans 50 0xFF 19, gTrans 1 0xFF 18]
    ++ at_ 0x48 [gTrans 6 0xFF 16, gTrans 17 0xFF 17, gTrans 47 0xFF 20, gTrans 50 0xFF 19, gTrans 58 0xFF 18,
        gTrans 0 0xFF 12, gTrans 43 0xFF 13, gTrans 44 0xFF 14, gTrans 60 0xFF 15]
    ++ at_ 0x58 [gTrans 500 0xFFFF 256, gTrans 4500 0xFFFF 28, gTrans 319 0xFFFF 26, gTrans 320 0xFFFF 26]
    ++ at_ 0x60 [gTrans 0x20 0xA0 21, gTrans 0xA0 0xA0 22] ++ at_ 0x62 [gTrans 0x20 0x20 24]
    ++ at_ 0x63 [gTrans 0 0xFFFF 29] ++ at_ 0x64 [gTrans 0 0xFFFF 256]

/-- The default exception table (R148, R147). -/
def defaultExcept : List Word :=
  [0#32, 0x1600#32, 0x1001#32, 0x1100#32, 0x1200#32, 0x1301#32, 0x1401#32, 0x1501#32, 0x1800#32, 0x1701#32,
   0#32, 0#32, 0#32, 0#32, 0#32, 0xFFFFF#32]

/-- The register arrays of the initial epoch (R147, R183, R210, R232). -/
def initialArrays : Arrays :=
  { states := defaultStates, trans := defaultTrans, except := defaultExcept, map := List.replicate 16 0#32 }

/-! ## Fragment table (R154 to R159) -/

/-- Set of a key. -/
def fragSet (key : Bytes) : Nat := Config.fragHash key % 4096

/-- The entry of a key, with its place in the table. -/
def State.fragFind (s : State) (v6 : Bool) (key : Bytes) : Option (Nat × FragEnt) :=
  ((List.range 4).filterMap fun w =>
    let i := 4 * fragSet key + w
    (Tbl.look s.frag.table i).bind fun e => guardO (e.v6 == v6 && e.key == key) (i, e)).head?

/-- The key an entry and a held fragment go by: the family, and bytes 0 to 36 of the entry. -/
def fragTag (v6 : Bool) (key : Bytes) : Bytes := by8 (b2n v6) :: key

/-- The place of the entry a first fragment created, while it still holds that fragment's key. -/
def State.fragOwn (s : State) (p : Pkt) : Option Nat :=
  p.fragKey.bind fun (x : Nat × Bytes) => (Tbl.look s.frag.table x.1).bind fun e => guardO (fragTag e.v6 e.key == x.2) x.1

/-- Count one of FIRST_CREATED, FRAG_MATCHED, FRAG_DUP_FIRST, FRAG_HELD, FRAG_RELEASED, FRAG_ORPHAN, FRAG_HOLD_FULL, FRAG_TABLE_FULL, AGED, LIFETIME_EXPIRED. -/
def State.fragCount (s : State) (i : Nat) : State := s.fragM fun f => { f with counts := updAt f.counts i sat32 }

/-- Create the entry of a first fragment, which keeps its epoch live; none when the set is full. -/
def State.fragCreate (s : State) (p : Pkt) (k : Walk) : Option Nat × State :=
  match (List.range 4).find? fun w => !Tbl.has s.frag.table (4 * fragSet k.key.2 + w) with
  | none => (none, s.fragCount 7)
  | some w =>
    let i := 4 * fragSet k.key.2 + w
    let e : FragEnt := {
      v6 := k.key.1, key := k.key.2, epoch := (nth s.vin.slots p.slot {}).epoch, slot := p.slot, origin := p.origin
      lastSeen := !k.more, created := s.time.record.t, lastUse := s.time.record.t, fragments := 1 }
    (some i, ((s.fragM fun f => { f with table := Tbl.put f.table i e }).slotM p.slot fun x => { x with frag := x.frag + 1 }).fragCount 0)

/-- Remove an entry; its epoch is let go. -/
def State.fragRemove (s : State) (i : Nat) : State :=
  match Tbl.look s.frag.table i with
  | none => s
  | some e => (s.fragM fun f => { f with table := Tbl.del f.table i }).slotM e.slot fun x => { x with frag := x.frag - 1 }

/-! ## Class 0x02 -/

/-- PARSE_INFO (R163). -/
def parseInfo (c : Packet) (s : State) : Res := checks [objZero c] (.data (s.parse.counts.map wd) s)

/-- PARSE_STATE_SET (R142, R161). -/
def parseStateSet (c : Packet) (s : State) : Res :=
  let w3 := c.w 3
  let ext (n : Nat) : List (Bool × Status × Nat) :=
    let w := c.w (4 + n)
    let d := w.fld 21 16
    [fieldIs (4 + n) 16 (w.fld 13 8 == 0 || (decide (8 ≤ d) && decide (d + w.fld 13 8 ≤ 64)))]
  checks ([(decide (c.obj < 256), .badParam, 8),
      reserved c 0 0xFF3FFF, reserved c 1 0xFF3FFFFF, reserved c 2 0xFFFF03FF, reserved c 3 0x81FF7FFF,
      reserved c 4 0x3F3FFF, reserved c 5 0x3F3FFF, reserved c 6 0x3F3FFF, reserved c 7 0x3F3FFF,
      within c 0 12 10 0 5, within c 2 9 8 0 2, fieldIs 3 0 (decide (w3.fld 14 10 > 16 ∨ w3.fld 9 0 + w3.fld 14 10 ≤ 1024)),
      within c 3 14 10 0 16] ++ (List.range 4).flatMap ext)
    (.ok (s.stagedM fun a => { a with states := Tbl.put a.states c.obj (c.params.take 9) }))

/-- PARSE_TRANS_SET (R143, R161). -/
def parseTransSet (c : Packet) (s : State) : Res :=
  checks [(decide (c.obj < 1024), .badParam, 8), reserved c 1 0x3FF]
    (.ok (s.stagedM fun a => { a with trans := Tbl.put a.trans c.obj (c.params.take 2) }))

/-- Put a whole exception table into the open vintage, with the references of its queues (R387). -/
def State.stageExcept (s : State) (ws : List Word) : State :=
  match s.vin.vint with
  | none => s
  | some v =>
    let old := v.arrays.except
    let s := s.refsOfExcept false (if old = s.curSlot.arrays.except then some v.n else none) old
    (s.refsOfExcept true none ws).stagedM fun a => { a with except := ws }

/-- PARSE_EXCEPT_SET (R150, R161). -/
def parseExceptSet (c : Packet) (s : State) : Res :=
  checks ([(c.obj == 0, .badParam, 8)]
      ++ (List.range 10).map (fun i => reserved c i 0xFFFFFF03) ++ reservedWords c 10 5 ++ [reserved c 15 0xFFFFF,
      fieldIs 0 0 ((c.w 0).fld 1 0 == 0)]
      ++ (List.range 10).map (fun i => within c i 1 0 0 2))
    (.ok (s.stageExcept (c.params.take 16)))

/-- PARSE_DEFAULT_LOAD (R147, R161). -/
def parseDefaultLoad (c : Packet) (s : State) : Res :=
  checks [(c.obj == 0, .badParam, 8)]
    (.ok (s.stagedM fun a => { a with states := defaultStates, trans := defaultTrans }))

/-- PARSE_READ (R163). -/
def parseRead (c : Packet) (s : State) : Res :=
  let kind := c.objectId.fld 31 30
  let i := c.objectId.fld 9 0
  let limit := nth [256, 1024, 1] kind 0
  checks [(c.objectId.fld 29 10 == 0 && kind != 3, .badParam, 8), (decide (i < limit), .notFound, 0), reserved c 0 0xFFFF,
      ((s.arraysOf ((c.w 0).fld 15 0)).isSome, .notFound, 0)]
    (match s.arraysOf ((c.w 0).fld 15 0) with
      | some a =>
        .data (if kind = 0 then (Tbl.lookD a.states i (List.replicate 8 0#32)).take 8
          else if kind = 1 then Tbl.lookD a.trans i [0#32, 0#32] else a.except) s
      | none => .fail .notFound 0)

/-- A flow queue belongs to port node 64. -/
def State.hostQueueOk (s : State) (q : Nat) : Bool := s.queuePort q == some 64

/-- FRAG_CONFIG (R164). -/
def fragConfig (c : Packet) (s : State) : Res :=
  let h := (c.w 0).fld 16 0
  let toHost := (c.w 1).bit 0
  let q := (c.w 1).fld 31 16
  checks [objZero c, reserved c 0 0x1FFFF, reserved c 1 0xFFFF0001, reserved c 2 1,
      fieldIs 0 0 (h == 0 || (decide (100 ≤ h) && decide (h ≤ 100000))),
      (!toHost || s.hostQueueOk q, .conflict, 0)]
    (let s := if s.frag.orphanHost then s.refQueue false s.frag.orphanQueue else s
     let s := if toHost then s.refQueue true q else s
     .ok (s.fragM fun f => { f with timeoutUs := h, orphanHost := toHost, orphanQueue := q, enable := (c.w 2).bit 0 }))

/-- FRAG_STATUS (R165). -/
def fragStatus (c : Packet) (s : State) : Res :=
  let n := s.frag.held.length
  checks [objZero c]
    (.data (wd (s.frag.table.length + 65536 * n) :: wd s.frag.peak :: s.frag.counts.map wd)
      (s.fragM fun f => { f with peak := n }))

end Sys2Proof.Machine
end

