-- ==== Sys2Proof/Machine/Exact.lean ====
section
/-!
DEFINITION. Exact-match tables, prefix realms, lookup profiles and the commands of class 0x03 (R166 to R197).
-/
namespace Sys2Proof.Machine

/-! ## The flow pool (R166 to R168, R174) -/

/-- Buckets of a table. -/
def EmDef.buckets (d : EmDef) : Nat := (if d.wide then 512 else 1024) * 2 ^ d.k

/-- Slots of a table. -/
def EmDef.slots (d : EmDef) : Nat := 4 * d.buckets

/-- The slot number of a bucket and way. -/
def EmDef.slot (d : EmDef) (b w : Nat) : Nat := 4096 * d.base + (if d.wide then 8 * b + 2 * w else 4 * b + w)

/-- The slots of a bucket, in way order. -/
def EmDef.bucketSlots (d : EmDef) (b : Nat) : List Nat := (List.range 4).map (d.slot b)

/-- Does the table's run of blocks contain a slot number? -/
def EmDef.hasSlot (d : EmDef) (n : Nat) : Bool := decide (4096 * d.base ≤ n) && decide (n < 4096 * (d.base + 2 ^ d.k))

/-- Two tables' blocks overlap. -/
def EmDef.overlaps (d e : EmDef) : Bool := decide (d.base < e.base + 2 ^ e.k) && decide (e.base < d.base + 2 ^ d.k)

/-- The two candidate buckets of a key (R174). -/
def EmDef.cands (d : EmDef) (key : Bytes) : Nat × Nat :=
  (crc32c d.seed0.toNat key % d.buckets, crc32c d.seed1.toNat key % d.buckets)

/-- The key that segments draw from a key vector (R168). -/
def segKey (segs : List (Nat × Nat)) (kv : Bytes) : Bytes := segs.flatMap fun s => bytesAt kv s.1 s.2

/-- The slot is free for a new entry (R173). -/
def State.emFree (s : State) (n : Nat) : Bool :=
  match Tbl.look s.lookup.slots n with
  | none => true
  | some e => s.reclaimable e.death e.deathSet

/-- The entry of a key visible at an epoch, with its slot (R171, R175). -/
def State.emFind (s : State) (d : EmDef) (key : Bytes) (p : Nat) : Option (Nat × EmSlot) :=
  let (b0, b1) := d.cands key
  ((d.bucketSlots b0 ++ d.bucketSlots b1).filterMap fun n =>
    (Tbl.look s.lookup.slots n).bind fun e => guardO (e.key == key && visible e.birth e.death e.deathSet p) (n, e)).head?

/-- Entries standing in a table's blocks. -/
def State.emEntries (s : State) (d : EmDef) : List (Nat × EmSlot) := s.lookup.slots.filter fun e => d.hasSlot e.1

/-! ## Placement (R176) -/

/-- What the breadth-first search keeps. -/
structure Bfs where
  /-- Paths to try: the slots to displace, last first. -/
  queue : List (List Nat)
  /-- Buckets reached. -/
  seen : List Nat
  /-- Buckets read beyond the candidates. -/
  reads : Nat
deriving DecidableEq, Repr

/-- One of a key's two buckets, given the other. -/
def EmDef.other (d : EmDef) (key : Bytes) (b : Nat) : Nat :=
  let (b0, b1) := d.cands key
  if b = b0 then b1 else b0

/-- Bucket of a slot. -/
def EmDef.bucketOf (d : EmDef) (n : Nat) : Nat := (n - 4096 * d.base) / (if d.wide then 8 else 4)

/-- Search for a displacement path: the slots displaced, first to last, and the free slot it ends in. -/
def State.emSearch (s : State) (d : EmDef) : Nat → Bfs → Option (List Nat × Nat)
  | 0, _ => none
  | n + 1, q =>
    match q.queue with
    | [] => none
    | path :: rest =>
      match path with
      | [] => State.emSearch s d n { q with queue := rest }
      | last :: _ =>
        match Tbl.look s.lookup.slots last with
        | none => State.emSearch s d n { q with queue := rest }
        | some e =>
          let b := d.other e.key (d.bucketOf last)
          if q.seen.contains b || decide (128 ≤ q.reads) || decide (32 < path.length) then
            State.emSearch s d n { q with queue := rest }
          else
            match (d.bucketSlots b).find? s.emFree with
            | some f => some (path.reverse, f)
            | none =>
              State.emSearch s d n {
                queue := rest ++ (d.bucketSlots b).map (· :: path), seen := b :: q.seen, reads := q.reads + 1 }

/-- Carry out the moves of a path from its free end backward: the slot freed, and the state. -/
def State.emMoves (s : State) : List Nat → Nat → State
  | [], _ => s
  | from_ :: rest, to_ =>
    let s := s.lookupM fun k => { k with slots := match Tbl.look k.slots from_ with
      | some e => Tbl.del (Tbl.put k.slots to_ e) from_
      | none => k.slots }
    State.emMoves s rest from_

/-- Change the counts of a table. -/
def State.emCountM (s : State) (t : Nat) (f : EmCount → EmCount) : State :=
  s.lookupM fun k => { k with counts := Tbl.upd k.counts t {} f }

/-- Place a new entry: the slot written and the displacements made; none within the limits of R176. -/
def State.emPlace (s : State) (t : Nat) (d : EmDef) (e : EmSlot) : Option (Nat × Nat) × State :=
  let (b0, b1) := d.cands e.key
  let cand := d.bucketSlots b0 ++ (if b0 = b1 then [] else d.bucketSlots b1)
  let put (s : State) (n : Nat) : State := s.lookupM fun k => { k with slots := Tbl.put k.slots n e }
  match cand.find? s.emFree with
  | some n => (some (n, 0), put s n)
  | none =>
    match s.emSearch d 1024 { queue := cand.map fun n => [n], seen := [b0, b1], reads := 0 } with
    | some (path, free) =>
      let n := path.headD free
      let s := s.emMoves path.reverse free
      let m := path.length
      (some (n, m), (put s n).emCountM t fun c => { c with maxMoves := max c.maxMoves m, moved := satAdd 16 c.moved 1 })
    | none => (none, s.emCountM t fun c => { c with refused := sat32 c.refused })

/-! ## Staging (R178) -/

/-- Epoch N of the vintage in hand. -/
def State.vintN (s : State) : Nat :=
  match s.vin.vint with
  | some v => v.n
  | none => nextEpoch s.epoch

/-- The state with the refused placements of another counted: a VINT_STAGE that fails leaves nothing else behind (R192, R250). -/
def State.refusedOf (s t : State) : State :=
  s.lookupM fun k => { k with counts := t.lookup.counts.foldl (fun l e => Tbl.upd l e.1 {} fun x => { x with refused := e.2.refused }) k.counts }

/-- The entry gets death N. -/
def State.emKill (s : State) (n : Nat) (e : EmSlot) : State :=
  (s.refAct false e.action).lookupM fun k => { k with slots := Tbl.put k.slots n { e with death := s.vintN, deathSet := true } }

/-- Write a new entry of a key; NO_RESOURCE, detail 1, when it cannot be placed (R176, R190). -/
def State.emNew (s : State) (t : Nat) (d : EmDef) (key : Bytes) (action : Nat) (kill : Option (Nat × EmSlot)) : Res :=
  let e : EmSlot := { key := key, birth := s.vintN, death := 0, deathSet := false, action := action }
  match s.emPlace t d e with
  | (none, s') => .noRoom 1 s'
  | (some (n, m), s) =>
    -- the old entry is looked for again, in this table's blocks: a displacement may have moved it
    let s := match kill with
      | some (_, o) =>
        (match (s.emEntries d).find? (fun (x : Nat × EmSlot) => x.2 == o) with
          | some x => s.emKill x.1 x.2
          | none => s)
      | none => s
    .done .ok (n + 1048576 * m) [] (s.refAct true action)

/-- Words of a key: `a` the first parameter word, `n` of them. -/
def pktKey (c : Packet) (a n : Nat) : Bytes := wordsBytes ((List.range n).map fun i => c.w (a + i))

/-- Key bytes beyond key_len are zero: the offset of the first that is not. -/
def keyTail (c : Packet) (a n len : Nat) : Bool × Status × Nat :=
  match ((List.range (4 * n)).filter fun i => len ≤ i).find? fun i => byteAt (pktKey c a n) i != 0 with
  | some i => (false, .badParam, 16 + 4 * a + i)
  | none => (true, .badParam, 0)

/-- What EM_INSERT, EM_MODIFY, EM_DELETE and EM_SEARCH check of the table, the length and the key. -/
def emChecks (c : Packet) (d : Option EmDef) (a : Nat) (k : EmDef → Bytes → Res) : Res :=
  match d with
  | none => .fail .notFound 8
  | some d =>
    let n := if d.wide then 10 else 4
    if c.params.length ≠ a + n then .fail .badLength 6
    else checks [keyTail c a n d.keyLen] (k d ((pktKey c a n).take d.keyLen))

/-- EM_INSERT (R178, R190). -/
def emInsert (c : Packet) (s : State) : Res :=
  checks [objBelow c 16, reserved c 0 0xFFFFF] (emChecks c (Tbl.look s.staged.em c.obj) 1 fun d key =>
    match s.emFind d key s.vintN with
    | some (n, _) => .fail .conflict n
    | none => s.emNew c.obj d key ((c.w 0).fld 19 0) none)

/-- EM_MODIFY (R178, R190). -/
def emModify (c : Packet) (s : State) : Res :=
  checks [objBelow c 16, reserved c 0 0xFFFFF] (emChecks c (Tbl.look s.staged.em c.obj) 1 fun d key =>
    let act := (c.w 0).fld 19 0
    match s.emFind d key s.vintN with
    | none => .fail .notFound 0
    | some (n, e) =>
      if e.birth = s.vintN then
        .done .ok n [] (((s.refAct false e.action).refAct true act).lookupM fun k =>
          { k with slots := Tbl.put k.slots n { e with action := act } })
      else s.emNew c.obj d key act (some (n, e)))

/-- EM_DELETE (R178, R190). -/
def emDelete (c : Packet) (s : State) : Res :=
  checks [objBelow c 16] (emChecks c (Tbl.look s.staged.em c.obj) 0 fun d key =>
    match s.emFind d key s.vintN with
    | none => .fail .notFound 0
    | some (n, e) =>
      .ok (if e.birth = s.vintN then
          (s.refAct false e.action).lookupM fun k => { k with slots := Tbl.del k.slots n }
        else s.emKill n e))

/-- An entry is visible in a live epoch or staged for N. -/
def State.anyLive (s : State) (birth death : Nat) (deathSet : Bool) : Bool :=
  visible birth death deathSet s.vintN || s.liveSlots.any fun l => visible birth death deathSet l.2.epoch

/-- Definitions that hold blocks: staged, in a live epoch, or reserved. -/
def State.emHolders (s : State) : List (Nat × EmDef) :=
  (match s.vin.vint with
    | some v => v.arrays.em
    | none => [])
    ++ s.liveSlots.flatMap (fun l => l.2.arrays.em) ++ s.lookup.reserved.map fun r => (r.table, r.defn)

/-- Segments of EM_TABLE_DEFINE and TCAM_GROUP_DEFINE from word `a`: offset and length of each of eight. -/
def segFields (c : Packet) (a : Nat) : List (Nat × Nat) :=
  (List.range 8).map fun i =>
    let w := c.w (a + i / 2)
    if i % 2 = 0 then (w.fld 5 0, w.fld 13 8) else (w.fld 21 16, w.fld 29 24)

/-- Checks of segments from word `a`: each length at most 40, each inside the key vector, none used after an unused one. -/
def segChecks (c : Packet) (a : Nat) : List (Bool × Status × Nat) :=
  let f := segFields c a
  (List.range 8).flatMap fun i =>
    let (o, l) := nth f i (0, 0)
    let at_ := 16 + 4 * (a + i / 2) + 2 * (i % 2)
    [(l == 0 || decide (o + l ≤ 64), Status.badParam, at_), (decide (l ≤ 40), .badParam, at_ + 1),
     (l == 0 || i == 0 || (nth f (i - 1) (0, 0)).2 != 0, .badParam, at_ + 1)]

/-- The definition EM_TABLE_DEFINE carries. -/
def emDefOf (c : Packet) : EmDef :=
  { wide := (c.w 0).bit 1, keyLen := (c.w 0).fld 13 8, base := (c.w 1).fld 7 0, k := (c.w 1).fld 11 8
    seed0 := c.w 2, seed1 := c.w 3, segs := (segFields c 4).filter fun s => s.2 != 0 }

/-- The first nonzero field of EM_TABLE_DEFINE beside enable. -/
def emRest (c : Packet) : List (Bool × Status × Nat) :=
  [fieldIs 0 1 (!(c.w 0).bit 1), fieldIs 0 8 ((c.w 0).fld 13 8 == 0), fieldIs 1 0 ((c.w 1).fld 7 0 == 0),
   fieldIs 1 8 ((c.w 1).fld 11 8 == 0), fieldIs 2 0 (c.w 2 == 0#32), fieldIs 3 0 (c.w 3 == 0#32)]
    ++ (List.range 8).flatMap fun i =>
      let (o, l) := nth (segFields c 4) i (0, 0)
      let at_ := 16 + 4 * (4 + i / 2) + 2 * (i % 2)
      [(o == 0, Status.badParam, at_), (l == 0, .badParam, at_ + 1)]

/-- EM_TABLE_DEFINE (R188, R189). -/
def emTableDefine (c : Packet) (s : State) : Res :=
  let t := c.obj
  let en := (c.w 0).bit 0
  let d := emDefOf c
  let old := Tbl.look s.staged.em t
  let m : Nat := 0x3F3F3F3F
  let busy := match old with
    | some o => (s.emEntries o).any fun e => s.anyLive e.2.birth e.2.death e.2.deathSet
    | none => false
  let used := match old with
    | some o => (s.emEntries o).length
    | none => 0
  checks [objBelow c 16, reserved c 0 0x3F03, reserved c 1 0xFFF, reserved c 4 m, reserved c 5 m, reserved c 6 m, reserved c 7 m]
    (if !en then
      checks (emRest c ++ [(old.isSome, .notFound, 8), (!busy, .conflict, used)])
        (.ok (s.stagedM fun a => { a with em := Tbl.del a.em t }))
    else
      let clash := s.emHolders.find? fun h => h.1 != t && h.2.overlaps d
      checks ([(d.keyLen != 0, .badZero, 17), fieldIs 0 8 (decide (d.keyLen ≤ if d.wide then 40 else 16)
            && sumL (d.segs.map (·.2)) == d.keyLen),
          fieldIs 1 8 (decide (d.k ≤ 8 ∧ d.base + 2 ^ d.k ≤ 256)), fieldIs 3 0 (d.seed0 != d.seed1)]
          ++ segChecks c 4 ++ [(clash.isNone, .conflict, (clash.map (·.1)).getD 0),
          (!(busy && old != some d), .conflict, used)])
        (.ok (s.stagedM fun a => { a with em := Tbl.put a.em t d })))

/-! ## Reading (R191, R192) -/

/-- The words of a slot (R169, R170). -/
def EmSlot.words (e : EmSlot) (wide : Bool) : List Word :=
  bytesWords (bytesAt e.key 0 (if wide then 40 else 16) ++ leBytes 2 e.birth ++ leBytes 2 e.death
    ++ leBytes 4 (e.action + 1048576 + 2097152 * b2n e.deathSet))

/-- The words of a slot that is not in use. -/
def emZero (wide : Bool) : List Word := List.replicate (if wide then 12 else 6) 0#32

/-- EM_SEARCH (R191). -/
def emSearchCmd (c : Packet) (s : State) : Res :=
  checks [objBelow c 16, reserved c 0 0xFFFF]
    (match s.arraysOf ((c.w 0).fld 15 0) with
    | none => .fail .notFound 0
    | some a =>
      let p := if (c.w 0).fld 15 0 = 0 then s.epoch else (c.w 0).fld 15 0
      emChecks c (Tbl.look a.em c.obj) 1 fun d key =>
        match s.emFind d key p with
        | some (n, e) => .data (wd (n + 0x80000000) :: e.words d.wide) s
        | none => .data (0#32 :: emZero d.wide) s)

/-- EM_READ (R191). -/
def emRead (c : Packet) (s : State) : Res :=
  checks [objBelow c 1048576]
    (match s.emHolders.find? fun h => h.2.hasSlot c.obj with
    | none => .data (0#32 :: emZero false) s
    | some (t, d) =>
      let n := if d.wide then c.obj / 2 * 2 else c.obj
      .data (wd (t + 16 * b2n d.wide + 32) :: match Tbl.look s.lookup.slots n with
        | some e => e.words d.wide
        | none => emZero d.wide) s)

/-- EM_STATUS (R192). -/
def emStatus (c : Packet) (s : State) : Res :=
  let k := Tbl.lookD s.lookup.counts c.obj {}
  checks [objBelow c 16]
    (let (vis, used, all) := match Tbl.look s.curSlot.arrays.em c.obj with
      | some d =>
        let es := s.emEntries d
        ((es.filter fun e => visible e.2.birth e.2.death e.2.deathSet s.epoch).length, es.length, d.slots)
      | none => (0, 0, 0)
     .data [wd vis, wd used, wd all, wd k.refused, wd (k.maxMoves + 65536 * k.moved), wd k.noTable, wd k.lookups, wd k.hits]
      (s.emCountM c.obj fun k => { k with lookups := 0, hits := 0 }))

/-! ## Prefix realms (R180 to R182, R193 to R196) -/

/-- Units of a prefix. -/
def Prefix.units (x : Prefix) : Nat := if x.v6 then 4 else 1

/-- Address bits of a family. -/
def famBits (v6 : Bool) : Nat := if v6 then 128 else 32

/-- Units a realm uses. -/
def State.pfxUsed (s : State) (r : Nat) : Nat := sumL ((s.lookup.pfx.filter fun x => x.realm == r).map Prefix.units)

/-- Units in use in the store. -/
def State.pfxAll (s : State) : Nat := sumL (s.lookup.pfx.map Prefix.units)

/-- The prefix covers an address of its family. -/
def Prefix.covers (x : Prefix) (a : Nat) : Bool :=
  a / 2 ^ (famBits x.v6 - x.len) == x.addr / 2 ^ (famBits x.v6 - x.len)

/-- The longest prefix that contains an address and is visible at an epoch (R182). -/
def State.pfxFind (s : State) (r : Nat) (v6 : Bool) (a p : Nat) : Option Prefix :=
  (s.lookup.pfx.filter fun x => x.realm == r && x.v6 == v6 && x.covers a && visible x.birth x.death x.deathSet p).foldl
    (fun o x => match o with
      | some y => if y.len < x.len then some x else o
      | none => some x) none

/-- The prefix visible at an epoch with exactly this length and address. -/
def State.pfxExact (s : State) (r : Nat) (v6 : Bool) (len a p : Nat) : Option Prefix :=
  s.lookup.pfx.find? fun x => x.realm == r && x.v6 == v6 && x.len == len && x.addr == a && visible x.birth x.death x.deathSet p

/-- Checks PFX_ADD, PFX_MODIFY and PFX_DELETE share; `del` requires a zero action (R194). -/
def pfxList (c : Packet) (s : State) (del : Bool) : List (Bool × Status × Nat) :=
  let len := (c.w 0).fld 7 0
  let bs := pktKey c 2 4
  let bad := (List.range 16).find? fun i =>
    let keep := if 8 * (i + 1) ≤ len then 0 else if len ≤ 8 * i then 255 else 255 / 2 ^ (len - 8 * i)
    byteAt bs i % (keep + 1) != 0
  [objBelow c 16, reserved c 0 0x1FF, reserved c 1 0xFFFFF, fieldIs 0 0 (decide (len ≤ famBits ((c.w 0).bit 8))),
    fieldIs 1 0 (!(del && (c.w 1).fld 19 0 != 0)), (bad.isNone, .badParam, 24 + bad.getD 0),
    (Tbl.has s.staged.realms c.obj, .notFound, 8)]

/-- The address a prefix command names. -/
def pfxAddr (c : Packet) : Nat := beAt (pktKey c 2 4) 0 (if (c.w 0).bit 8 then 16 else 4)

/-- A prefix command whose checks hold, with its family, length and address. -/
def pfxChecks (c : Packet) (s : State) (del : Bool) (k : Bool → Nat → Nat → Res) : Res :=
  checks (pfxList c s del) (k ((c.w 0).bit 8) ((c.w 0).fld 7 0) (pfxAddr c))

/-- Take a new prefix into the store, with NO_RESOURCE for the realm's cap and the store (R181, R194). -/
def State.pfxNew (s : State) (x : Prefix) (kill : Option Prefix) : Res :=
  let cap := Tbl.lookD s.staged.realms x.realm 0
  if cap < s.pfxUsed x.realm + x.units then .fail .noResource 1
  else if 524288 < s.pfxAll + x.units then .fail .noResource 2
  else
    let n := s.vintN
    let s := match kill with
      | some o => (s.refAct false o.action).lookupM fun k =>
          { k with pfx := k.pfx.map fun y => if y == o then { y with death := n, deathSet := true } else y }
      | none => s
    let s := (s.refAct true x.action).lookupM fun k => { k with pfx := k.pfx ++ [x] }
    .done .ok (s.pfxUsed x.realm) [] s

/-- PFX_ADD (R194). -/
def pfxAdd (c : Packet) (s : State) : Res :=
  pfxChecks c s false fun v6 len a =>
    match s.pfxExact c.obj v6 len a s.vintN with
    | some _ => .fail .conflict 0
    | none =>
      s.pfxNew { realm := c.obj, v6 := v6, len := len, addr := a, birth := s.vintN, death := 0, deathSet := false
                 action := (c.w 1).fld 19 0 } none

/-- PFX_MODIFY (R194). -/
def pfxModify (c : Packet) (s : State) : Res :=
  pfxChecks c s false fun v6 len a =>
    let act := (c.w 1).fld 19 0
    match s.pfxExact c.obj v6 len a s.vintN with
    | none => .fail .notFound 0
    | some o =>
      if o.birth = s.vintN then
        .done .ok (s.pfxUsed c.obj) [] (((s.refAct false o.action).refAct true act).lookupM fun k =>
          { k with pfx := k.pfx.map fun y => if y == o then { y with action := act } else y })
      else s.pfxNew { o with birth := s.vintN, death := 0, deathSet := false, action := act } (some o)

/-- PFX_DELETE (R194). -/
def pfxDelete (c : Packet) (s : State) : Res :=
  pfxChecks c s true fun v6 len a =>
    match s.pfxExact c.obj v6 len a s.vintN with
    | none => .fail .notFound 0
    | some o =>
      let n := s.vintN
      let s := (s.refAct false o.action).lookupM fun k => { k with
        pfx := if o.birth = n then k.pfx.filter (· != o)
          else k.pfx.map fun y => if y == o then { y with death := n, deathSet := true } else y }
      .done .ok (s.pfxUsed c.obj) [] s

/-- PFX_REALM_DEFINE (R193). -/
def pfxRealmDefine (c : Packet) (s : State) : Res :=
  let en := (c.w 0).bit 31
  let u := (c.w 0).fld 19 0
  let holds := s.lookup.pfx.any fun x => x.realm == c.obj && s.anyLive x.birth x.death x.deathSet
  checks [objBelow c 16, reserved c 0 0x800FFFFF, (!(en && u == 0), .badZero, 16),
      fieldIs 0 0 (if en then decide (u ≤ 524288) else u == 0),
      (en || Tbl.has s.staged.realms c.obj, .notFound, 8), (en || !holds, .conflict, 0)]
    (.ok (s.stagedM fun a => { a with realms := if en then Tbl.put a.realms c.obj u else Tbl.del a.realms c.obj }))

/-- PFX_SEARCH (R195). -/
def pfxSearchCmd (c : Packet) (s : State) : Res :=
  let e := (c.w 0).fld 15 0
  let v6 := (c.w 0).bit 16
  let exact := (c.w 0).bit 17
  let len := (c.w 0).fld 31 24
  let a := beAt (pktKey c 1 4) 0 (if v6 then 16 else 4)
  let p := if e = 0 then s.epoch else e
  checks [objBelow c 16, reserved c 0 0xFF03FFFF, fieldIs 0 24 (if exact then decide (len ≤ famBits v6) else len == 0)]
    (match s.arraysOf e with
    | none => .fail .notFound 0
    | some ar =>
      if !Tbl.has ar.realms c.obj then .fail .notFound 8
      else
        match (if exact then s.pfxExact c.obj v6 len (a / 2 ^ (famBits v6 - len) * 2 ^ (famBits v6 - len)) p else s.pfxFind c.obj v6 a p) with
        | none => .data (List.replicate 8 0#32) s
        | some x =>
          .data ([wd (x.len + 0x80000000), wd x.action, wd (x.birth + 65536 * x.death), wd (b2n x.deathSet)]
            ++ bytesWords (bytesAt (beBytes (famBits x.v6 / 8) x.addr) 0 16)) s)

/-- PFX_STATUS (R196). -/
def pfxStatus (c : Packet) (s : State) : Res :=
  let mine := s.lookup.pfx.filter fun x => x.realm == c.obj
  checks [objBelow c 16]
    (.data [wd (s.pfxUsed c.obj), wd (mine.filter fun x => !x.v6).length, wd (mine.filter fun x => x.v6).length,
        wd (524288 - s.pfxAll), wd (Tbl.lookD s.lookup.pfxLookups c.obj 0), wd (Tbl.lookD s.lookup.pfxHits c.obj 0)]
      (s.lookupM fun k => { k with pfxLookups := Tbl.del k.pfxLookups c.obj, pfxHits := Tbl.del k.pfxHits c.obj }))

/-! ## Profiles (R183, R184, R197) -/

/-- LOOKUP_PROFILE_SET (R197). -/
def lookupProfileSet (c : Packet) (s : State) : Res :=
  checks [objBelow c 16, reserved c 0 0x8F8F8F8F, reserved c 1 0xFFFF018F]
    (.ok (s.stagedM fun a => { a with profiles := Tbl.put a.profiles c.obj (c.params.take 2) }))

/-- LOOKUP_MAP_SET (R197). -/
def lookupMapSet (c : Packet) (s : State) : Res :=
  checks [objZero c] (.ok (s.stagedM fun a => { a with map := c.params.take 16 }))

/-- The profile a map entry names. -/
def Arrays.mapEntry (a : Arrays) (i : Nat) : Nat := (nth a.map (i / 8) 0#32).fld (4 * (i % 8) + 3) (4 * (i % 8))

/-- The profile of a pass (R183). -/
def Arrays.profileOf (a : Arrays) (p : Pkt) : Nat := a.mapEntry (32 * p.pass + 16 * b2n p.cipherSide + p.origin)

/-- The two words of a profile. -/
def Arrays.profile (a : Arrays) (i : Nat) : Word × Word :=
  match Tbl.look a.profiles i with
  | some [x, y] => (x, y)
  | _ => (0#32, 0#32)

/-- Search i of a pass, EM0 to EM3: the action of a hit, with its counts (R175, R177, R185). -/
def State.emPass (s : State) (a : Arrays) (x : Word) (kv : Bytes) (p i : Nat) : Option Nat × State :=
  if !x.bit (8 * i + 7) then (none, s)
  else
    let t := x.fld (8 * i + 3) (8 * i)
    match Tbl.look a.em t with
    | none => (none, s.emCountM t fun k => { k with noTable := sat32 k.noTable })
    | some d =>
      let r := s.emFind d (segKey d.segs kv) p
      (r.map (·.2.action), ((s.perfLookup 0x10 1).perfLookup 0x11 (b2n r.isSome)).emCountM t fun k => { k with lookups := sat32 k.lookups, hits := satAdd 32 k.hits (b2n r.isSome) })

/-- Search PFX of a pass: the action of a hit and the matched length (R184, R185). -/
def State.pfxPass (s : State) (a : Arrays) (y : Word) (k : Walk) (p : Nat) : Option (Nat × Nat) × State :=
  if !y.bit 7 then (none, s)
  else
    let r := y.fld 3 0
    let v4 := y.fld 23 16
    let v6 := y.fld 31 24
    match (k.hdrs.filter fun h => h.1 == v4 || h.1 == v6).getLast? with
    | none => (none, s)
    | some h =>
      let six := h.1 != v4
      let src := y.bit 8
      let ad := if six then beAt k.kv (if src then 32 else 48) 16 else beAt k.kv (if src then 44 else 60) 4
      if !Tbl.has a.realms r then (none, s)
      else
        let x := s.pfxFind r six ad p
        (x.map fun (y : Prefix) => (y.action, y.len), (s.perfLookup 0x12 1).lookupM fun l => { l with
          pfxLookups := Tbl.upd l.pfxLookups r 0 sat32
          pfxHits := Tbl.upd l.pfxHits r 0 fun n => satAdd 32 n (b2n x.isSome) })

end Sys2Proof.Machine
end

