-- ==== Sys2Proof/Machine/Tcam.lean ====
section
/-!
DEFINITION. The associative search banks: candidates, verification, group searches, scrubbing and repair, and the commands of class 0x04 (R198 to R227).
-/
namespace Sys2Proof.Machine

/-! ## Rows, cells and entries (R198 to R203) -/

/-- Units of a width code. -/
def tcamUnits (wc : Nat) : Nat := 2 ^ wc

/-- Width code of a bank (R200). -/
def Tcam.widthOf (t : Tcam) (bank : Nat) : Nat := Tbl.lookD t.widths bank 0

/-- Head row of the entry a row belongs to. -/
def Tcam.headOf (t : Tcam) (row : Nat) : Nat := row / tcamUnits (t.widthOf (row / 2048)) * tcamUnits (t.widthOf (row / 2048))

/-- Cells as the shadow has them for a row. -/
def Tcam.shadowCells (t : Tcam) (row : Nat) : TcamCells :=
  let h := t.headOf row
  match Tbl.look t.ents h with
  | some e => { valid := true, key := bytesAt e.key (20 * (row - h)) 20, mask := bytesAt e.mask (20 * (row - h)) 20 }
  | none => { valid := false, key := List.replicate 20 0#8, mask := List.replicate 20 0#8 }

/-- Cells of a row in replica B, or A. -/
def Tcam.cells (t : Tcam) (b : Bool) (row : Nat) : TcamCells :=
  match Tbl.look (if b then t.diffB else t.diffA) row with
  | some c => c
  | none => t.shadowCells row

/-- Every bit whose mask bit is 1 equals the search key's (R201). -/
def ternMatch (key mask search : Bytes) : Bool :=
  (List.zip (List.zip key mask) search).all fun x => (x.1.1 ^^^ x.2) &&& x.1.2 == 0#8

/-- The array of a replica reports a match of the entry at a head row: all units match and all rows are valid (R199). -/
def Tcam.hits (t : Tcam) (b : Bool) (head : Nat) (key : Bytes) : Bool :=
  (List.range (tcamUnits (t.widthOf (head / 2048)))).all fun u =>
    let c := t.cells b (head + u)
    c.valid && ternMatch c.key c.mask (bytesAt key (20 * u) 20)

/-- Head rows of a bank at which a replica can match, rising: those of entries and of rows that differ. -/
def Tcam.heads (t : Tcam) (b : Bool) (bank : Nat) : List Nat :=
  let mine := fun (r : Nat) => r / 2048 == bank
  let hs := (Tbl.keys (if b then t.diffB else t.diffA)).filter mine
  let extra := (hs.map t.headOf).eraseDups.filter fun h => !Tbl.has t.ents h
  sortNat ((Tbl.keys t.ents).filter mine ++ extra)

/-- Banks of a group in the order of R211. -/
def TcamGroup.order (g : TcamGroup) : List Nat :=
  (List.range 16).flatMap fun p => (setBits 64 g.banks).filter fun b => nth g.prio b 0 == p

/-- Candidates of a replica in the order of R211. -/
def Tcam.candidates (t : Tcam) (b : Bool) (g : TcamGroup) (key : Bytes) : List Nat :=
  g.order.flatMap fun bank => (t.heads b bank).filter fun h => t.hits b h key

/-! ## Shadow records (R202) -/

/-- The 32 bytes of a unit's trits: 0 where the mask bit is 0, 1 for a key bit of 0, 2 for a key bit of 1, five to a byte. -/
def trits (key mask : Bytes) : Bytes :=
  let t (n : Nat) : Nat := if nbit (byteAt mask (n / 8)) (n % 8) then 1 + b2n (nbit (byteAt key (n / 8)) (n % 8)) else 0
  (List.range 32).map fun j => by8 (sumL ((List.range 5).map fun m => t (5 * j + m) * 3 ^ m))

/-- The shadow record of a row, 40 bytes; the head unit holds the action, the epochs and death_set. -/
def Tcam.record (t : Tcam) (row : Nat) : Bytes :=
  let h := t.headOf row
  match Tbl.look t.ents h with
  | none => List.replicate 40 0#8
  | some e =>
    let u := row - h
    let head (n : Nat) : Nat := if u = 0 then n else 0
    trits (bytesAt e.key (20 * u) 20) (bytesAt e.mask (20 * u) 20)
      ++ leBytes 3 (head e.action + 1048576 + 2097152 * head (b2n e.deathSet) + 4194304 * e.width)
      ++ [by8 u] ++ leBytes 2 (head e.birth) ++ leBytes 2 (head e.death)

/-- The trits of a record agree with 20 bytes of a search key: each that is not 0 equals the key's bit. -/
def tritsMatch (r key : Bytes) : Bool :=
  (List.range 160).all fun n =>
    let t := byteAt r (n / 5) / 3 ^ (n % 5) % 3
    t == 0 || (t == 2) == nbit (byteAt key (n / 8)) (n % 8)

/-- The shadow verifies a candidate: every unit's record is valid, of the bank's width and in its own position, and its trits agree with the key (R215). -/
def Tcam.verified (t : Tcam) (head : Nat) (key : Bytes) : Bool :=
  let wc := t.widthOf (head / 2048)
  (List.range (tcamUnits wc)).all fun u =>
    let r := t.record (head + u)
    nbit (byteAt r 34) 4 && byteAt r 34 / 64 == wc && byteAt r 35 == u && tritsMatch r (bytesAt key (20 * u) 20)

/-- Capture address of a row: bank × 65,536 + row (R560). -/
def tcamAddr (row : Nat) : Nat := row / 2048 * 65536 + row % 2048

/-- Count a device count of R227. -/
def State.tcamCount (s : State) (i : Nat) : State := s.tcamM fun t => { t with device := updAt t.device i sat32 }

/-- Change the counts of a group. -/
def State.tcamGroupM (s : State) (g : Nat) (f : TcamCount → TcamCount) : State :=
  s.tcamM fun t => { t with counts := Tbl.upd t.counts g {} f }

/-! ## Shadow reads (R218) -/

/-- An entry whose shadow record has a double-bit error is lost in every epoch. -/
def State.tcamLose (s : State) (head master access : Nat) : State :=
  let s := match Tbl.look s.tcam.ents head with
    | some e => if e.deathSet then s else s.refAct false e.action
    | none => s
  ((s.tcamClear head).tcamCount 5).fault 0x45 master access (tcamAddr head) 0

/-- Read the shadow records of some rows: words with a single-bit error are corrected and written back; false when the entry was lost to a double-bit error. -/
def State.tcamShadow (s : State) (head : Nat) (rows : List Nat) (master access : Nat) : Bool × State :=
  let bad := s.tcam.shadowErr.filter fun e => rows.contains (e.1 / 8)
  if bad.any fun e => decide (2 ≤ e.2) then (false, s.tcamLose head master access)
  else
    (true, bad.foldl (fun s e =>
      ((s.tcamM fun t => { t with shadowErr := Tbl.del t.shadowErr e.1 }).tcamCount 4).fault 0x44 master access (tcamAddr (e.1 / 8)) 0) s)

/-- Queue a row for repair in a replica (R216). -/
def State.tcamQueue (s : State) (b : Bool) (row : Nat) : State :=
  let q := if b then s.tcam.repairB else s.tcam.repairA
  if q.contains row then s
  else if 64 ≤ q.length then s.tcamCount 6
  else s.tcamM fun t => if b then { t with repairB := q ++ [row] } else { t with repairA := q ++ [row] }

/-- An event of the slice a requester code names (R544). -/
def State.sliceEv (s : State) (master ev : Nat) : State :=
  if 0x30 ≤ master ∧ master ≤ 0x37 then s.perf (16 + 2 * (master - 0x30)) ev 1 else s

/-- A row of the entry at a head row was committed from the staging buffer in the last 32 core clocks (R207). -/
def State.tcamRecent (s : State) (head : Nat) : Bool :=
  (s.tcam.rowsAt head).any fun r => match Tbl.look s.tcam.commits r with
    | some k => decide (s.time.core ≤ k + 32)
    | none => false

/-- A candidate that its shadow does not verify: stale, for the data path, or a false hit (R207, R215). -/
def State.tcamFalse (s : State) (b : Bool) (group head master : Nat) (data : Bool) : State :=
  if data && s.tcamRecent head then s.tcamGroupM group fun k => { k with stale := sat32 k.stale }
  else ((((s.sliceEv master 0x12).tcamCount (b2n b)).fault (0x40 + b2n b) master 5 (tcamAddr head) 0)).tcamQueue b head

/-! ## A group search of a slice (R211 to R214) -/

/-- What a search hands the action stage. -/
structure TcamHit where
  /-- Action index of the match. -/
  action : Nat
  /-- Bank. -/
  bank : Nat
  /-- Row. -/
  row : Nat
  /-- multi. -/
  multi : Bool
  /-- Steps taken, reported in MULTI mode. -/
  examined : Option Nat := none
deriving DecidableEq, Repr

/-- Examine candidates, `n` of the 16 steps at most: the match, whether the limit ended a search without one, the steps taken, and the state. -/
def State.tcamSteps (s : State) (b : Bool) (gi : Nat) (g : TcamGroup) (key : Bytes) (p master : Nat) :
    Nat → List Nat → Option TcamHit → Option TcamHit × Bool × Nat × State
  | n, [], m => (m, false, 16 - n, s)
  | 0, _ :: _, m => (m, m.isNone, 16, s)
  | n + 1, h :: rest, m =>
    let prio := nth g.prio (h / 2048) 0
    let past := match m with
      | some x => prio != nth g.prio x.bank 0
      | none => false
    let (there, s) := (s.sliceEv master 0x11).tcamShadow h (s.tcam.rowsAt h) master 5
    if past then (m, false, 16 - n, s)
    else
      if !there then State.tcamSteps s b gi g key p master n rest m
      else if !s.tcam.verified h key then State.tcamSteps (s.tcamFalse b gi h master true) b gi g key p master n rest m
      else
        match Tbl.look s.tcam.ents h with
        | none => State.tcamSteps s b gi g key p master n rest m
        | some e =>
          if !visible e.birth e.death e.deathSet p then State.tcamSteps s b gi g key p master n rest m
          else
            match m with
            | some x => State.tcamSteps s b gi g key p master n rest (some { x with multi := true })
            | none =>
              let x : TcamHit := { action := e.action, bank := h / 2048, row := h % 2048, multi := false }
              if g.multi then State.tcamSteps s b gi g key p master n rest (some x) else (some x, false, 16 - n, s)

/-- The key of a group, with its bytes beyond the segments zero (R209). -/
def TcamGroup.keyOf (g : TcamGroup) (kv : Bytes) : Bytes := bytesAt (segKey g.segs kv) 0 (20 * tcamUnits g.width)

/-- Search TCg of a pass on a slice (R210 to R214). -/
def State.tcamPass (s : State) (a : Arrays) (slice gi : Nat) (kv : Bytes) (p : Nat) : Option TcamHit × State :=
  match Tbl.look a.groups gi with
  | none => (none, s.tcamGroupM gi fun k => { k with noGroup := sat32 k.noGroup })
  | some g =>
    let b := decide (4 ≤ slice)
    let key := g.keyOf kv
    let s := (s.perfLookup 0x13 1).tcamGroupM gi fun k => { k with searches := sat32 k.searches }
    let (m, limit, steps, s) := s.tcamSteps b gi g key p (0x30 + slice) 16 (s.tcam.candidates b g key) none
    (m.map fun x => { x with examined := guardO g.multi steps }, s.tcamGroupM gi fun k => { k with
      hits := satAdd 32 k.hits (b2n m.isSome)
      multi := satAdd 32 k.multi (b2n (m.map (·.multi) == some true))
      stepLimit := satAdd 32 k.stepLimit (b2n limit) })

/-! ## Scrubbing and repair (R216, R217) -/

/-- Compare a row of one replica with the shadow. -/
def State.tcamScrubOne (s : State) (b : Bool) (row : Nat) : State :=
  if Tbl.has (if b then s.tcam.diffB else s.tcam.diffA) row && (s.tcam.cells b row != s.tcam.shadowCells row) then
    let s := s.tcamM fun t => if b then { t with diffB := Tbl.del t.diffB row } else { t with diffA := Tbl.del t.diffA row }
    (s.tcamCount (2 + b2n b)).fault (0x42 + b2n b) 0x50 6 (tcamAddr row) 0
  else s

/-- The scrubber's next row, in the modes from CONFIG to DIAGNOSTIC. -/
def State.tcamScrub (s : State) : State :=
  if 3 ≤ s.mode.mode.code ∧ s.mode.mode.code ≤ 10 then
    let r := s.tcam.scrubRow
    let h := s.tcam.headOf r
    let recent := match Tbl.look s.tcam.commits r with
      | some k => decide (s.time.core ≤ k + 32)
      | none => false
    let s := if recent then s
      else
        let (there, s) := s.tcamShadow h [r] 0x50 1
        if there then (s.tcamScrubOne false r).tcamScrubOne true r else s
    let s := s.tcamM fun t => { t with scrubRow := (r + 1) % 131072 }
    if r + 1 = 131072 then s.tcamCount 7 else s
  else s

/-- The first queued row of a replica is rewritten from the shadow, every unit of its entry; the shadow read is checked (R218). -/
def State.tcamRepair (s : State) (b : Bool) : State :=
  match (if b then s.tcam.repairB else s.tcam.repairA) with
  | [] => s
  | r :: rest =>
    let rs := s.tcam.rowsAt r
    (s.tcamShadow (s.tcam.headOf r) rs 0x50 1).2.tcamM fun t =>
      if b then { t with repairB := rest, diffB := t.diffB.filter fun e => !rs.contains e.1 }
      else { t with repairA := rest, diffA := t.diffA.filter fun e => !rs.contains e.1 }

/-! ## Commands (R220 to R227) -/

/-- An entry's object_id: bank in [21:16], row in [10:0]. -/
def entryObj (c : Packet) : Bool × Status × Nat :=
  (decide (c.obj < 4194304) && c.obj % 65536 / 2048 == 0, .badParam, 8)

/-- The row number, bank times 2,048 plus row, an object_id names. -/
def entryRow (c : Packet) : Nat := c.obj / 65536 * 2048 + c.obj % 2048

/-- Valid rows of a bank. -/
def Tcam.validRows (t : Tcam) (bank : Nat) : Nat :=
  ((Tbl.keys t.ents).filter fun r => r / 2048 == bank).length * tcamUnits (t.widthOf bank)

/-- TCAM_BANK_WIDTH (R221). -/
def tcamBankWidth (c : Packet) (s : State) : Res :=
  let wc := (c.w 0).fld 1 0
  let used := (s.liveSlots.map (·.2.arrays) ++ (s.vin.vint.map fun (v : Vintage) => v.arrays).toList).any fun a =>
    a.groups.any fun g => nbit g.2.banks c.obj
  let n := s.tcam.validRows c.obj
  checks [objBelow c 64, reserved c 0 3, fieldIs 0 0 (decide (wc < 3)), (n == 0 && !used, .conflict, n)]
    (.ok (s.tcamM fun t => { t with widths := Tbl.put t.widths c.obj wc }))

/-- The group TCAM_GROUP_DEFINE carries. -/
def tcamGroupOf (c : Packet) : TcamGroup :=
  { multi := (c.w 0).bit 1, width := (c.w 0).fld 3 2, banks := c.n 1 + 4294967296 * c.n 2
    prio := (List.range 64).map fun b => (c.w (3 + b / 8)).fld (4 * (b % 8) + 3) (4 * (b % 8))
    segs := ((List.range 16).map fun i =>
      let w := c.w (11 + i / 2)
      if i % 2 = 0 then (w.fld 5 0, w.fld 14 8) else (w.fld 21 16, w.fld 30 24)).filter fun x => x.2 != 0 }

/-- Checks of the sixteen segments of a group (R222). -/
def tcamSegChecks (c : Packet) (width : Nat) : List (Bool × Status × Nat) :=
  let seg (i : Nat) : Nat × Nat :=
    let w := c.w (11 + i / 2)
    if i % 2 = 0 then (w.fld 5 0, w.fld 14 8) else (w.fld 21 16, w.fld 30 24)
  let lens := (List.range 16).map fun i => (seg i).2
  let excess := (List.range 16).find? fun i => decide (20 * tcamUnits width < sumL (lens.take (i + 1)))
  ((List.range 16).flatMap fun i =>
    let (o, l) := seg i
    let at_ := 16 + 4 * (11 + i / 2) + 2 * (i % 2)
    [(decide (l ≤ 64), Status.badParam, at_ + 1), (l == 0 || decide (o + l ≤ 64), .badParam, at_),
     (l == 0 || i == 0 || (seg (i - 1)).2 != 0, .badParam, at_ + 1)])
    ++ [(excess.isNone, .badParam, 16 + 44 + 2 * excess.getD 0 + 1)]

/-- TCAM_GROUP_DEFINE (R222). -/
def tcamGroupDefine (c : Packet) (s : State) : Res :=
  let en := (c.w 0).bit 0
  let g := tcamGroupOf c
  let res := reserved c 0 0xF :: (List.range 8).map fun i => reserved c (11 + i) 0x7F3F7F3F
  let rest := (fieldIs 0 1 (!g.multi) :: fieldIs 0 2 (g.width == 0) :: fieldIs 1 0 (g.banks == 0) :: (List.range 16).map fun i =>
    let v := c.n (3 + i)
    (v == 0, Status.badParam, 16 + 4 * (3 + i) + ((List.range 4).find? fun k => nfld v (8 * k + 7) (8 * k) != 0).getD 0))
  let badPrio := (List.range 64).find? fun b => !nbit g.banks b && nth g.prio b 0 != 0
  let badWidth := (setBits 64 g.banks).find? fun b => s.tcam.widthOf b != g.width
  let other := s.staged.groups.find? fun x => x.1 != c.obj && (x.2.banks &&& g.banks) != 0
  checks (objBelow c 4 :: res)
    (if en then
      checks ([(g.banks != 0, .badZero, 20), fieldIs 0 2 (decide (g.width < 3)),
          (badPrio.isNone, .badParam, 28 + badPrio.getD 0 / 2)] ++ tcamSegChecks c g.width
          ++ [(badWidth.isNone, .conflict, badWidth.getD 0), (other.isNone, .conflict, 0x100 + (other.map (·.1)).getD 0)])
        (.ok (s.stagedM fun a => { a with groups := Tbl.put a.groups c.obj g }))
    else checks rest (.ok (s.stagedM fun a => { a with groups := Tbl.del a.groups c.obj })))

/-- TCAM_PROFILE_SET (R223). -/
def tcamProfileSet (c : Packet) (s : State) : Res :=
  checks [objBelow c 16, reserved c 0 0xF]
    (.ok (s.stagedM fun a => { a with tcamEn := Tbl.put a.tcamEn c.obj ((c.w 0).fld 3 0) }))

/-- A key bit under a mask bit of 0: the offset of the first byte with one. -/
def keyUnderMask (c : Packet) (w : Nat) : Bool × Status × Nat :=
  let key := pktKey c 1 (5 * w)
  let mask := pktKey c (1 + 5 * w) (5 * w)
  match (List.range (20 * w)).find? fun i => (key[i]?).getD 0#8 &&& ~~~((mask[i]?).getD 0#8) != 0#8 with
  | some i => (false, .badParam, 20 + i)
  | none => (true, .badParam, 0)

/-- The entry at a row is free at epoch N (R203). -/
def State.tcamFree (s : State) (row : Nat) : Bool :=
  match Tbl.look s.tcam.ents row with
  | none => true
  | some e => s.reclaimable e.death e.deathSet

/-- An entry of the bank with the same key and mask, visible at N (R203). -/
def State.tcamTwin (s : State) (row : Nat) (key mask : Bytes) : Option TcamEnt :=
  (s.tcam.ents.find? fun (x : Nat × TcamEnt) =>
    x.1 / 2048 == row / 2048 && x.2.key == key && x.2.mask == mask && visible x.2.birth x.2.death x.2.deathSet s.vintN).map (·.2)

/-- Bits planted by FAULT_INJECT in the shadow record a write makes, all in one of its five words, which the manual leaves open (R579). -/
def State.tcamPlant (s : State) (row : Nat) : State :=
  let (n, s) := s.takePlanted [0x44, 0x45]
  if n = 0 then s
  else s.drawn.tcamM fun t => { t with shadowErr := Tbl.put t.shadowErr (8 * row + Config.freeValue s.free % 5) n }

/-- The records of the entry at a row are read by the Vintner, under R218. -/
def State.readEntry (s : State) (row : Nat) : State := (s.tcamShadow row (s.tcam.rowsAt row) 0x10 1).2

/-- TCAM_INSERT (R205, R224). The record found at the row is read first, under R218. -/
def tcamInsert (c : Packet) (s : State) : Res :=
  let row := entryRow c
  let wc := s.tcam.widthOf (row / 2048)
  let w := tcamUnits wc
  let key := pktKey c 1 (5 * w)
  let mask := pktKey c (1 + 5 * w) (5 * w)
  let t := s.readEntry row
  let birth := match Tbl.look t.tcam.ents row with
    | some e => e.birth
    | none => 0
  checks [entryObj c, (row % w == 0, .badParam, 8), (c.params.length == 1 + 10 * w, .badLength, 6),
      reserved c 0 0xFFFFF, keyUnderMask c w]
    (if !t.tcamFree row then .done .conflict birth [] t
     else if (t.tcamTwin row key mask).isSome then .done .conflict (((t.tcamTwin row key mask).map (·.birth)).getD 0) [] t
     else
     let e : TcamEnt := { width := wc, key := key, mask := mask, birth := t.vintN, death := 0, deathSet := false
                          action := (c.w 0).fld 19 0 }
     .ok ((((t.tcamClear row).tcamM fun t => { t with ents := Tbl.put t.ents row e }).tcamPlant row).refAct true e.action))

/-- TCAM_DELETE (R205, R224). The entry's records are read first, under R218. -/
def tcamDelete (c : Packet) (s : State) : Res :=
  let row := entryRow c
  let w := tcamUnits (s.tcam.widthOf (row / 2048))
  let t := s.readEntry row
  checks [entryObj c, (row % w == 0, .badParam, 8)]
    (match Tbl.look t.tcam.ents row with
    | none => .done .notFound 0 [] t
    | some e =>
      if !visible e.birth e.death e.deathSet t.vintN then .done .notFound 0 [] t
      else
        let u := t.refAct false e.action
        .ok (if e.birth = t.vintN then u.tcamClear row
          else (u.tcamM fun k => { k with ents := Tbl.put k.ents row { e with death := t.vintN, deathSet := true } }).tcamPlant row))

/-- Every row of an entry equals the shadow in a replica. -/
def Tcam.same (t : Tcam) (b : Bool) (head : Nat) : Bool := (t.rowsAt head).all fun r => t.cells b r == t.shadowCells r

/-- TCAM_READ (R225). -/
def tcamRead (c : Packet) (s : State) : Res :=
  checks [entryObj c]
    (let row := entryRow c
     let h := s.tcam.headOf row
     let wc := s.tcam.widthOf (row / 2048)
     let w := tcamUnits wc
     let (_, s) := s.tcamShadow h (s.tcam.rowsAt h) 0x10 1
     let t := s.tcam
     let st := b2n (t.same false h) + 2 * b2n (t.same true h) + 4 * b2n (t.repairA.contains h || t.repairB.contains h)
     let w0 := wd (h / 2048 + 65536 * (h % 2048) + 268435456 * wc)
     match Tbl.look t.ents h with
     | some e =>
       .data ([w0] ++ bytesWords ((t.record h).drop 32) ++ [wd st]
         ++ bytesWords e.key ++ bytesWords e.mask) s
     | none => .data ([w0, 0#32, 0#32, wd st] ++ List.replicate (10 * w) 0#32) s)

/-- The position of a row in the order of R211. -/
def TcamGroup.rank (g : TcamGroup) (row : Nat) : Nat := nth g.prio (row / 2048) 0 * 131072 + row

/-- Report matches of TCAM_SEARCH: words of each, whether more follow, at most `n`. -/
def State.tcamReport (s : State) (gi : Nat) (g : TcamGroup) (key : Bytes) (p : Nat) (all : Bool) (ca cb : List Nat) :
    Nat → List Nat → List Word → List Word × Bool × State
  | _, [], acc => (acc, false, s)
  | n, h :: rest, acc =>
    let (there, s) := s.tcamShadow h (s.tcam.rowsAt h) 0x10 5
    if !there then State.tcamReport s gi g key p all ca cb n rest acc
    else
      let v := s.tcam.verified h key
      let s := if v then s
        else
          let s := if ca.contains h then s.tcamFalse false gi h 0x10 false else s
          if cb.contains h then s.tcamFalse true gi h 0x10 false else s
      let e := (Tbl.look s.tcam.ents h).getD
        { width := 0, key := [], mask := [], birth := 0, death := 0, deathSet := false, action := 0 }
      let vis := Tbl.has s.tcam.ents h && visible e.birth e.death e.deathSet p
      if all || (v && vis) then
        match n with
        | 0 => (acc, true, s)
        | n + 1 =>
          let a := wd (h / 2048 + 65536 * (h % 2048) + 268435456 * b2n vis + 536870912 * b2n v
            + 1073741824 * b2n (ca.contains h) + 2147483648 * b2n (cb.contains h))
          State.tcamReport s gi g key p all ca cb n rest
            (acc ++ [a, wd (e.action + 1048576 * b2n e.deathSet), wd (e.birth + 65536 * e.death)])
      else State.tcamReport s gi g key p all ca cb n rest acc

/-- The arrays TCAM_SEARCH names: of a live epoch, or as staged for the open vintage's. -/
def State.tcamArrays (s : State) (e : Nat) : Option Arrays :=
  match s.arraysOf e with
  | some a => some a
  | none => (s.openVint.filter fun (v : Vintage) => v.n == e).map fun (v : Vintage) => v.arrays

/-- TCAM_SEARCH (R226). -/
def tcamSearch (c : Packet) (s : State) : Res :=
  let e := (c.w 0).fld 15 0
  let p := if e = 0 then s.epoch else e
  checks [objBelow c 4, reserved c 0 0x1FFFF, reserved c 1 0x87FF003F, reserved c 2 0x7F,
      nonZero c 2 6 0, within c 2 6 0 1 64]
    (match s.tcamArrays e with
    | none => .fail .notFound 0
    | some a =>
      match Tbl.look a.groups c.obj with
      | none => .fail .notFound 8
      | some g =>
        let w := tcamUnits g.width
        if c.params.length ≠ 3 + 5 * w then .fail .badLength 6
        else
          let key := pktKey c 3 (5 * w)
          let ca := s.tcam.candidates false g key
          let cb := s.tcam.candidates true g key
          let from_ := g.rank ((c.w 1).fld 5 0 * 2048 + (c.w 1).fld 26 16)
          let hs := (g.order.flatMap fun b => sortNat ((ca ++ cb.filter fun h => !ca.contains h).filter fun h => h / 2048 == b)).filter fun h => !(c.w 1).bit 31 || decide (from_ < g.rank h)
          let (ws, more, s) := s.tcamReport c.obj g key p ((c.w 0).bit 16) ca cb ((c.w 2).fld 6 0) hs []
          .data (wd (ws.length / 3 + 2147483648 * b2n more) :: ws) s)

/-- TCAM_STATUS (R227). -/
def tcamStatus (c : Packet) (s : State) : Res :=
  let k := Tbl.lookD s.tcam.counts c.obj {}
  checks [objBelow c 5]
    (if c.obj = 4 then .data (s.tcam.device.map wd) s
    else .data [wd k.searches, wd k.hits, wd k.multi, wd k.stepLimit, wd k.stale, wd k.noGroup]
      (s.tcamGroupM c.obj fun k => { k with searches := 0, hits := 0 }))

end Sys2Proof.Machine
end

