-- ==== Sys2Proof/Machine/Rewrite.lean ====
section
/-!
DEFINITION. The edits of the action stage, on a frame and its header list (R262 to R264).
-/
namespace Sys2Proof.Machine

/-- A frame under edit. -/
structure Edit where
  /-- The bytes without FCS. -/
  b : Bytes
  /-- The header list: header_id and offset, in order. -/
  hl : List (Nat × Nat)
  /-- Edits skipped for an absent header. -/
  skipped : Nat := 0
  /-- The TTL or hop limit expired (R263). -/
  expired : Bool := false
deriving DecidableEq, Repr

/-- Insert bytes at an offset; headers from there on move. -/
def Edit.insert (e : Edit) (at_ : Nat) (v : Bytes) : Edit :=
  { e with b := e.b.take at_ ++ v ++ e.b.drop at_, hl := e.hl.map fun h => if at_ ≤ h.2 then (h.1, h.2 + v.length) else h }

/-- Remove bytes at an offset, with the headers that start inside; those after move. -/
def Edit.remove (e : Edit) (at_ n : Nat) : Edit :=
  { e with
    b := e.b.take at_ ++ e.b.drop (at_ + n)
    hl := (e.hl.filter fun h => decide (h.2 < at_) || decide (at_ + n ≤ h.2)).map fun h =>
      if at_ + n ≤ h.2 then (h.1, h.2 - n) else h }

/-- Replace bytes in place. -/
def Edit.set (e : Edit) (at_ : Nat) (v : Bytes) : Edit := { e with b := bytesSet e.b at_ v }

/-- List a header at its place in the order of offsets. -/
def Edit.list (e : Edit) (id at_ : Nat) : Edit :=
  { e with hl := (e.hl.filter fun h => decide (h.2 < at_)) ++ (id, at_) :: e.hl.filter fun h => decide (at_ ≤ h.2) }

/-- Count an edit that names an absent header. -/
def Edit.skip (e : Edit) : Edit := { e with skipped := e.skipped + 1 }

/-- VLAN tags, outer first: the offset of each TCI. -/
def Edit.tags (e : Edit) : List Nat := (e.hl.filter fun h => h.1 == 2 || h.1 == 3).map (·.2)

/-- The outermost IP header: IPv6 or not, and its offset. -/
def Edit.ip (e : Edit) : Option (Bool × Nat) := (e.hl.find? fun h => h.1 == 4 || h.1 == 5).map fun h => (h.1 == 5, h.2)

/-- TTL or hop limit byte of an IP header. -/
def ttlAt (v6 : Bool) (o : Nat) : Nat := o + (if v6 then 7 else 8)

/-! ## Edit 1: decapsulate (R262, R296) -/

/-- Length of an IPv6 header with its extension headers, and the next header after them. -/
def v6Chain (b : Bytes) : Nat → Nat → Nat → Nat × Nat
  | 0, nx, o => (o, nx)
  | n + 1, nx, o =>
    if nx = 0 ∨ nx = 43 ∨ nx = 60 then v6Chain b n (byteAt b o) (o + 8 * (byteAt b (o + 1) + 1)) else (o, nx)

/-- EtherType of an inner protocol number, 4 or 41. -/
def ipEther (proto : Nat) : Option Nat := if proto = 4 then some 0x0800 else if proto = 41 then some 0x86DD else none

/-- Remove the outer IP header that inbound processing kept. -/
def Edit.decap (e : Edit) (kept : Bool) : Edit :=
  if !kept then e
  else
    match e.ip with
    | none => e.skip
    | some (v6, o) =>
      let (end_, proto) := if v6 then v6Chain e.b 8 (byteAt e.b (o + 6)) (o + 40)
        else (o + 4 * (byteAt e.b o % 16), byteAt e.b (o + 9))
      match ipEther proto with
      | none => e.skip
      | some et => ((e.remove o (end_ - o)).set (o - 2) (beBytes 2 et)).list (if proto = 4 then 4 else 5) o

/-! ## Edit 2: MPLS -/

/-- Entries of the stack whose top stands at an offset, by the bottom-of-stack bit. -/
def mplsDepth (b : Bytes) : Nat → Nat → Nat
  | 0, _ => 0
  | n + 1, o => if o + 4 ≤ b.length then (if byteAt b (o + 2) % 2 = 1 then 1 else 1 + mplsDepth b n (o + 4)) else 0

/-- Remove `n` bytes of the stack's end and set the EtherType from the nibble that follows. -/
def Edit.popLast (e : Edit) (o n : Nat) : Edit :=
  match byteAt e.b (o + n) / 16 with
  | 4 => (e.remove o n).set (o - 2) (beBytes 2 0x0800)
  | 6 => (e.remove o n).set (o - 2) (beBytes 2 0x86DD)
  | _ => e.skip

/-- mpls_op. -/
def Edit.mpls (e : Edit) (a : List Word) : Edit :=
  let top := (e.hl.find? fun h => h.1 == 0x0D).map (·.2)
  match actMpls a with
  | 1 =>
    let ttl := match e.ip with
      | some (v6, o) => byteAt e.b (ttlAt v6 o)
      | none => 255
    let (o, s) := match top with
      | some o => (o, 0)
      | none => (match e.tags.getLast? with
        | some t => t + 4
        | none => 14, 1)
    let v := beBytes 4 (actLabel a * 4096 + actTc a * 512 + s * 256 + ttl)
    ((e.insert o v).set (o - 2) (beBytes 2 0x8847)).list 0x0D o
  | 2 =>
    match top with
    | none => e.skip
    | some o => if byteAt e.b (o + 2) % 2 = 1 then e.popLast o 4 else e.remove o 4
  | 3 =>
    match top with
    | none => e.skip
    | some o => e.set o (beBytes 4 (actLabel a * 4096 + beAt e.b o 4 % 4096))
  | 4 =>
    match top with
    | none => e.skip
    | some o => e.popLast o (4 * mplsDepth e.b e.b.length o)
  | _ => e

/-! ## Edit 3: VLAN -/

/-- vlan_op. -/
def Edit.vlan (e : Edit) (a : List Word) : Edit :=
  match actVlan a with
  | 1 => ((e.insert 12 (beBytes 2 0x8100 ++ beBytes 2 (actTci a)))).list 2 14
  | 2 => ((e.insert 12 (beBytes 2 0x88A8 ++ beBytes 2 (actTci a)))).list 3 14
  | 3 =>
    match e.tags with
    | [] => e.skip
    | t :: _ => { (e.remove (t - 2) 4) with
        hl := (e.hl.filter fun h => h != (2, t) && h != (3, t)).map fun h => if t < h.2 then (h.1, h.2 - 4) else h }
  | 4 =>
    match e.tags with
    | t :: u :: _ => { (e.remove (t - 2) 8) with
        hl := (e.hl.filter fun h => h != (2, t) && h != (3, t) && h != (2, u) && h != (3, u)).map fun h =>
          if t < h.2 then (h.1, h.2 - 8) else h }
    | _ => e.skip
  | 5 =>
    match e.tags with
    | [] => e.skip
    | t :: _ => e.set t (beBytes 2 (actTci a))
  | _ => e

/-! ## Edit 4: template -/

/-- Push a template's data at an anchor. -/
def Edit.template (e : Edit) (anchor : Nat) (data : Bytes) : Edit :=
  if anchor = 0 then e.insert 12 data
  else
    match e.ip with
    | none => e.skip
    | some (_, o) =>
      if anchor = 1 then e.insert o data
      else { e with
        b := data ++ e.b.drop o
        hl := (e.hl.filter fun h => decide (o ≤ h.2)).map fun h => (h.1, h.2 - o + data.length) }

/-! ## Edit 5: TTL and DSCP -/

/-- Set a byte of an IPv4 header, with its checksum updated incrementally. -/
def setV4 (b : Bytes) (o i v : Nat) : Bytes :=
  let w := o + i / 2 * 2
  let m := beAt b w 2
  let b2 := bytesSet b (o + i) [by8 v]
  let add (x y : Nat) : Nat := (x + y) % 65536 + (x + y) / 65536
  let hc := 65535 - add (add (65535 - beAt b (o + 10) 2) (65535 - m)) (beAt b2 w 2)
  bytesSet b2 (o + 10) (beBytes 2 hc)

/-- Set the TTL or hop limit. -/
def Edit.setTtl (e : Edit) (v6 : Bool) (o v : Nat) : Edit :=
  { e with b := if v6 then bytesSet e.b (o + 7) [by8 v] else setV4 e.b o 8 v }

/-- Set the DSCP of the IP header at an offset. -/
def setDscp (b : Bytes) (v6 : Bool) (o d : Nat) : Bytes :=
  if v6 then
    bytesSet b o [by8 (byteAt b o / 16 * 16 + d / 4), by8 (d % 4 * 64 + byteAt b (o + 1) % 64)]
  else setV4 b o 1 (4 * d + byteAt b (o + 1) % 4)

/-- Set the DSCP of the outermost IP header, where there is one. -/
def Edit.dscp (e : Edit) (d : Nat) : Edit :=
  match e.ip with
  | some (v6, o) => { e with b := setDscp e.b v6 o d }
  | none => e

/-- ttl_op, then dscp_set. -/
def Edit.ttlDscp (e : Edit) (a : List Word) : Edit :=
  if actTtl a = 0 ∧ !actDscpSet a then e
  else
    match e.ip with
    | none => e.skip
    | some (v6, o) =>
      let ttl := byteAt e.b (ttlAt v6 o)
      let e := match actTtl a with
        | 1 => if ttl ≤ 1 then { e with expired := true } else e.setTtl v6 o (ttl - 1)
        | 2 => e.setTtl v6 o (actTtlValue a)
        | _ => e
      if actDscpSet a then e.dscp (actDscp a) else e

/-! ## All six -/

/-- Edits 1 to 6 of R262 for an action, with the template's data and the next hop's destination address where they apply. -/
def Edit.run (e : Edit) (a : List Word) (kept : Bool) (tmpl : Option Bytes) (dmac : Option Bytes) : Edit :=
  let e := if actIntent a = 4 then e.decap kept else e
  let e := (e.mpls a).vlan a
  let e := match tmpl with
    | some d => e.template (actAnchor a) d
    | none => e
  let e := e.ttlDscp a
  match dmac with
  | some m => e.set 0 m
  | none => e

end Sys2Proof.Machine
end

