-- ==== Sys2Proof/Machine/Actions.lean ====
section
/-!
DEFINITION. Actions, templates, next hops, mirror sessions, meters and reason counts: what the action stage reads and writes, the checks at commit, and the commands of class 0x06 (R255 to R280).
-/
namespace Sys2Proof.Machine

/-! ## What an epoch sees (R255, R260, R270) -/

/-- The action visible at an epoch. -/
def State.actAt (s : State) (i p : Nat) : Option ActEnt :=
  (Tbl.look s.act.acts i).filter fun (e : ActEnt) => visible e.birth e.death e.deathSet p

/-- The template visible at an epoch. -/
def State.tmplAt (s : State) (i p : Nat) : Option Template :=
  (Tbl.look s.act.tmpls i).filter fun (e : Template) => visible e.birth e.death e.deathSet p

/-- The next hop visible at an epoch. -/
def State.hopAt (s : State) (i p : Nat) : Option NextHop :=
  (Tbl.look s.act.hops i).filter fun (e : NextHop) => visible e.birth e.death e.deathSet p

/-- The four record positions of a session. -/
def State.mirrorPos (s : State) (i : Nat) : List MirrorPos := Tbl.lookD s.act.mirrors i [{}, {}, {}, {}]

/-- A position is in use and visible at an epoch. -/
def MirrorPos.at_ (m : MirrorPos) (p : Nat) : Bool := m.birth != 0 && visible m.birth m.death (m.death != 0) p

/-- The record of a session at an epoch. -/
def State.mirrorAt (s : State) (i p : Nat) : Option (List Word) := ((s.mirrorPos i).find? fun m => m.at_ p).map (·.words)

/-! ## Counts (R273, R280) -/

/-- Count one of ACT_STATUS. -/
def State.actCount (s : State) (i n : Nat) : State := s.actM fun a => { a with counts := updAt a.counts i fun x => satAdd 32 x n }

/-- A drop with a reason. -/
def State.dropReason (s : State) (r : Nat) : State := s.actM fun a => { a with drops := Tbl.upd a.drops r 0 sat32 }

/-- A to-host delivery with a reason. -/
def State.hostReason (s : State) (r : Nat) : State := s.actM fun a => { a with toHost := Tbl.upd a.toHost r 0 sat32 }

/-! ## Meters (R266 to R268) -/

/-- A bucket after refill: 24.8 units, core clocks of 0.625 ns, a rate in kb/s. -/
def bucketFill (b rate clocks burst : Nat) : Nat :=
  if 4294967296 < clocks then 256 * burst else min (b + rate * clocks / 50000) (256 * burst)

/-- Update a meter with a packet: colour 0 green, 1 yellow, 2 red, and the profile's word 0. -/
def State.meterUpdate (s : State) (m len : Nat) (preYellow : Bool) : Nat × Word × State :=
  let t := Tbl.lookD s.act.meters m {}
  let p := Tbl.lookD s.act.mprofiles t.profile []
  let w := nth p 0 0#32
  if !t.enable then (0, 0#32, s)
  else
    let cir := (nth p 1 0#32).toNat
    let pir := (nth p 2 0#32).toNat
    let cbs := (nth p 3 0#32).toNat
    let pbs := (nth p 4 0#32).toNat
    let dt := s.time.core - t.clock
    let c := bucketFill t.cb cir dt cbs
    let e := bucketFill t.pb pir dt pbs
    let b := 256 * len
    let yellow := w.bit 2 && preYellow
    let cOk := cir != 0 && decide (b ≤ c)
    let eOk := pir != 0 && decide (b ≤ e)
    let (col, c, e) :=
      if w.fld 1 0 = 0 then
        if !eOk then (2, c, e) else if yellow || !cOk then (1, c, e - b) else (0, c - b, e - b)
      else
        if !yellow && cOk then (0, c - b, e) else if eOk then (1, c, e - b) else (2, c, e)
    (col, w, (s.actM fun a => { a with meters := Tbl.put a.meters m { t with cb := c, pb := e, clock := s.time.core } }).actCount (5 + col) 1)

/-! ## Checks at commit (R276) -/

/-- Actions named by rules visible at N: each with whether the rule lies in the bypass class. -/
def State.rulesAt (s : State) (a : Arrays) (n : Nat) : List (Nat × Bool) :=
  (s.lookup.slots.vals.filter fun x => visible x.birth x.death x.deathSet n).map (fun x => (x.action, false))
    ++ (s.lookup.pfx.filter fun x => visible x.birth x.death x.deathSet n).map (fun x => (x.action, false))
    ++ (s.tcam.ents.filter fun (x : Nat × TcamEnt) => visible x.2.birth x.2.death x.2.deathSet n).map (fun (x : Nat × TcamEnt) =>
        (x.2.action, a.groups.any fun g => nbit g.2.banks (x.1 / 2048) && nbit a.bypass g.1))

/-- default_action of an exception table. -/
def Arrays.defaultAct (a : Arrays) : Nat := (nth a.except 15 0#32).fld 19 0

/-- A queue stands under a port node. -/
def State.queueUnder (s : State) (q p : Nat) : Bool := s.queuePort q == some p

/-- Check 0x25 for an action: its queue stands under its destination's node. -/
def State.actQueueOk (s : State) (a : List Word) (n : Nat) : Bool :=
  if actVerdict a = 2 then !actQueueSet a || s.queueUnder (actQueue a) 64
  else if actVerdict a = 0 ∧ !actRecirc a ∧ actHopSet a then
    match s.hopAt (actHop a) n with
    | some h => s.queueUnder (if actQueueSet a then actQueue a else hopQueue h.words) (hopPort h.words)
    | none => true
  else true

/-- Check 0x27 for an action: the template of an ESP tunnel. -/
def State.actTunnelOk (s : State) (a : List Word) (n : Nat) : Bool :=
  actIntent a != 2 || (actTmplEn a && actAnchor a == 1 &&
    (match s.tmplAt (actTmpl a) n with
    | some t => t.len == 20 + 8 * b2n (actEspUdp a) || t.len == 40 + 8 * b2n (actEspUdp a)
    | none => false))

/-- An SA binding is configured (R287). -/
def State.bound (s : State) (b : Nat) : Bool :=
  match Tbl.look s.cip.bindings b with
  | some x => x.valid
  | none => false

/-- A port is cipher side. -/
def State.cipherSide (s : State) (p : Nat) : Bool := decide (p < 64) && (s.mport p).cipher

/-- The first check of R276 that the rule set of N fails: its code and index. -/
def State.actCheck (s : State) (a : Arrays) (n : Nat) : Option (Nat × Nat) :=
  let alive := s.act.acts.filter fun (x : Nat × ActEnt) => visible x.2.birth x.2.death x.2.deathSet n
  let named := s.rulesAt a n ++ (if a.defaultAct = 0xFFFFF then [] else [(a.defaultAct, false)])
  let first (code : Nat) (o : Option Nat) : Option (Nat × Nat) := o.map fun i => (code, i)
  let act (code : Nat) (bad : List Word → Bool) : Option (Nat × Nat) :=
    first code ((alive.find? fun (x : Nat × ActEnt) => bad x.2.words).map fun (x : Nat × ActEnt) => x.1)
  let sess := (List.range 16).filterMap fun i => (s.mirrorAt i n).map fun w => (i, w)
  let sessOn (i : Nat) : Bool := sess.any fun e => e.1 == i && mirEnable e.2
  [ first 0x20 ((named.find? fun r => (s.actAt r.1 n).isNone).map (·.1)),
    first 0x21 ((s.act.acts.find? fun (x : Nat × ActEnt) => x.2.deathSet && x.2.death == n && x.2.refs != 0).map fun (x : Nat × ActEnt) => x.1),
    first 0x22 ((alive.find? fun (x : Nat × ActEnt) => actTmplEn x.2.words && (s.tmplAt (actTmpl x.2.words) n).isNone).map
      fun (x : Nat × ActEnt) => actTmpl x.2.words),
    first 0x22 ((s.act.tmpls.find? fun (x : Nat × Template) => x.2.deathSet && x.2.death == n && x.2.refs != 0).map fun (x : Nat × Template) => x.1),
    first 0x23 ((alive.find? fun (x : Nat × ActEnt) => actHopSet x.2.words && (s.hopAt (actHop x.2.words) n).isNone).map
      fun (x : Nat × ActEnt) => actHop x.2.words),
    first 0x23 ((s.act.hops.find? fun (x : Nat × NextHop) => x.2.deathSet && x.2.death == n && x.2.refs != 0).map fun (x : Nat × NextHop) => x.1),
    act 0x24 fun w => actMirrorEn w && !sessOn (actSession w),
    act 0x25 fun w => !s.actQueueOk w n,
    first 0x25 ((sess.find? fun e => !s.queueUnder (mirQueue e.2) (mirDest e.2)).map fun e => 0x10000 + e.1),
    first 0x26 ((named.find? fun r => !r.2 && ((s.actAt r.1 n).map fun (e : ActEnt) => actBypass e.words) == some true).map (·.1)),
    act 0x27 fun w => !s.actTunnelOk w n,
    first 0x28 ((sess.find? fun e => decide (65 ≤ mirDest e.2) || (s.cipherSide (mirDest e.2) && !mirSaValid e.2)).map (·.1)),
    act 0x29 fun w => (actMeterEn w && !(Tbl.lookD s.act.meters (actMeter w) {}).enable) || (actEncap w && !s.bound (actBinding w))
  ].findSome? id

/-! ## Staged commands (R277, R278) -/

/-- An index within a range; R278 gives its own detail. -/
def idxBelow (c : Packet) (n : Nat) : Bool × Status × Nat := (decide (c.obj < n), .badParam, 8)

/-- Rules with death_set 0 that name an action. -/
def State.trueRefs (s : State) (i : Nat) : Nat :=
  min 65535 ((s.lookup.slots.vals.filter fun x => !x.deathSet && x.action == i).length
    + (s.lookup.pfx.filter fun x => !x.deathSet && x.action == i).length
    + (s.tcam.ents.vals.filter fun x => !x.deathSet && x.action == i).length)

/-- Actions with death_set 0 that name a template. -/
def State.tmplRefs (s : State) (i : Nat) : Nat :=
  min 65535 (s.act.acts.vals.filter fun x => !x.deathSet && actTmplEn x.words && actTmpl x.words == i).length

/-- Actions with death_set 0 that name a next hop. -/
def State.hopRefs (s : State) (i : Nat) : Nat :=
  min 65535 (s.act.acts.vals.filter fun x => !x.deathSet && actHopSet x.words && actHop x.words == i).length

/-- ACT_WRITE. -/
def actWrite (c : Packet) (s : State) : Res :=
  let a := c.params
  let n := s.vintN
  let old := Tbl.look s.act.acts c.obj
  let mine := (old.map fun (e : ActEnt) => e.birth == n) == some true
  let free := (old.map fun (e : ActEnt) => s.reclaimable e.death e.deathSet) != some false
  checks [idxBelow c 131072, reserved c 0 0xFFFFFF3F, reserved c 1 0xFFFF3FFF, reserved c 2 0x1FFFFFFF, reserved c 3 0x0F0FFFFF,
      reserved c 4 0xFFFF7FFF, reserved c 6 0xFFFF7F7F,
      fieldIs 0 0 ((c.w 0).bit 0), fieldIs 0 1 (!(c.w 0).bit 1), fieldIs 0 2 (decide (actVerdict a < 3)),
      fieldIs 0 5 (!actBypass a || (actVerdict a == 0 && actIntent a == 0)),
      fieldIs 0 8 (actReason a == 0 || decide (0x80 ≤ actReason a)), fieldIs 2 25 (decide (actIntent a ≤ 4)),
      fieldIs 4 13 (decide (actAnchor a < 3)), fieldIs 4 16 (decide (actVlan a ≤ 5)),
      fieldIs 4 19 (decide (actMpls a ≤ 4)), fieldIs 4 22 (decide (actTtl a < 3)),
      fieldIs 6 16 ((c.w 6).fld 31 16 == 0),
      (mine || free, .conflict, (old.map fun (e : ActEnt) => e.birth).getD 0)]
    (let s := match old with
      | some e => if mine then s.refsOfAct false none e.words else s
      | none => s
     let e : ActEnt := { birth := n, death := 0, deathSet := false, words := a, refs := s.trueRefs c.obj }
     .ok ((s.actM fun k => { k with acts := Tbl.put k.acts c.obj e }).refsOfAct true none a))

/-- ACT_DELETE. -/
def actDelete (c : Packet) (s : State) : Res :=
  let n := s.vintN
  checks [idxBelow c 131072]
    (match s.actAt c.obj n with
    | none => .fail .notFound 0
    | some e =>
      if e.birth = n then .ok ((s.refsOfAct false none e.words).actM fun k => { k with acts := Tbl.del k.acts c.obj })
      else .ok ((s.refsOfAct false (some n) e.words).actM fun k =>
        { k with acts := Tbl.upd k.acts c.obj e fun x => { x with death := n, deathSet := true } }))

/-- TEMPLATE_WRITE. -/
def templateWrite (c : Packet) (s : State) : Res :=
  let n := s.vintN
  let old := Tbl.look s.act.tmpls c.obj
  let ok := (old.map fun (e : Template) => e.birth == n || s.reclaimable e.death e.deathSet) != some false
  checks [idxBelow c 4096, reserved c 0 0xFF, nonZero c 0 7 0, within c 0 7 0 1 128,
      (ok, .conflict, (old.map fun (e : Template) => e.birth).getD 0)]
    (let e : Template := { birth := n, death := 0, deathSet := false, len := (c.w 0).fld 7 0, data := pktKey c 1 32, refs := s.tmplRefs c.obj }
     .ok (s.actM fun k => { k with tmpls := Tbl.put k.tmpls c.obj e }))

/-- TEMPLATE_DELETE. -/
def templateDelete (c : Packet) (s : State) : Res :=
  let n := s.vintN
  checks [idxBelow c 4096]
    (match s.tmplAt c.obj n with
    | none => .fail .notFound 0
    | some e =>
      if e.birth = n then .ok (s.actM fun k => { k with tmpls := Tbl.del k.tmpls c.obj })
      else .ok (s.actM fun k => { k with tmpls := Tbl.put k.tmpls c.obj { e with death := n, deathSet := true } }))

/-- NEXTHOP_WRITE. -/
def nexthopWrite (c : Packet) (s : State) : Res :=
  let n := s.vintN
  let old := Tbl.look s.act.hops c.obj
  let mine := (old.map fun (e : NextHop) => e.birth == n) == some true
  let free := (old.map fun (e : NextHop) => s.reclaimable e.death e.deathSet) != some false
  let p := (c.w 0).fld 14 8
  checks [idxBelow c 16384, reserved c 0 0xFFFF7F07, fieldIs 0 0 ((c.w 0).bit 0), fieldIs 0 1 (!(c.w 0).bit 1),
      fieldIs 0 8 (decide (p ≤ 64) || p == 66), fieldIs 2 16 ((c.w 2).fld 31 16 == 0),
      (mine || free, .conflict, (old.map fun (e : NextHop) => e.birth).getD 0)]
    (let s := match old with
      | some e => if mine then s.refsOfHop false none e.words else s
      | none => s
     let e : NextHop := { birth := n, death := 0, deathSet := false, words := c.params, refs := s.hopRefs c.obj }
     .ok ((s.actM fun k => { k with hops := Tbl.put k.hops c.obj e }).refsOfHop true none c.params))

/-- NEXTHOP_DELETE. -/
def nexthopDelete (c : Packet) (s : State) : Res :=
  let n := s.vintN
  checks [idxBelow c 16384]
    (match s.hopAt c.obj n with
    | none => .fail .notFound 0
    | some e =>
      if e.birth = n then .ok ((s.refsOfHop false none e.words).actM fun k => { k with hops := Tbl.del k.hops c.obj })
      else .ok ((s.refsOfHop false (some n) e.words).actM fun k =>
        { k with hops := Tbl.put k.hops c.obj { e with death := n, deathSet := true } }))

/-- The first position of a session that is free for a new version (R270). -/
def State.mirrorFree (s : State) (i : Nat) : Option Nat :=
  (List.range 4).find? fun k =>
    let m := nth (s.mirrorPos i) k {}
    m.birth == 0 || s.reclaimable m.death (m.death != 0)

/-- MIRROR_SESSION_SET (R260, R270). -/
def mirrorSessionSet (c : Packet) (s : State) : Res :=
  let n := s.vintN
  let w := c.params
  let ps := s.mirrorPos c.obj
  let live := (List.range 4).find? fun i => (nth ps i {}).at_ n
  let free := s.mirrorFree c.obj
  let new : MirrorPos := { birth := n, death := 0, words := w }
  checks [idxBelow c 16, reserved c 0 0xFFFF07FF, reserved c 1 0x3FFFFFFF, reserved c 2 0xFFFF,
      (!(mirEnable w && mirSample w == 0), .badZero, 24),
      fieldIs 1 16 (mirTruncate w == 0 || decide (64 ≤ mirTruncate w)), fieldIs 3 0 (mirTrigger w != 0 || mirMask w == 0)]
    (match live with
    | some i =>
      let m := nth ps i {}
      if m.birth = n then
        .ok (((s.refsOfMirror false none m.words).actM fun k => { k with mirrors := Tbl.put k.mirrors c.obj (updAt ps i fun _ => new) }).refsOfMirror
          true none w)
      else
        match free with
        | none => .fail .busy 0
        | some j =>
          .ok (((s.refsOfMirror false (some n) m.words).actM fun k => { k with
            mirrors := Tbl.put k.mirrors c.obj (updAt (updAt ps i fun _ => { m with death := n }) j fun _ => new) }).refsOfMirror true none w)
    | none =>
      match free with
      | none => .fail .busy 0
      | some j => .ok ((s.actM fun k => { k with mirrors := Tbl.put k.mirrors c.obj (updAt ps j fun _ => new) }).refsOfMirror true none w))

/-- BYPASS_CLASS_SET (R271). -/
def bypassClassSet (c : Packet) (s : State) : Res :=
  checks [objZero c, reserved c 0 0xF] (.ok (s.stagedM fun a => { a with bypass := (c.w 0).fld 3 0 }))

/-! ## The other commands (R277, R279, R280) -/

/-- ACT_READ. -/
def actRead (c : Packet) (s : State) : Res :=
  let kind := c.obj / 1073741824
  let i := c.obj % 131072
  let lim := nth [131072, 4096, 16384, 16] kind 0
  checks [(c.obj % 1073741824 / 131072 == 0, .badParam, 8), (decide (i < lim), .notFound, 0)]
    (.data (match kind with
      | 0 => (match Tbl.look s.act.acts i with
        | some e => wd (e.birth + 65536 * e.death) :: wd ((nth e.words 0 0#32).toNat + 2 * b2n e.deathSet) :: (e.words.drop 1).take 5
            ++ [wd ((nth e.words 6 0#32).toNat + 65536 * e.refs)]
        | none => List.replicate 8 0#32)
      | 1 => (match Tbl.look s.act.tmpls i with
        | some e => wd (e.birth + 65536 * e.death) :: wd (1 + 2 * b2n e.deathSet + 256 * e.len + 65536 * e.refs) :: bytesWords e.data
        | none => List.replicate 34 0#32)
      | 2 => (match Tbl.look s.act.hops i with
        | some e => [wd (e.birth + 65536 * e.death), wd ((nth e.words 0 0#32).toNat + 2 * b2n e.deathSet), nth e.words 1 0#32,
            wd ((nth e.words 2 0#32).toNat + 65536 * e.refs)]
        | none => List.replicate 4 0#32)
      | _ => (s.mirrorPos i).flatMap fun m => wd (m.birth + 65536 * m.death) :: m.words) s)

/-- A rate of a meter profile. -/
def rateOk (c : Packet) (i : Nat) : Bool × Status × Nat :=
  fieldIs i 0 (c.n i == 0 || (decide (8 ≤ c.n i) && decide (c.n i ≤ 800000000)))

/-- METER_PROFILE_SET (R266, R279). -/
def meterProfileSet (c : Packet) (s : State) : Res :=
  checks [objBelow c 4096, reserved c 0 0x3F3F7F, nonZero c 3 31 0, nonZero c 4 31 0,
      fieldIs 0 0 (decide ((c.w 0).fld 1 0 < 2)), fieldIs 0 3 ((c.w 0).fld 4 3 != 3),
      fieldIs 0 5 ((c.w 0).fld 6 5 != 3), rateOk c 1, rateOk c 2,
      fieldIs 2 0 ((c.w 0).fld 1 0 != 0 || decide (c.n 1 ≤ c.n 2)), within c 3 31 0 64 16777216, within c 4 31 0 64 16777216]
    (.ok (s.actM fun a => { a with mprofiles := Tbl.put a.mprofiles c.obj c.params }))

/-- An action visible in a live epoch has a property: what R229 keeps an unversioned object for. -/
def State.someLiveAct (s : State) (p : List Word → Bool) : Bool :=
  s.liveSlots.any fun e => s.act.acts.any fun x => p x.2.words && visible x.2.birth x.2.death x.2.deathSet e.2.epoch

/-- A meter is named by an entry that is visible in a live epoch, or staged (R229). -/
def State.meterHeld (s : State) (m : Nat) : Bool :=
  (Tbl.lookD s.act.meters m {}).refs != 0 || s.someLiveAct fun w => actMeterEn w && actMeter w == m

/-- A binding is named by an action or session that is visible in a live epoch, or staged (R229). -/
def State.bindHeld (s : State) (b : Nat) : Bool :=
  Tbl.lookD s.act.bindRefs b 0 != 0 || s.someLiveAct (fun w => actEncap w && actBinding w == b)
    || s.liveSlots.any fun e => s.act.mirrors.any fun x => x.2.any fun m =>
        mirEnable m.words && mirSaValid m.words && mirBinding m.words == b && m.at_ e.2.epoch

/-- METER_SET (R229, R279). A meter whose last naming entry is deleted but still visible in a live epoch is refused with its live_refs, 0. -/
def meterSet (c : Packet) (s : State) : Res :=
  let m := Tbl.lookD s.act.meters c.obj {}
  let pi := (c.w 0).fld 11 0
  let en := (c.w 0).bit 15
  let p := Tbl.lookD s.act.mprofiles pi []
  let fill := (en && !m.enable) || (c.w 0).bit 16
  checks [objBelow c 65536, reserved c 0 0x18FFF, (en || !s.meterHeld c.obj, .conflict, m.refs), (Tbl.has s.act.mprofiles pi, .notFound, 0)]
    (.ok (s.actM fun a => { a with meters := Tbl.put a.meters c.obj { m with
      profile := pi, enable := en
      cb := if fill then 256 * (nth p 3 0#32).toNat else m.cb
      pb := if fill then 256 * (nth p 4 0#32).toNat else m.pb
      clock := if fill then s.time.core else m.clock } }))

/-- METER_READ. -/
def meterRead (c : Packet) (s : State) : Res :=
  let m := Tbl.lookD s.act.meters c.obj {}
  checks [objBelow c 65536]
    (.data [wd m.cb, wd m.pb, wd m.clock, wd (m.profile + 32768 * b2n m.enable + 65536 * m.refs)] s)

/-- ACTION_CONFIG (R280). -/
def actionConfig (c : Packet) (s : State) : Res :=
  let q := (c.w 0).fld 31 16
  checks [objZero c, reserved c 0 0xFFFF0003, (q == 65535 || s.queueUnder q 64, .conflict, 0)]
    (let old := s.act.hostQueue
     let s := if old = 65535 then s else s.refQueue false old
     let s := if q = 65535 then s else s.refQueue true q
     .ok (s.actM fun a => { a with ttlToHost := (c.w 0).bit 0, bypassStrict := (c.w 0).bit 1, hostQueue := q }))

/-- ACT_STATUS. -/
def actStatus (c : Packet) (s : State) : Res := checks [objZero c] (.data (s.act.counts.map wd) s)

/-- REASON_COUNTS. -/
def reasonCounts (c : Packet) (s : State) : Res :=
  checks [objBelow c 2]
    (.data ((List.range 256).map fun r => wd (Tbl.lookD (if c.obj = 0 then s.act.drops else s.act.toHost) r 0)) s)

end Sys2Proof.Machine
end

