-- ==== Sys2Proof/Machine/Vintage.lean ====
section
/-!
DEFINITION. Vintages: staging, commit checks, the commit cycle, retirement, the sweep, rebasing, the twin commit, and the commands of class 0x05 (R228 to R254).
-/
namespace Sys2Proof.Machine

/-! ## Staging (R161, R178, R235, R236) -/

/-- The effect of a staged command on the open vintage, by opcode. -/
def stagedBody (op : Nat) : Option (Packet → State → Res) :=
  match op with
  | 0x0201 => some parseStateSet
  | 0x0202 => some parseTransSet
  | 0x0203 => some parseExceptSet
  | 0x0204 => some parseDefaultLoad
  | 0x0300 => some emTableDefine
  | 0x0301 => some emInsert
  | 0x0302 => some emModify
  | 0x0303 => some emDelete
  | 0x0310 => some pfxRealmDefine
  | 0x0311 => some pfxAdd
  | 0x0312 => some pfxModify
  | 0x0313 => some pfxDelete
  | 0x0320 => some lookupProfileSet
  | 0x0321 => some lookupMapSet
  | 0x0401 => some tcamGroupDefine
  | 0x0402 => some tcamProfileSet
  | 0x0403 => some tcamInsert
  | 0x0404 => some tcamDelete
  | 0x0600 => some actWrite
  | 0x0601 => some actDelete
  | 0x0603 => some templateWrite
  | 0x0604 => some templateDelete
  | 0x0605 => some nexthopWrite
  | 0x0606 => some nexthopDelete
  | 0x0607 => some mirrorSessionSet
  | 0x0608 => some bypassClassSet
  | _ => none

/-- Operations of the staging log a command uses (R161, R178). -/
def opsOf (op : Nat) : Nat := if op = 0x0204 then 1280 else 1

/-- What the staging digest covers of a command (R236). -/
def digestBytes (op : Nat) (c : Packet) : Bytes := leBytes 2 op ++ leBytes 4 c.obj ++ wordsBytes c.params

/-- Stage one command: its effect, its operations and the digest; NO_RESOURCE when the log is full. -/
def stageOne (op : Nat) (body : Packet → State → Res) (c : Packet) (s : State) : Res :=
  match body c s with
  | .done .ok d ws t =>
    match t.vin.vint with
    | none => .fail .notFound 0
    | some v =>
      if 65536 < v.ops + opsOf op then .fail .noResource 0
      else .done .ok d ws (t.vintM fun v => { v with
        ops := v.ops + opsOf op, digest := wd (crc32c v.digest.toNat (digestBytes op c)) })
  | r => r

/-- A staged command as R250 embeds it: a header with flags, tag and handle zero, and its parameters. -/
def embedBytes (op : Nat) (c : Packet) : Bytes :=
  leBytes 2 op ++ [0#8, 1#8, 0#8, 0#8] ++ leBytes 2 c.params.length ++ leBytes 4 c.obj ++ leBytes 4 0 ++ wordsBytes c.params

/-- Relay a staged command in TWIN_ACTIVE (R245). -/
def State.relayStaged (s : State) (op : Nat) (c : Packet) : State :=
  if s.mode.mode == .twinActive then s.twinSend 0 0x11 (embedBytes op c) else s

/-- The checks and effect of a staged command that names a handle; a standby's own host stages nothing (R161, R246). -/
def stagedCmd (op : Nat) (body : Packet → State → Res) (c : Packet) (s : State) : Res :=
  if c.handle = 0#32 then .fail .badParam 12
  else if s.mode.mode = .twinStandby then .fail .twinRefused 4
  else
    match s.openVint with
    | none => .fail .notFound 0
    | some v =>
      if v.handle ≠ c.handle.toNat then .fail .notFound 0
      else
        match stageOne op body c s with
        | .done .ok d ws t => .done .ok d ws (t.relayStaged op c)
        | r => r

/-! ## Commit checks (R162, R197, R223, R239, R276) -/

/-- The first fault of a parse graph (R162). -/
def Arrays.graphCheck (a : Arrays) : Option (Nat × Nat) :=
  let valid (i : Nat) : Bool := (a.state i).isSome
  let states := (Tbl.keys a.states).filterMap fun i => (a.state i).map fun x => (i, x)
  [ guardO (!valid 0) (1, 0),
    (states.find? fun (e : Nat × PState8) =>
      (!(e.2.word 3).bit 24 && !valid ((e.2.word 3).fld 23 16)) ||
        (e.2.trans.filterMap a.transOf).any fun t => !t.2.2.2 && !valid t.2.2.1).map fun (e : Nat × PState8) => (2, e.1),
    (states.findSome? fun (e : Nat × PState8) => e.2.trans.find? fun t => (a.transOf t).isNone).map fun t => (3, t)
  ].findSome? id

/-- The first search of a profile the map names that has no table, realm or group (R197, R223). -/
def Arrays.profileCheck (a : Arrays) : Option (Nat × Nat) :=
  let used := (List.range 16).filter fun p => (List.range 128).any fun i => a.mapEntry i == p
  let em (p : Nat) : Option Nat := (List.range 4).find? fun k =>
    (a.profile p).1.bit (8 * k + 7) && !Tbl.has a.em ((a.profile p).1.fld (8 * k + 3) (8 * k))
  let tc (p : Nat) : Option Nat := (List.range 4).find? fun g => nbit (Tbl.lookD a.tcamEn p 0) g && !Tbl.has a.groups g
  [ (used.findSome? fun p => (em p).map fun k => (6, 4 * p + k)),
    (used.find? fun p => (a.profile p).2.bit 7 && !Tbl.has a.realms ((a.profile p).2.fld 3 0)).map fun p => (7, p),
    (used.findSome? fun p => (tc p).map fun g => (8, 4 * p + g))
  ].findSome? id

/-- The checks of R239, in the order of their codes: code and index of the first that fails. -/
def State.commitCheck (s : State) (v : Vintage) : Option (Nat × Nat) :=
  let a := v.arrays
  [ a.graphCheck,
    ((List.range 10).find? fun i => excDisp (nth a.except i 0#32) == 2 && !s.queueUnder (excQueue (nth a.except i 0#32)) 64).map fun i => (4, i),
    guardO (a.defaultAct != 0xFFFFF && (s.actAt a.defaultAct v.n).isNone) (5, 0),
    a.profileCheck, s.actCheck a v.n
  ].findSome? id

/-! ## The commit cycle (R231, R237, R238) -/

/-- The first free slot in cyclic order after the current one (R231). -/
def State.freeSlot (s : State) : Option Nat :=
  ([1, 2, 3].map fun k => (s.vin.cur + k) % 4).find? fun i => !(nth s.vin.slots i {}).live

/-- Blocks of tables that N removes or redefines stay reserved (R167). -/
def reserveOld (old new : Tbl EmDef) (n : Nat) : List EmReserve :=
  old.filterMap fun (e : Nat × EmDef) =>
    if Tbl.look new e.1 = some e.2 then none else some { table := e.1, defn := e.2, epoch := n }

/-- The reply words of a committed vintage (R252). -/
def commitWords (v : Vintage) (ns : Nat) : List Word := [wd (v.n + 65536 * v.slot + 262144 * b2n v.standalone), wd ns]

/-- The vintage of the reply words that VINT_COMMIT and VINT_COMMIT_AT wait for. -/
def isCommitOf (v : Vintage) (t : Tag) : Bool :=
  (t.opcode == 0x0502 || t.opcode == 0x0505) && t.pkt.handle.toNat == v.handle

/-- The commit cycle: the reserved slot becomes current with epoch N; the waiting command ends with a status. -/
def State.commitCycle (s : State) (st : Status) (detail : Nat) : State :=
  match s.vin.vint with
  | none => s
  | some v =>
    let old := s.vin.cur
    let s := s.lookupM fun k => { k with reserved := k.reserved ++ reserveOld s.curSlot.arrays.em v.arrays.em v.n }
    let new : Slot := { live := true, epoch := v.n, arrays := v.arrays, commitNs := s.ns32 }
    let s := (s.slotM old fun x => { x with superseded := s.time.record.t }).slotM v.slot fun _ => new
    let s := s.vinM fun k => { k with
      cur := v.slot, vint := none, regions := k.regions ++ [v.n]
      last := some { v with state := .committed, arrays := {} } }
    let s := if s.mode.mode == .twinActive then s.twinSend 0 0x15 (leBytes 4 v.handle) else s
    s.completePended (isCommitOf v) st detail (commitWords v s.ns32)

/-- How late a timed commit is: OK on time, OK_ADJUSTED with the microseconds after it (R240, R252). -/
def lateOf (at_ now : Nat) : Status × Nat :=
  if now ≤ at_ then (.ok, 0) else (.okAdjusted, min ((now - at_) / 65536000) 4294967295)

/-- After slot and twin: the cycle now, or armed at T. A T that was past or within 2 µs as the command started is not armed (R240, R415). -/
def State.commitTime (s : State) : State :=
  match s.vin.vint with
  | none => s
  | some v =>
    match v.at? with
    | none => s.commitCycle .ok 0
    | some t =>
      if v.atOnce then s.commitCycle .okAdjusted (lateOf t s.time.line.t).2
      else if t ≤ s.time.line.t then s.commitCycle (lateOf t s.time.line.t).1 (lateOf t s.time.line.t).2
      else s.vintM fun v => { v with state := .waitTime }

/-- Body of the prepare message: handle, operation count, digest, and T for a timed commit. -/
def prepareBody (v : Vintage) : Bytes :=
  leBytes 4 v.handle ++ leBytes 4 v.ops ++ leBytes 4 v.digest.toNat ++ leBytes 4 (b2n v.at?.isSome) ++ time12 (v.at?.getD 0)

/-- Reserve a slot, or wait for one; then the twin, or the cycle (R237 steps 2 to 5). -/
def State.commitSlot (s : State) : State :=
  match s.vin.vint, s.freeSlot with
  | none, _ => s
  | some v, none =>
    if v.state == .waitSlot then s
    else s.vintM fun v => { v with state := .waitSlot, waitFrom := s.time.record.t }
  | some v, some i =>
    let us := if v.state == .waitSlot then (s.time.record.t - v.waitFrom) / 65536000 else 0
    let s := (s.vinM fun k => { k with maxWait := max k.maxWait us }).vintM fun v => { v with slot := i }
    if v.prepareSeen then
      (s.vintM fun v => { v with state := .prepared }).twinSend 0 0x13 (leBytes 4 v.handle)
    else if s.mode.mode == .twinActive then
      (s.vintM fun v => { v with state := .waitTwin }).twinSend 0 0x12 (prepareBody v)
    else s.commitTime

/-- The vintage in a waiting state goes on when what it waits for is there: a freed slot, or line time T (R240, R243). A T that a jump of line time has put into the past gives OK_ADJUSTED and the lateness (R240, R408). -/
def State.commitWake (s : State) (jumped : Bool) : State :=
  match s.vin.vint with
  | none => s
  | some v =>
    let late (t : Nat) : Status × Nat := if jumped then lateOf t s.time.line.t else (.ok, 0)
    match v.state with
    | .waitSlot => s.commitSlot
    | .waitTime => if (v.at?.getD 0) ≤ s.time.line.t then s.commitCycle (late (v.at?.getD 0)).1 (late (v.at?.getD 0)).2 else s
    | .prepared =>
      match v.at? with
      | some t => if t ≤ s.time.line.t then s.commitCycle (late t).1 (late t).2 else s
      | none => s
    | _ => s

/-- Commit without the twin: its loss before the ready message, or a takeover (R246). -/
def State.commitAlone (s : State) : State :=
  let s := s.vintM fun v => { v with standalone := true }
  match s.vin.vint with
  | some v => if v.state == .waitSlot then s.vintM fun v => { v with prepareSeen := false } else s.commitTime
  | none => s

/-! ## Opening (R234, R235, R245) -/

/-- The count of a handle after one more vintage is opened: modulo 65,536, without 0. -/
def handleCount (opened : Nat) : Nat := if opened % 65535 = 0 then 65535 else opened % 65535

/-- Open a vintage with a handle. -/
def State.openWith (s : State) (handle : Nat) : State :=
  s.vinM fun k => { k with
    vint := some { handle := handle, n := nextEpoch s.epoch, state := .opened, arrays := s.curSlot.arrays } }

/-- Open the next vintage, relayed in TWIN_ACTIVE: its handle and the state. -/
def State.openNext (s : State) : Nat × State :=
  let n := s.vin.opened + 1
  let h := nextEpoch s.epoch + 65536 * handleCount n
  let s := (s.vinM fun k => { k with opened := n }).openWith h
  (h, if s.mode.mode == .twinActive then s.twinSend 0 0x10 (leBytes 4 h) else s)

/-- A VINT_OPEN that waits for a log region goes on when one is free (R235). -/
def State.openWake (s : State) : State :=
  match s.parked 0x0500 with
  | none => s
  | some t =>
    match s.vin.vint with
    | some v => s.completePended (fun x => x == t) .busy v.handle []
    | none =>
      if s.freeRegions = 0 then s
      else
        let (h, s) := s.openNext
        s.completePended (fun x => x == t) .ok 0 [wd h]

/-! ## Retirement, the sweep and rebasing (R242, R244) -/

/-- Retire the epoch of a slot that is not current and has no holders. -/
def State.retireSlot (s : State) (i : Nat) : State :=
  let x := nth s.vin.slots i {}
  if x.live && i != s.vin.cur && x.pass == 0 && x.recirc == 0 && x.hold == 0 && x.frag == 0 then
    let o := s.oldest
    let s := s.slotM i fun y => { y with live := false }
    let us := min ((s.time.record.t - x.superseded) / 65536000) 4294967295
    let s := s.vinM fun k => { k with retired := sat32 k.retired, sweepDue := k.sweepDue || s.oldest != o }
    s.postEvent 0x0501 x.epoch [wd i, wd us]
  else s

/-- Clear the entries whose death is an epoch D, and free its log region. -/
def State.sweepEpoch (s : State) (d : Nat) : State :=
  let dead (ds : Bool) (e : Nat) : Bool := ds && e == d
  let rows := (s.tcam.ents.filter fun (x : Nat × TcamEnt) => dead x.2.deathSet x.2.death).map fun (x : Nat × TcamEnt) => x.1
  let s := rows.foldl (fun s r => (s.tcamShadow r (s.tcam.rowsAt r) 0x10 1).2.tcamClear r) s
  let s := s.lookupM fun k => { k with
    slots := k.slots.filter fun (x : Nat × EmSlot) => !dead x.2.deathSet x.2.death
    pfx := k.pfx.filter fun x => !dead x.deathSet x.death }
  let s := s.actM fun a => { a with
    acts := a.acts.filter fun (x : Nat × ActEnt) => !dead x.2.deathSet x.2.death
    tmpls := a.tmpls.filter fun (x : Nat × Template) => !dead x.2.deathSet x.2.death
    hops := a.hops.filter fun (x : Nat × NextHop) => !dead x.2.deathSet x.2.death
    mirrors := Tbl.mapV a.mirrors fun _ l => l.map fun m => if m.birth != 0 && m.death == d then {} else m }
  s.vinM fun k => { k with regions := k.regions.filter (· != d) }

/-- The sweeper: every region of an epoch before the oldest live one, and the blocks of tables removed in an epoch all of whose predecessors have retired (R167). Each VINT_OPEN that waits for a region then goes on in its turn. It pauses while the Vintner is halted. -/
def State.sweepAll (s : State) : State :=
  if !s.vnt.running then s
  else
    let o := s.oldest
    let s := (s.vin.regions.filter fun d => before d o).foldl (fun s d => s.sweepEpoch d) s
    let s := s.lookupM fun k => { k with reserved := k.reserved.filter fun r => before o r.epoch }
    let waiting := s.cmds.tags.filter fun t => t.begun && t.opcode == 0x0500
    waiting.foldl (fun s _ => s.openWake) (s.vinM fun k => { k with sweepDue := false })

/-- A birth that precedes the oldest live epoch becomes it. -/
def rebase (o b : Nat) : Nat := if before b o then o else b

/-- True count of references to a flow queue (R387). -/
def State.trueQueueRefs (s : State) (q : Nat) : Nat :=
  min 65535 ((s.act.acts.vals.filter fun x => !x.deathSet && actQueueSet x.words && actQueue x.words == q).length
    + (s.act.hops.vals.filter fun x => !x.deathSet && hopQueue x.words == q).length
    + (s.act.mirrors.vals.flatten.filter fun m => m.birth != 0 && m.death == 0 && mirEnable m.words && mirQueue m.words == q).length
    + ((s.staged.except.take 10).filter fun w => excDisp w == 2 && excQueue w == q).length
    + b2n (s.act.hostQueue == q) + b2n (s.frag.orphanHost && s.frag.orphanQueue == q))

/-- Recount every saturated reference count (R276). -/
def State.recount (s : State) : State :=
  let full (n true_ : Nat) : Nat := if n = 65535 then true_ else n
  let acts := s.act.acts.vals.filter fun x => !x.deathSet
  let t := s.actM fun a => { a with
    acts := Tbl.mapV a.acts fun i x => { x with refs := full x.refs (s.trueRefs i) }
    tmpls := Tbl.mapV a.tmpls fun i x => { x with refs := full x.refs (s.tmplRefs i) }
    hops := Tbl.mapV a.hops fun i x => { x with refs := full x.refs (s.hopRefs i) }
    meters := Tbl.mapV a.meters fun i x =>
      { x with refs := full x.refs (min 65535 (acts.filter fun e => actMeterEn e.words && actMeter e.words == i).length) }
    bindRefs := Tbl.mapV a.bindRefs fun i n => full n (min 65535 ((acts.filter fun e => actEncap e.words && actBinding e.words == i).length
      + (a.mirrors.vals.flatten.filter fun m => m.birth != 0 && m.death == 0 && mirEnable m.words && mirSaValid m.words
          && mirBinding m.words == i).length)) }
  t.schedM fun k => { k with refs := Tbl.mapV k.refs fun q n => full n (s.trueQueueRefs q) }

/-- A whole rebasing pass. -/
def State.rebaseAll (s : State) : State :=
  if !s.vnt.running then s
  else
    let o := s.oldest
    let s := s.lookupM fun k => { k with
      slots := Tbl.mapV k.slots fun _ x => { x with birth := rebase o x.birth }
      pfx := k.pfx.map fun x => { x with birth := rebase o x.birth } }
    let s := s.tcamM fun t => { t with ents := Tbl.mapV t.ents fun _ x => { x with birth := rebase o x.birth } }
    let s := s.actM fun a => { a with
      acts := Tbl.mapV a.acts fun _ x => { x with birth := rebase o x.birth }
      tmpls := Tbl.mapV a.tmpls fun _ x => { x with birth := rebase o x.birth }
      hops := Tbl.mapV a.hops fun _ x => { x with birth := rebase o x.birth }
      mirrors := Tbl.mapV a.mirrors fun _ l => l.map fun m => if m.birth = 0 then m else { m with birth := rebase o m.birth } }
    s.recount.vinM fun k => { k with rebased := satAdd 16 k.rebased 1 }

/-! ## Commands (R248 to R254) -/

/-- What the mode lets a command of class 0x05 do: a status, or none when it goes on (R248). `resolve` is the handle of a PREPARED vintage to resolve. -/
def State.vintGate (s : State) (resolve : Nat) : Option (Status × Nat) :=
  match s.mode.mode with
  | .takeover => some (.busy, 0)
  | .twinStandby =>
    match s.vin.vint with
    | some v => if v.state == .prepared && v.handle == resolve && !s.twin.up then none else some (.twinRefused, 4)
    | none => some (.twinRefused, 4)
  | _ => none

/-- What the mode or the twin lets a command do, as one of its checks: its own checks of object_id and parameters go first (R85). -/
def gate (g : Option (Status × Nat)) : Bool × Status × Nat :=
  match g with
  | some (st, d) => (false, st, d)
  | none => (true, .ok, 0)

/-- VINT_OPEN (R249). -/
def vintOpen (c : Packet) (s : State) : Res :=
  checks [(c.handle == 0#32, .badParam, 12), objZero c, gate (s.vintGate 0)]
    (if s.twin.st = .sync then .fail .busy 0
    else
      match s.vin.vint with
      | some v => .fail .busy v.handle
      | none =>
        if s.freeRegions = 0 then .pend 0 s
        else
          let (h, s) := s.openNext
          .data [wd h] s)

/-- One embedded command of VINT_STAGE: opcode and packet from its words. -/
def embedded (c : Packet) (ws : List Word) : Nat × Packet :=
  let h := nth ws 0 0#32
  let n := (nth ws 1 0#32).fld 31 16
  (h.fld 15 0, { path := c.path, flags := BitVec.ofNat 8 (h.fld 23 16), format := BitVec.ofNat 8 (h.fld 31 24)
                 tag := BitVec.ofNat 16 ((nth ws 1 0#32).fld 15 0), plen := BitVec.ofNat 16 n
                 objectId := nth ws 2 0#32, handle := nth ws 3 0#32, params := (ws.drop 4).take n })

/-- Execute the embedded commands from word `i` on: `k` have been executed. -/
def stageRun (c : Packet) : Nat → Nat → Nat → List Word → State → Res
  | 0, _, k, _, s => .done .ok 0 [wd k, 0#32] s
  | fuel + 1, i, k, ws, s =>
    if ws.isEmpty then .done .ok 0 [wd k, 0#32] s
    else
      let off := 16 + 4 * i
      let bad (st : Status) (d : Nat) : Res := .failData st (off + d) [wd k, wd d]
      let (op, e) := embedded c ws
      if ws.length < 4 then bad .badLength 6
      else if e.format ≠ 1#8 then bad .badParam 3
      else if e.flags ≠ 0#8 then bad .badParam 2
      else if e.tag ≠ 0#16 then bad .badParam 4
      else if ws.length < 4 + e.plen.toNat then bad .badLength 6
      else
        match stagedBody op, cmdInfo op with
        | some body, some info =>
          if !info.lenOk e.plen.toNat then bad (if e.plen = 0#16 then .badZero else .badLength) 6
          else if e.handle ≠ 0#32 then bad .badParam 12
          else
            match stageOne op body { e with handle := c.handle } s with
            | .done .noResource d _ t => .done .noResource k [wd k, wd d] t
            | .done .ok _ _ t =>
              stageRun c fuel (i + 4 + e.plen.toNat) (k + 1) (ws.drop (4 + e.plen.toNat)) (t.relayStaged op e)
            | .done st d _ _ => .failData st (if st = .badParam ∨ st = .badLength ∨ st = .badZero then off + d else k) [wd k, wd d]
            | .fail st d => .failData st (if st = .badParam ∨ st = .badLength ∨ st = .badZero then off + d else k) [wd k, wd d]
            | r => r
        | _, _ => bad .badParam 0

/-- VINT_STAGE (R250). -/
def vintStage (c : Packet) (s : State) : Res :=
  checks [(c.handle != 0#32, .badParam, 12), objZero c, gate (s.vintGate 0)]
    (match s.openVint with
    | none => .fail .notFound 0
    | some v =>
      if v.handle ≠ c.handle.toNat then .fail .notFound 0
      else
        match stageRun c (c.params.length + 1) 0 0 c.params s with
        | .done .noResource d ws t => .done .noResource d ws (s.refusedOf t)
        | r => r)

/-- The commit of a vintage, timed or not. -/
def commitRun (c : Packet) (at_ : Option Nat) (s : State) : Res :=
  match s.vin.vint with
  | none => .fail .notFound 0
  | some v =>
    if v.handle ≠ c.handle.toNat then .fail .notFound 0
    else if v.state == .prepared then
      let t := (s.vintM fun v => { v with standalone := true }).commitCycle .ok 0
      .data (commitWords { v with standalone := true } t.ns32) t
    else if v.state != .opened then .fail .notFound 0
    else
      match s.commitCheck v with
      | some (code, i) => .fail .conflict (code + 256 * i)
      | none =>
        let now := s.time.line.t
        let soon := (at_.map fun x => decide (x < now + 131072000)).getD false
        let t := (s.vintM fun v => { v with at? := at_, atOnce := soon }).commitSlot
        if t.vin.vint.isNone then
          let l : Status × Nat := match at_ with
            | some x => (.okAdjusted, (lateOf x now).2)
            | none => (.ok, 0)
          .done l.1 l.2 (commitWords ((t.vin.last).getD v) t.ns32) t
        else .pend 0 t

/-- VINT_COMMIT (R237, R252). -/
def vintCommit (c : Packet) (s : State) : Res :=
  checks [(c.handle != 0#32, .badParam, 12), objZero c, gate (s.vintGate c.handle.toNat)] (commitRun c none s)

/-- VINT_COMMIT_AT (R240, R251). -/
def vintCommitAt (c : Packet) (s : State) : Res :=
  let t := (c.n 0 + 1000000000 * (c.n 1 + 4294967296 * (c.w 2).fld 15 0)) * 65536
  checks [(c.handle != 0#32, .badParam, 12), objZero c, reserved c 2 0xFFFF, gate (s.vintGate 0), within c 0 31 0 0 999999999]
    (commitRun c (some t) s)

/-- VINT_ABORT (R253). -/
def vintAbort (c : Packet) (s : State) : Res :=
  checks [objZero c, gate (s.vintGate c.handle.toNat)]
    (match s.vin.vint with
    | none => .fail .notFound 0
    | some v =>
      if v.handle ≠ c.handle.toNat then .fail .notFound 0
      else
        let s := if s.mode.mode == .twinActive then s.twinSend 0 0x16 (leBytes 4 v.handle) else s
        .data [wd v.ops] s.abortVint)

/-- The 32 words of VINT_STATUS for a vintage, if there is one. Whether a rebasing pass is in progress is a free value, for the spec gives a pass a length and no start; bit 7 of word 0 is 0, since no command runs inside the one step in which a commit checks its vintage. -/
def State.vintWords (s : State) (v : Option Vintage) : List Word :=
  let w0 := match v with
    | some v => v.state.code + 8 * b2n v.diverged + 16 * b2n v.standalone + 32 * v.slot
    | none => 0
  let slot (i : Nat) : List Word :=
    let x := nth s.vin.slots i {}
    [wd (x.epoch + 65536 * b2n x.live + 131072 * b2n (i == s.vin.cur)
        + 262144 * b2n (!x.live && s.vin.regions.contains x.epoch)),
     wd x.pass, wd x.recirc, wd x.hold, wd x.frag, wd x.commitNs]
  [wd w0, wd ((v.map fun (x : Vintage) => x.handle).getD 0), wd ((v.map fun (x : Vintage) => x.n).getD 0 + 65536 * s.epoch),
    wd ((v.map fun (x : Vintage) => x.ops).getD 0), (v.map fun (x : Vintage) => x.digest).getD 0#32,
    wd (s.freeRegions + 256 * (Config.freeValue s.free % 2) + 65536 * s.vin.rebased)]
    ++ (List.range 4).flatMap slot ++ [wd s.vin.retired, wd s.vin.maxWait]

/-- VINT_STATUS (R254). -/
def vintStatus (c : Packet) (s : State) : Res :=
  let v := match s.vin.vint with
    | some v => some v
    | none => s.vin.last
  let named := [s.vin.vint, s.vin.last].findSome? fun o => o.filter fun (v : Vintage) => v.handle == c.handle.toNat
  checks [objZero c]
    (if c.handle = 0#32 then .data (s.vintWords v) s.drawn
    else
      match named with
      | some v => .data (s.vintWords (some v)) s.drawn
      | none => .fail .notFound 0)

/-! ## Messages of the twin commit (R245, R246) -/

/-- Vintage OPEN on the standby: the same vintage with the same N, or a refusal. -/
def State.standbyOpen (s : State) (handle : Nat) : State :=
  if s.mode.mode != .twinStandby then s
  else if s.vin.vint.isNone && decide (0 < s.freeRegions) && handle % 65536 == nextEpoch s.epoch then s.openWith handle
  else s.twinSend 0 0x14 (leBytes 4 handle ++ leBytes 4 1 ++ leBytes 4 0)

/-- The standby side of a full mirror under way. -/
def State.syncing (s : State) : Bool := s.twin.st == .sync && !s.run.syncActive

/-- Vintage STAGE on the standby: executed against its own tables; a failure marks the vintage diverged. -/
def State.standbyStage (s : State) (op : Nat) (c : Packet) : State :=
  if (s.mode.mode != .twinStandby && !s.syncing) || s.openVint.isNone then s
  else
    match stagedBody op with
    | none => s.vintM fun v => { v with diverged := true }
    | some body =>
      match stageOne op body c s with
      | .done .ok _ _ t => t
      | .done .noResource _ _ t => (s.refusedOf t).vintM fun v => { v with diverged := true }
      | _ => s.vintM fun v => { v with diverged := true }

/-- Send a refusal of a vintage. -/
def State.refuseVint (s : State) (handle detail index : Nat) : State :=
  s.twinSend 0 0x14 (leBytes 4 handle ++ leBytes 4 detail ++ leBytes 4 index)

/-- The prepare message on the standby: count and digest, divergence, the checks of R239, a slot, then READY or REFUSE. -/
def State.standbyPrepare (s : State) (handle ops : Nat) (digest : Word) (at_ : Option Nat) : State :=
  if s.mode.mode != .twinStandby then s
  else
    match s.openVint.filter fun (v : Vintage) => v.handle == handle with
    | none => s.refuseVint handle 1 0
    | some v =>
      if v.ops ≠ ops ∨ v.digest ≠ digest then s.refuseVint handle 1 0
      else if v.diverged then s.refuseVint handle 2 0
      else
        match s.commitCheck v with
        | some (code, i) => s.refuseVint handle (3 + 256 * code) i
        | none => (s.vintM fun v => { v with prepareSeen := true, at? := at_ }).commitSlot

/-- The ready message on the active engine: its commit cycle, or its arming. -/
def State.activeReady (s : State) (handle : Nat) : State :=
  match s.vin.vint with
  | some v => if v.state == .waitTwin && v.handle == handle then s.commitTime else s
  | none => s

/-- The refusal on the active engine: the vintage stays open and the commit ends with TWIN_REFUSED. -/
def State.activeRefuse (s : State) (handle detail index : Nat) : State :=
  match s.vin.vint with
  | some v =>
    if v.state == .waitTwin && v.handle == handle then
      (s.vintM fun v => { v with state := .opened, at? := none }).completePended (isCommitOf v) .twinRefused detail
        [0#32, if detail % 256 = 3 then wd index else 0#32]
    else s
  | none => s

/-- The commit message on the standby. -/
def State.standbyCommit (s : State) (handle : Nat) : State :=
  match s.vin.vint with
  | some v => if v.state == .prepared && v.handle == handle then s.commitCycle .ok 0 else s
  | none => s

/-- The abort message on the standby. -/
def State.standbyAbort (s : State) (handle : Nat) : State :=
  match s.vin.vint with
  | some v => if s.mode.mode == .twinStandby && v.handle == handle then s.abortVint else s
  | none => s

/-- What a standby does with the relayed vintage at takeover (R246). -/
def State.takeoverVint (s : State) : State :=
  match s.vin.vint with
  | some v => if v.prepareSeen then s.commitAlone else s.abortVint
  | none => s

end Sys2Proof.Machine
end

