-- ==== Sys2Proof/Machine/Sa.lean ====
section
/-!
DEFINITION. Security associations: spill and fetch, mirror messages, the leap of one SA, and class 0x07 (R283 to R291, R299, R306 to R311, R317 to R319, R465, R471).
-/
namespace Sys2Proof.Machine

/-! ## Ways and window slots (R283, R284, R310) -/

/-- A pinned SA (R284). -/
def State.saPinned (s : State) (r : SaRes) : Bool :=
  r.lost || r.pin || (r.outbound && !r.wasBound) || (!r.outbound && r.esp && r.replay && s.cip.pinEspInbound) || r.generation == 0xFFFFFFFF

/-- SAs that hold a way of the set of an index. -/
def State.setHolders (s : State) (i : Nat) : List (Nat × SaRes) :=
  s.cip.sas.filter fun e => e.1 % 32768 == i % 32768 && (e.2.ctx.isSome || e.2.lost)

/-- Window slots held. -/
def State.windowSlots (s : State) : List Nat := s.cip.sas.filterMap fun e => e.2.windowSlot

/-- The lowest free window slot. -/
def State.freeWindow (s : State) : Option Nat :=
  let used := s.windowSlots
  if 131072 ≤ used.length then none else (List.range (used.length + 1)).find? fun w => !used.contains w

/-- The oldest by age among candidates, the lowest index of equals. -/
def oldestSa : List (Nat × SaRes) → Option (Nat × SaRes)
  | [] => none
  | e :: es =>
    match oldestSa es with
    | some x => if e.2.age < x.2.age then some x else some e
    | none => some e

/-- SAs that may be evicted: resident, unpinned, without frames in flight. -/
def State.evictable (s : State) (l : List (Nat × SaRes)) : List (Nat × SaRes) :=
  l.filter fun e => e.2.ctx.isSome && !s.saPinned e.2 && e.2.refs == 0 && !e.2.retiring

/-- An SA is used: the youngest of its set. -/
def State.touchSa (s : State) (i : Nat) : State :=
  s.cipM fun k => { k with sas := Tbl.mapV k.sas fun j r =>
    if j = i then { r with age := 0 }
    else if j % 32768 = i % 32768 then { r with age := satAdd 8 r.age 1 } else r }

/-! ## Thresholds and the leap (R301, R471) -/

/-- Payload of SA_THRESHOLD and SA_EXHAUSTED. -/
def State.saEventWords (s : State) (i n group : Nat) : List Word :=
  w64 n ++ [wd ((s.bindingOf i).getD 0 + 65536 * group)]

/-- The threshold is reached by a number. -/
def State.raiseThreshold (s : State) (i n : Nat) (a : Sa) : Sa × State :=
  if !a.thrRaised && decide (a.threshold ≤ n) then
    ({ a with thrRaised := true },
     (s.cipM fun k => { k with thresholds := sat32 k.thresholds }).postEvent 0x0701 i (s.saEventWords i n a.group))
  else (a, s)

/-- The SA is exhausted. -/
def State.exhaust (s : State) (i n : Nat) (a : Sa) : Sa × State :=
  ({ a with exhausted := true },
   (s.cipM fun k => { k with exhaustions := sat32 k.exhaustions }).postEvent 0x0702 i (s.saEventWords i n a.group))

/-- The stride of the mirror. -/
def State.stride (s : State) : Nat := 2 ^ s.twin.strideLog2

/-- The leap of one context. -/
def State.leapCtx (s : State) (i : Nat) (a : Sa) : Sa × State :=
  if a.outbound then
    if s.run.leapStale then ({ a with exhausted := true }, s)
    else
      let n := a.pn + 2 * s.stride
      let a := { a with pn := min n 18446744073709551615 }
      let (a, s) := s.raiseThreshold i n a
      if a.last < n ∧ !a.exhausted then s.exhaust i n a else (a, s)
  else if a.replayOff then (a, s)
  else ({ a with pn := min a.last (a.pn + 2 * s.stride), window := 2 ^ a.windowBits - 1 }, s)

/-! ## Sealing and fetching (R308, R309) -/

/-- The generation a reference expects of an SA's record; none where no binding or SCI slot names it. -/
def State.expected (s : State) (i : Nat) : Option Nat :=
  match s.bindingOf i with
  | some b => (s.binding b).map (·.generation)
  | none => (s.sciSlot i).map fun x => x.2.2.2.2

/-- Set the generation in an SA and its reference. -/
def State.setGeneration (s : State) (i g : Nat) : State :=
  let s := s.saM i fun r => { r with generation := g }
  match s.bindingOf i with
  | some b => s.cipM fun k => { k with bindings := match Tbl.look k.bindings b with
      | some e => Tbl.put k.bindings b { e with generation := g }
      | none => k.bindings }
  | none =>
    match s.sciSlot i with
    | some (gr, p, sci, an, _) => s.cipM fun k => { k with sci := sciUpd k.sci gr p sci an (some (i, g)) }
    | none => s

/-- Nonce of a record. -/
def recNonce (i count : Nat) : Bytes := leBytes 4 i ++ leBytes 8 count

/-- Additional data of a record. -/
def recAad (addr i : Nat) : Bytes := leBytes 8 addr ++ leBytes 4 i

/-- Seal a context into its record; its way and window slot are free. -/
def State.sealSa (s : State) (i : Nat) (a : Sa) : State :=
  let n := s.cip.sealCount + 1
  let addr := s.recAddr i
  let key := s.cip.sealKey.getD []
  let ct := Aes.gcmSeal key (recNonce i n) (recAad addr i) (a.bytes ++ leBytes 128 a.window)
  let s := (s.ddrStore addr (leBytes 8 n ++ ct)).cipM fun k => { k with sealCount := n, device := updAt k.device 1 sat32 }
  let s := s.perfCipher 0x11 1
  (s.saM i fun r => { r with ctx := none, windowSlot := none }).setGeneration i (n % 4294967296)

/-- Evict an SA; one that the leap sweep has not reached leaps first, as its record will be younger than the takeover. -/
def State.evictSa (s : State) (e : Nat × SaRes) : State :=
  match e.2.ctx with
  | some a =>
    let (a, s) := if s.run.leaping && !s.run.leapt.contains e.1 then s.leapCtx e.1 a else (a, s)
    ((s.sealSa e.1 a).perfCipher 0x12 1).cipM fun k => { k with device := updAt k.device 2 sat32 }
  | none => s

/-- Make room in a set: free already, or by evicting. -/
def State.makeWay (s : State) (i : Nat) : Option State :=
  let h := s.setHolders i
  if h.length < 8 then some s
  else if !s.cip.spillEnable then none
  else (oldestSa (s.evictable h)).map fun e => s.evictSa e

/-- Make a window slot free. -/
def State.makeWindow (s : State) : Option (Nat × State) :=
  match s.freeWindow with
  | some w => some (w, s)
  | none =>
    if !s.cip.spillEnable then none
    else
      match oldestSa (s.evictable (s.cip.sas.filter fun e => e.2.windowSlot.isSome)) with
      | some e => e.2.windowSlot.map fun w => (w, s.evictSa e)
      | none => none

/-- The record of an SA opened: its seal count and context, none when a check fails. -/
def State.openRec (s : State) (i : Nat) : Option (Nat × Sa) × State :=
  let addr := s.recAddr i
  let (b, s) := s.ddrLoad addr 256 0x50
  match b with
  | none => (none, s)
  | some b =>
    let n := leNat (b.take 8)
    let good := match s.expected i with
      | some g => n % 4294967296 == g
      | none => true
    match Aes.gcmOpen (s.cip.sealKey.getD []) (recNonce i n) (recAad addr i) (bytesAt b 8 232) (bytesAt b 240 16) with
    | some pt => if good then (some (n, Sa.ofBytes (pt.take 104) (leNat (bytesAt pt 104 128))), s) else (none, s)
    | none => (none, s)

/-- Mark an SA lost (R309). -/
def State.loseSa (s : State) (i : Nat) : State :=
  ((s.saM i fun r => { r with lost := true, ctx := none, windowSlot := none }).cipM fun k =>
    { k with device := updAt k.device 3 sat32 }).fault 0xD0 (0x40 + ((s.sa i).map (·.group)).getD 0) 1 i 0

/-- Mark a spilled SA lost: it takes a pinned way of its set, which an eviction frees where none is free (R309). -/
def State.loseSpilled (s : State) (i : Nat) : State := ((s.makeWay i).getD s).loseSa i

/-! ## Fetch -/

/-- How a fetch ends. -/
inductive Fetched
  /-- The SA is resident. -/
  | here
  /-- It is lost. -/
  | lost
  /-- No way or slot could be had. -/
  | noWay
deriving DecidableEq, Repr

/-- Fetch a spilled SA (R309, R310); a record sealed before a takeover leaps first (R471). -/
def State.fetchSa (s : State) (i : Nat) : Fetched × State :=
  match s.sa i with
  | none => (.lost, s)
  | some r =>
    if r.ctx.isSome then (.here, s)
    else if r.lost then (.lost, s)
    else
      match s.makeWay i with
      | none => (.noWay, s)
      | some s1 =>
        let slot := if !r.outbound && r.replay then s1.makeWindow else some (0, s1)
        match slot with
        | none => (.noWay, s)
        | some (w, s) =>
          let s := (s.perfCipher 0x10 1).cipM fun k => { k with device := updAt k.device 0 sat32 }
          match s.openRec i with
          | (none, s) => (.lost, s.loseSa i)
          | (some (n, a), s) =>
            let (a, s) := match s.run.leapSeal with
              | some k => if n ≤ k then s.leapCtx i a else (a, s)
              | none => (a, s)
            let a := { a with frozen := a.frozen || (a.outbound && a.wasBound && (s.bindingOf i).isNone) }
            let s := if s.run.leaping then s.runM fun r => { r with leapt := r.leapt ++ [i] } else s
            (.here, (s.saM i fun r => { r with
              ctx := some a, exhausted := a.exhausted, windowSlot := if !r.outbound && r.replay then some w else none }).touchSa i)

/-! ## Mirror messages (R458, R464 to R468) -/

/-- Changes of SA state go to the standby. -/
def State.mirrors (s : State) : Bool :=
  !s.cmds.applying
    && (s.mode.mode == .twinActive || s.run.syncActive || (s.mode.mode == .drain && s.mode.drainFrom == .twinActive && s.twin.st == .inSync))

/-- Send CONTEXT for an SA; for an outbound one it counts as a record of its number (R466). -/
def State.sendContext (s : State) (i : Nat) (a : Sa) : State :=
  let s := s.twinSend 1 0x42 (leBytes 4 i ++ a.bytes ++ leBytes 128 a.window)
  if a.outbound then s.twinM fun t => { t with sent := t.sent ++ [(i, a.pn, t.mirrorSent)] } else s

/-- The 16 bytes of a binding entry (R287). -/
def State.bindingBytes (s : State) (b : Nat) : Bytes :=
  match s.binding b with
  | some e =>
    leBytes 3 (e.sa + 4194304 * b2n e.valid)
      ++ [by8 (e.group + 8 * b2n e.esp + 16 * b2n e.tunnel + 32 * b2n e.udp)]
      ++ leBytes 4 e.generation ++ leBytes 2 (Tbl.lookD s.act.bindRefs b 0) ++ List.replicate 6 0#8
  | none => List.replicate 8 0#8 ++ leBytes 2 (Tbl.lookD s.act.bindRefs b 0) ++ List.replicate 6 0#8

/-- Send BINDING. -/
def State.sendBinding (s : State) (b : Nat) : State := s.twinSend 1 0x43 (leBytes 4 b ++ s.bindingBytes b)

/-- Send SCI for an entry. -/
def State.sendSci (s : State) (group port sci : Nat) : State :=
  let slots := match s.cip.sci.find? fun e => e.group == group && e.port == port && e.sci == sci with
    | some e => e.slots
    | none => [none, none, none, none]
  s.twinSend 1 0x44 ([by8 group, by8 port, 0#8, 0#8] ++ beBytes 8 sci ++ slots.flatMap fun x => match x with
    | some (i, _) => leBytes 4 (i + 4194304)
    | none => leBytes 4 0)

/-- Send RETIRE. -/
def State.sendRetire (s : State) (i : Nat) : State := s.twinSend 1 0x45 (leBytes 4 i)

/-- The word of CIPHER_PORT_SET. -/
def CipherPort.word (p : CipherPort) : Word := wd (p.accept + 4 * b2n p.landUnprotected)

/-- Send PORT. -/
def State.sendPort (s : State) (p : Nat) : State :=
  s.twinSend 1 0x46 (leBytes 4 p ++ leBytes 4 (Tbl.lookD s.cip.ports p {}).word.toNat)

/-- Send WINDOW (R468). -/
def State.sendWindow (s : State) (i : Nat) (a : Sa) : State :=
  s.twinSend 1 0x41 (leBytes 4 i ++ leBytes 8 a.pn ++ leBytes (a.windowBits / 8) a.window)

/-- End a change of class 0x07: at once, or when the standby's ACK covers its message (R465). -/
def mirrored (c : Packet) (detail : Nat) (undo : Undo) (s : State) : Res :=
  if s.mode.mode = .twinActive ∧ !s.cmds.applying then
    let w : AckWait := { path := c.path, tag := c.tagNo, counter := s.twin.mirrorSent, detail := detail, undo := undo }
    .hold 0 (s.twinM fun t => { t with waits := t.waits ++ [w] })
  else .done .ok detail [] s

/-- What the mode lets a command that changes class 0x07 state do (R465). -/
def State.saGate (s : State) (onStandby : Bool) : Option (Status × Nat) :=
  match s.mode.mode with
  | .takeover => some (.busy, 0)
  | .twinStandby => if onStandby then none else some (.twinRefused, 4)
  | _ => none

/-! ## SA_INSTALL (R290, R291) -/

/-- An SA index: 22 bits. -/
def saIndex (c : Packet) : Bool × Status × Nat := (decide (c.obj < 4194304), .badParam, 8)

/-- The object_id, the reserved bits and the zero-valued field of SA_INSTALL. -/
def installHead (c : Packet) : List (Bool × Status × Nat) :=
  [saIndex c, reserved c 0 0x1FFF, reserved c 1 0x33F07, reserved c 2 0x7FF, reserved c 3 0xFFFFF,
   ((c.w 0).bit 0 || (c.w 0).bit 4 || (c.w 2).fld 10 0 != 0, .badZero, 24)]

/-- Fields of SA_INSTALL that the protocol or the direction gives no meaning are zero, and the others in range. -/
def installFields (c : Packet) : List (Bool × Status × Nat) :=
  let w := c.w 0
  let out := w.bit 0
  let esp := w.bit 1
  let ext := w.bit 2
  let off := w.bit 4
  let last := if ext then 18446744073709551615 else 0xFFFFFFFF
  let rw := (c.w 2).fld 10 0
  let pn := c.n 6 + 4294967296 * c.n 7
  let thr := c.n 8 + 4294967296 * c.n 9
  let udpT := esp && w.bit 6 && !w.bit 5
  [fieldIs 0 0 (!(out && off) && (esp || !(w.bit 5 || w.bit 6)) && (!w.bit 7 || (out && !esp))),
   fieldIs 0 8 ((!esp || w.fld 9 8 == 0) && (!w.bit 11 || (!out && esp && w.bit 5))),
   fieldIs 1 8 (if !out && !esp then (c.w 1).fld 13 8 / 8 == (c.w 1).fld 2 0 else (c.w 1).fld 13 8 == 0),
   fieldIs 1 16 (!esp || (c.w 1).fld 17 16 == 0),
   fieldIs 2 0 (if out || off then rw == 0 else rw % 64 == 0 && decide (rw ≤ 1024)),
   fieldIs 4 0 (!esp || c.n 4 == 0), fieldIs 5 0 (!esp || c.n 5 == 0),
   fieldIs 6 0 (pn != 0 && decide (pn ≤ last)),
   fieldIs 8 0 (decide (thr ≤ last) && (out || thr == 0)),
   fieldIs 10 0 (if !esp then c.n 10 == 0 else out || c.n 10 % 4194304 == c.obj),
   fieldIs 11 0 (if udpT then (c.w 11).fld 15 0 != 0 else (!esp && ext) || c.n 11 == 0),
   fieldIs 11 16 (!udpT || (c.w 11).fld 31 16 != 0),
   fieldIs 12 0 (esp || ext || c.n 12 == 0),
   fieldIs 13 0 ((!esp && ext) || c.n 13 == 0), fieldIs 14 0 ((!esp && ext) || c.n 14 == 0)]
   ++ (if w.bit 3 then [] else (List.range 4).map fun k => fieldIs (22 + k) 0 (c.n (22 + k) == 0))

/-- The context SA_INSTALL asks for. -/
def installCtx (c : Packet) (key : Bytes) (serial : Nat) : Sa :=
  let w := c.w 0
  let out := w.bit 0
  let ext := w.bit 2
  let pn := c.n 6 + 4294967296 * c.n 7
  let thr := c.n 8 + 4294967296 * c.n 9
  let bits := (c.w 2).fld 10 0
  let udpT := w.bit 1 && w.bit 6 && !w.bit 5
  { key := bytesAt key 0 32, salt := wordsBytes [c.w 12, c.w 13, c.w 14], ssci := if udpT then 0 else c.n 11
    sci := beNat (wordsBytes [c.w 4, c.w 5])
    pn := if out then pn else pn - 1
    threshold := if !out then 0 else if thr = 0 then (if ext then 4611686018427387904 else 2147483648) else thr
    spi := c.n 10
    flags := 1 + 2 * b2n out + 4 * b2n (w.bit 1) + 8 * b2n ext + 16 * b2n (w.bit 3) + 32 * b2n (w.bit 4) + 64 * b2n (w.bit 5)
      + 128 * b2n (w.bit 6)
    conf := w.fld 9 8, includeSci := w.bit 7, outerKeep := w.bit 11, pin := w.bit 10
    an := (c.w 1).fld 17 16, group := (c.w 1).fld 2 0, port := (c.w 1).fld 13 8, windowBits := bits, window := 2 ^ bits - 1
    counter := (c.w 3).fld 19 0, countEn := w.bit 12, serial := serial
    udpSrc := if udpT then (c.w 11).fld 15 0 else 0, udpDst := if udpT then (c.w 11).fld 31 16 else 0 }

/-- The fixed properties of an SA with a context. -/
def Sa.res (a : Sa) : SaRes :=
  { ctx := some a, outbound := a.outbound, esp := a.esp, group := a.group, replay := !a.outbound && !a.replayOff, pin := a.pin
    wasBound := a.wasBound, spiSalt := if a.esp && !a.outbound then a.spi / 4194304 else 0, exhausted := a.exhausted, includeSci := a.includeSci }

/-- Fill the SCI slot of an inbound MACsec SA. -/
def State.fillSci (s : State) (i : Nat) (a : Sa) : State :=
  s.cipM fun k =>
    let l := if k.sci.any (fun e => e.group == a.group && e.port == a.port && e.sci == a.sci) then k.sci
      else k.sci ++ [{ group := a.group, port := a.port, sci := a.sci }]
    { k with sci := (l.map fun e => if e.group = a.group ∧ e.port = a.port ∧ e.sci = a.sci then { e with slots := updAt e.slots a.an fun _ => some (i, 0) } else e) }

/-- Put a new SA into a way, or straight into its record where its set holds no free way: 1 or 0 of R291, or the detail of NO_RESOURCE. An SA that may spill and finds every window slot pinned or in use is sealed too: the table of R291 has no other end for it. -/
def State.placeSa (s : State) (i : Nat) (a : Sa) : Except Nat (Nat × State) :=
  let r := a.res
  let must := s.saPinned r
  let holders := s.setHolders i
  let full := decide (8 ≤ holders.length)
  let noWin := r.replay && s.freeWindow.isNone
  if must && full && holders.all (fun e => s.saPinned e.2) then .error 2
  else if must && noWin && (s.cip.sas.all fun e => e.2.windowSlot.isNone || s.saPinned e.2) then .error 3
  else if (full || noWin) && !s.cip.spillEnable then .error 4
  else
    let sealed : Except Nat (Nat × State) :=
      let s := s.cipM fun k => { k with sas := Tbl.put k.sas i r }
      let s := if r.outbound || r.esp then s else s.fillSci i a
      .ok (0, s.sealSa i a)
    if !must && full then sealed
    else
    match s.makeWay i with
    | none => .error 4
    | some t =>
      match (if r.replay then t.makeWindow else some (0, t)) with
      | none => if must then .error 4 else sealed
      | some (w, s) =>
        let r := { r with windowSlot := if r.replay then some w else none }
        let s := s.cipM fun k => { k with sas := Tbl.put k.sas i r }
        let s := if r.outbound || r.esp then s else s.fillSci i a
        .ok (1, s.touchSa i)

/-- SA_INSTALL. -/
def saInstall (c : Packet) (s : State) : Res :=
  let w := c.w 0
  let g := (c.w 1).fld 2 0
  let p := (c.w 1).fld 13 8
  let sci := beNat (wordsBytes [c.w 4, c.w 5])
  let inMac := !w.bit 0 && !w.bit 1
  let ent := s.cip.sci.find? fun e => e.group == g && e.port == p && e.sci == sci
  let slotTaken := match ent with
    | some e => (nth e.slots ((c.w 1).fld 17 16) none).isSome
    | none => false
  checks (installHead c ++ gate (s.saGate false) :: installFields c ++
        [((s.sa c.obj).isNone, .conflict, 0),
         (s.cmds.kwk.isSome && c.n 15 == s.cmds.kwkGen, .conflict, 1),
         (!(inMac && slotTaken), .conflict, 2)])
      (match Aes.unwrap (s.cmds.kwk.getD []) ((wordsBytes (c.params.drop 16)).take (if w.bit 3 then 40 else 24)) with
      | none => .fail .integrity 0
      | some key =>
        if inMac && ent.isNone && decide (4096 ≤ (s.cip.sci.filter fun e => e.group == g).length) then .fail .noResource 1
        else
          let n := s.cip.installs + 1
          let a := installCtx c key (n % 4294967296)
          match s.placeSa c.obj a with
          | .error d => .fail .noResource d
          | .ok (d, s) =>
            let s := s.cipM fun k => { k with installs := n }
            let s := if s.mirrors then
                let s := s.sendContext c.obj a
                if inMac then s.sendSci g p sci else s
              else s
            mirrored c d (.install c.obj) s)

/-! ## SA_RETIRE, SA_SWITCH (R306, R307) -/

/-- SA_RETIRE. -/
def saRetire (c : Packet) (s : State) : Res :=
  checks [saIndex c, gate (s.saGate false)]
      (match s.sa c.obj with
      | none => .fail .notFound 0
      | some r =>
        if r.retiring then .fail .notFound 0
        else
          match s.bindingOf c.obj with
          | some b => .fail .conflict b
          | none =>
            let slot := s.sciSlot c.obj
            let s := (s.clearSci c.obj).saM c.obj fun r => { r with retiring := true }
            let s := if s.mirrors then
                let s := s.sendRetire c.obj
                match slot with
                | some (g, p, sci, _, _) => s.sendSci g p sci
                | none => s
              else s
            let s := if s.mode.mode = .twinActive then
                let w : AckWait := { path := c.path, tag := c.tagNo, counter := s.twin.mirrorSent, detail := 0, undo := .retire c.obj slot }
                s.twinM fun t => { t with waits := t.waits ++ [w] }
              else s
            if r.refs ≠ 0 ∨ r.fetching then .pend 0 s
            else if s.retireWaits c.obj then .hold 0 s
            else .ok ((s.removeSa c.obj).cipM fun k => { k with retirements := sat32 k.retirements }))

/-- Freeze an SA that a binding has left (R306). -/
def State.freezeSa (s : State) (i : Nat) : State := s.ctxM i fun a => { a with frozen := true }

/-- Point a binding at an SA. -/
def State.bindTo (s : State) (b i : Nat) (a : Sa) : State :=
  let gen := ((s.sa i).map (·.generation)).getD 0
  let e : Binding := { sa := i, valid := true, group := a.group, esp := a.esp, tunnel := a.tunnel, udp := a.udp, generation := gen }
  let s := s.cipM fun k => { k with bindings := Tbl.put k.bindings b e }
  (s.saM i fun r => { r with wasBound := true }).ctxM i fun a => { a with wasBound := true }

/-- SA_SWITCH. -/
def saSwitch (c : Packet) (s : State) : Res :=
  let w := c.w 0
  let i := w.fld 21 0
  let unbind := w.bit 31
  let old := s.binding c.obj
  let oldSa := s.boundSa c.obj
  let refs := Tbl.lookD s.act.bindRefs c.obj 0
  checks [objBelow c 65536, reserved c 0 0x803FFFFF, gate (s.saGate false), fieldIs 0 0 (!(unbind && i != 0))]
      (if unbind then
        checks [(!s.bindHeld c.obj, .conflict, refs)]
          (match old, oldSa with
          | some e, some o =>
            let s := (s.cipM fun k => { k with bindings := Tbl.put k.bindings c.obj { e with valid := false } }).freezeSa o
            let s := if s.mirrors then s.sendBinding c.obj else s
            mirrored c o (.switch c.obj old) s
          | _, _ => .done .ok 0xFFFFFFFF [] s)
      else
        match s.sa i with
        | none => .fail .notFound 0
        | some r =>
          if r.retiring then .fail .notFound 0
          else if oldSa = some i then .done .ok i [] s
          else
            match r.ctx with
            | none => .fail .conflict 1
            | some a =>
              let other := match s.bindingOf i with
                | some b => b != c.obj
                | none => false
              let differs := match old with
                | some e => e.valid && (e.group != a.group || e.esp != a.esp || e.tunnel != a.tunnel || e.udp != a.udp)
                | none => false
              checks [(a.outbound && !a.frozen && !other && !a.exhausted, .conflict, 1), (!differs, .conflict, 2)]
                (let s := s.bindTo c.obj i a
                 let s := match oldSa with
                  | some o => s.freezeSa o
                  | none => s
                 let s := if s.mirrors then s.sendBinding c.obj else s
                 mirrored c (oldSa.getD 0xFFFFFFFF) (.switch c.obj old) s))

/-! ## SA_READ, SA_SPILL_POLICY and the others (R311, R317 to R319) -/

/-- The 128 bytes SA_READ shows of a context, key and salt as zero. -/
def saShow (i : Nat) (a : Option Sa) (r : SaRes) : Bytes :=
  let b := match a with
    | some a => List.replicate 44 0#8 ++ a.bytes.drop 44
    | none => List.replicate 104 0#8
  b ++ leBytes 3 (i + 4194304 * b2n (r.ctx.isSome || r.lost) + 8388608 * b2n r.lost) ++ [by8 r.age]
    ++ leBytes 4 (match r.windowSlot with
      | some w => w + 131072
      | none => 0)
    ++ leBytes 4 r.refs ++ leBytes 4 r.generation ++ List.replicate 8 0#8

/-- SA_READ. -/
def saRead (c : Packet) (s : State) : Res :=
  checks [saIndex c]
    (match s.sa c.obj with
    | none => .fail .notFound 0
    | some r =>
      let tail := [wd (b2n (r.ctx.isSome || r.lost) + 2 * b2n (r.ctx.isNone && !r.lost) + 4 * b2n r.lost + 8 * b2n (s.saPinned r) + 16 * b2n r.retiring),
        wd ((s.bindingOf c.obj).getD 0xFFFFFFFF)]
      if r.ctx.isSome || r.lost then .data (bytesWords (saShow c.obj (r.ctx.map fun a => { a with pin := s.saPinned r }) r) ++ tail) s
      else
        match s.openRec c.obj with
        | (none, s) => .done .integrity 0 [] (s.loseSpilled c.obj)
        | (some (_, a), s) => .data (bytesWords (saShow c.obj (some a) r) ++ tail) s)

/-- The device form of SA_SPILL_POLICY. -/
def spillDevice (c : Packet) (s : State) : Res :=
  let en := (c.w 0).bit 0
  let base := c.n 1 + 4294967296 * c.n 2
  checks [(c.params.length == 3, .badLength, 6), reserved c 0 3, gate (s.saGate true), fieldIs 1 0 (base % 1073741824 == 0),
      (s.ddrReady && decide (base + 1073741824 ≤ s.ddr.capacity), .noResource, 0),
      (!(s.spilled != 0 && (base != s.cip.spillBase || !en)), .conflict, 0),
      (!(en && s.overlaps 0 base 1073741824), .conflict, 0)]
    (.ok (s.cipM fun k => { k with spillEnable := en, pinEspInbound := (c.w 0).bit 1, spillBase := base, spillPlaced := true }))

/-- The SA form of SA_SPILL_POLICY. -/
def spillSa (c : Packet) (s : State) : Res :=
  checks [(c.params.length == 1, .badLength, 6), saIndex c, reserved c 0 1, gate (s.saGate true)]
    (match s.sa c.obj with
    | none => .fail .notFound 0
    | some r =>
      let pins := ((s.setHolders c.obj).filter fun e => s.saPinned e.2).length
      let set (s : State) (b : Bool) : State := (s.saM c.obj fun r => { r with pin := b }).ctxM c.obj fun a => { a with pin := b }
      if r.retiring then .fail .notFound 0
      else if (c.w 0).bit 0 then
        if s.saPinned r && r.ctx.isSome then .ok (set s true)
        else if 8 ≤ pins then .fail .noResource 2
        else
          match s.fetchSa c.obj with
          | (.here, s) => .ok (set s true)
          | (.lost, s) => .done .integrity 0 [] s
          | (.noWay, _) => .fail .noResource 2
      else if s.saPinned { r with pin := false } then .fail .conflict 0
      else .ok (set s false))

/-- SA_SPILL_POLICY. -/
def saSpillPolicy (c : Packet) (s : State) : Res :=
  if c.obj = 0x80000000 then spillDevice c s else spillSa c s

/-- CIPHER_PORT_SET. -/
def cipherPortSet (c : Packet) (s : State) : Res :=
  let p := c.obj
  checks [(s.hasPort p, .notFound, 0), reserved c 0 7, gate (s.saGate false), fieldIs 0 0 ((c.w 0).fld 1 0 != 3), ((s.mport p).cipher, .conflict, 0)]
      (let old := Tbl.lookD s.cip.ports p {}
       let s := s.cipM fun k => { k with ports := Tbl.put k.ports p { accept := (c.w 0).fld 1 0, landUnprotected := (c.w 0).bit 2 } }
       let s := if s.mirrors then s.sendPort p else s
       mirrored c 0 (.port p old) s)

/-- BINDING_READ. -/
def bindingRead (c : Packet) (s : State) : Res := checks [objBelow c 65536] (.data (bytesWords (s.bindingBytes c.obj)) s)

/-- Counts of a group, sixteen of them (R319). -/
def State.cipCounts (s : State) (g : Nat) : List Nat := Tbl.lookD s.cip.counts g (List.replicate 16 0)

/-- Count one in a group: reasons 0x20 to 0x2B as 0 to 11, then encrypted, decrypted, bypass and stalls. -/
def State.cipCount (s : State) (g i : Nat) : State :=
  let s := if i = 12 then s.perf (2 * g + 1) 0x11 1 else if i = 13 then s.perf (2 * g + 1) 0x10 1 else s
  s.cipM fun k => { k with counts := Tbl.upd k.counts g (List.replicate 16 0) fun l => updAt l i sat32 }

/-- CIPHER_STATUS. -/
def cipherStatus (c : Packet) (s : State) : Res :=
  checks [objBelow c 9]
    (.data (if c.obj < 8 then (s.cipCounts c.obj).map wd
      else
        let n (f : SaRes → Bool) : Word := wd (s.cip.sas.filter fun e => f e.2).length
        [n (fun r => r.ctx.isSome || r.lost), n (fun r => (r.ctx.isSome || r.lost) && s.saPinned r), wd s.spilled, wd s.windowSlots.length,
         wd (nth s.cip.device 0 0), wd (nth s.cip.device 1 0), wd (nth s.cip.device 2 0), wd (nth s.cip.device 3 0)]) s)

/-! ## The binding of a copy (R299) -/

/-- A binding's fit for an intent toward a group: the reason it fails with, or none. -/
def State.bindingReason (s : State) (b intent : Nat) (espUdp : Bool) (group : Nat) : Option Nat :=
  match s.binding b with
  | none => some 0x27
  | some e =>
    if e.valid && e.group == group && (if intent = 1 then !e.esp else e.esp && (e.tunnel == (intent == 2))) && espUdp == e.udp then
      match s.sa e.sa with
      | some r => if r.exhausted then some 0x26 else none
      | none => some 0x27
    else some 0x27

/-! ## Mirror ACK and undo (R465) -/

/-- Undo a change the standby could not apply. -/
def State.undoMirrored (s : State) : Undo → State
  | .install i => (s.removeSa i).cipM fun k => { k with installs := k.installs - 1 }
  | .retire i slot =>
    let s := s.saM i fun r => { r with retiring := false }
    match slot with
    | some (g, p, sci, an, gen) =>
      s.cipM fun k =>
        let l := if k.sci.any (fun e => e.group == g && e.port == p && e.sci == sci) then k.sci
          else k.sci ++ [{ group := g, port := p, sci := sci }]
        { k with sci := l.map fun e => if e.group = g ∧ e.port = p ∧ e.sci = sci then { e with slots := updAt e.slots an fun _ => some (i, gen) } else e }
    | none => s
  | .switch b old =>
    let was := s.binding b
    let s := s.cipM fun k => { k with bindings := match old with
      | some e => Tbl.put k.bindings b e
      | none => Tbl.del k.bindings b }
    let s := match was with
      | some e => if e.valid then (s.saM e.sa fun r => { r with wasBound := false }).ctxM e.sa fun a => { a with wasBound := false } else s
      | none => s
    match old with
    | some e => if e.valid then s.ctxM e.sa fun a => { a with frozen := false } else s
    | none => s
  | .port p old => s.cipM fun k => { k with ports := Tbl.put k.ports p old }
  | .batch => s

/-- Send the binding or the port settings a change set, as `t` holds them. -/
def State.sendOf (s t : State) : Undo → State
  | .switch b _ => s.twinSend 1 0x43 (leBytes 4 b ++ t.bindingBytes b)
  | .port p _ => s.twinSend 1 0x46 (leBytes 4 p ++ leBytes 4 (Tbl.lookD t.cip.ports p {}).word.toNat)
  | _ => s

/-- Send a staged class 0x07 command's binding or port settings as they stand. -/
def State.sendStaged (s : State) (x : Staged) : State :=
  if x.opcode = 0x0702 then s.sendBinding x.pkt.obj else if x.opcode = 0x0705 then s.sendPort x.pkt.obj else s

/-- The batch comes to nothing after its messages went out: the standby gets the values in force again. -/
def State.batchBack (s : State) : State := (s.cmds.staged.foldl (fun s x => s.sendStaged x) s).noBatch

/-- The standby has answered for every wait of a tag: the command ends. -/
def State.ackDone (s : State) (w : AckWait) : State :=
  let rest := s.twin.waits.any fun x => samePath x.path w.path && x.tag == w.tag
  match w.undo with
  | .retire _ _ => s
  | .batch => s
  | _ =>
    if rest then s
    else s.completePended (fun t => samePath t.pkt.path w.path && t.pkt.tagNo == w.tag) .ok w.detail []

/-- ACK: records up to a counter are applied; the waits they cover end, or are undone when the standby refused with a status (R465, R467). -/
def State.takeAck (s : State) (counter : Nat) (refused : Option Nat) : State :=
  let (done, left) := s.twin.sent.partition fun e => decide (e.2.2 ≤ counter)
  let s := s.twinM fun t => { t with
    acked := max t.acked counter, sent := left
    m := done.foldl (fun m e => Tbl.put m e.1 e.2.1) t.m }
  let (ws, keep) := s.twin.waits.partition fun w => decide (w.counter ≤ counter)
  let s := s.twinM fun t => { t with waits := keep }
  match refused with
  | none => ws.foldl (fun s w => s.ackDone w) s
  | some st =>
    ws.foldl (fun s w =>
      if w.counter = counter then
        let s := if w.undo = .batch then s.batchBack.twinM fun t => { t with waits := t.waits.filter fun x => x.undo != .batch } else s
        (s.undoMirrored w.undo).completePended (fun t => samePath t.pkt.path w.path && t.pkt.tagNo == w.tag) .twinRefused st []
      else s.ackDone w) s

end Sys2Proof.Machine
end

