-- ==== Sys2Proof/Machine/Inbound.lean ====
section
/-!
DEFINITION. What the ingress half of a cipher unit does with one frame: classification, lookup, decryption, the ICV and replay checks, and the form it lands in (R292 to R297, R302). The framing of MACsec is that of IEEE 802.1AE-2018, of ESP that of RFC 4303 and RFC 4106.
-/
namespace Sys2Proof.Machine

/-! ## Outer headers (R292) -/

/-- What the unit reads of a frame's outer headers. -/
structure Outer where
  /-- Offset of the EtherType that counts. -/
  et : Nat
  /-- Offset of the IP header, after it. -/
  ip : Nat
  /-- IPv6. -/
  v6 : Bool
  /-- Protocol or next header; 256 where there is no IP header. -/
  proto : Nat
  /-- Offset of what follows the IP header. -/
  l4 : Nat
  /-- End of the IP packet. -/
  fin : Nat
deriving DecidableEq, Repr

/-- Offset of the EtherType after up to two tags. -/
def etherOff (b : Bytes) : Nat :=
  let tag (o : Nat) : Bool := beAt b o 2 == 0x8100 || beAt b o 2 == 0x88A8
  if !tag 12 then 12 else if !tag 16 then 16 else 20

/-- The outer headers of a frame. -/
def outerOf (b : Bytes) : Outer :=
  let e := etherOff b
  let ip := e + 2
  let t := beAt b e 2
  if t = 0x0800 ∧ ip + 20 ≤ b.length ∧ byteAt b ip / 16 = 4 then
    { et := e, ip := ip, v6 := false, proto := byteAt b (ip + 9), l4 := ip + 4 * (byteAt b ip % 16), fin := ip + beAt b (ip + 2) 2 }
  else if t = 0x86DD ∧ ip + 40 ≤ b.length ∧ byteAt b ip / 16 = 6 then
    { et := e, ip := ip, v6 := true, proto := byteAt b (ip + 6), l4 := ip + 40, fin := ip + 40 + beAt b (ip + 4) 2 }
  else { et := e, ip := ip, v6 := false, proto := 256, l4 := 0, fin := 0 }

/-- Kinds of frame on a cipher-side port. -/
inductive InKind
  | macsec
  /-- ESP, with the offset of the ESP header. -/
  | esp (off : Nat)
  | keyAgreement
  /-- AH, which the units do not support (R282). -/
  | ah
  | other
deriving DecidableEq, Repr

/-- The kind of a frame. -/
def inKind (b : Bytes) : InKind :=
  let o := outerOf b
  if beAt b 12 2 = 0x88E5 then .macsec
  else if beAt b o.et 2 = 0x888E then .keyAgreement
  else if o.proto = 50 then .esp o.l4
  else if o.proto = 51 then .ah
  else if o.proto = 17 ∧ o.l4 + 8 ≤ b.length then
    let d := beAt b (o.l4 + 2) 2
    if d = 500 then .keyAgreement
    else if d = 4500 then (if beAt b (o.l4 + 8) 4 = 0 then .keyAgreement else .esp (o.l4 + 8))
    else .other
  else .other

/-! ## Numbers and windows (R294, R295) -/

/-- The number of an XPN frame, from the lowest acceptable one. -/
def recoverXpn (low h w : Nat) : Nat :=
  let lowest := h + 1 - w
  let hi := lowest / 4294967296
  let up := nbit lowest 31 && !nbit low 31
  (hi + b2n up) * 4294967296 + low

/-- The number of an ESP frame with ESN (RFC 4303 Appendix A). -/
def recoverEsn (low h w : Nat) : Nat :=
  let th := h / 4294967296
  let tl := h % 4294967296
  if w ≤ tl + 1 then (if tl + 1 - w ≤ low then th else th + 1) * 4294967296 + low
  else (if 4294967296 + tl + 1 - w ≤ low then (th + 4294967295) % 4294967296 else th) * 4294967296 + low

/-- accept(N) of R295. -/
def Sa.accepts (a : Sa) (n : Nat) : Bool :=
  a.replayOff || decide (a.pn < n) || (decide (a.pn < n + a.windowBits) && !nbit a.window (a.pn - n))

/-- The update of R295. -/
def Sa.update (a : Sa) (n : Nat) : Sa :=
  let h := max a.pn n
  let shifted := if a.windowBits ≤ n - a.pn then 0 else a.window * 2 ^ (n - a.pn) % 2 ^ a.windowBits
  if a.replayOff then { a with pn := h } else { a with pn := h, window := orBit shifted (h - n) }

/-! ## MACsec (R293, R297) -/

/-- Confidentiality offset of a conf value, for a frame with the E bit (R286, R294). -/
def confOff (conf : Nat) : Nat := nth [0, 30, 50, 0] conf 0

/-- Length of the SecTAG of a frame. -/
def tagLen (b : Bytes) : Nat := if nbit (byteAt b 14) 5 then 16 else 8

/-- A malformed SecTAG: V, SCB, ES with SC, E and C disagreeing, a frame too short, SL inconsistent. -/
def macBad (b : Bytes) : Bool :=
  let t := byteAt b 14
  let sl := byteAt b 15
  let n := b.length - (12 + tagLen b + 16)
  nbit t 7 || nbit t 4 || (nbit t 6 && nbit t 5) || (nbit t 3 != nbit t 2) || decide (b.length < 12 + tagLen b + 16)
    || sl != (if n < 48 then n else 0)

/-- The SCI of a frame: in its SecTAG, or the source address with port identifier 1. -/
def macSci (b : Bytes) : Nat := if nbit (byteAt b 14) 5 then beAt b 20 8 else beAt b 6 6 * 65536 + 1

/-- XOR of two strings. -/
def xorB (a b : Bytes) : Bytes := List.zipWith (fun x y => x ^^^ y) a b

/-- The MACsec nonce of a number. -/
def Sa.macNonce (a : Sa) (n : Nat) : Bytes :=
  if a.extended then xorB (bytesAt a.salt 0 12) (beBytes 4 a.ssci ++ beBytes 8 n) else beBytes 8 a.sci ++ beBytes 4 n

/-- The frame without SecTAG and ICV, none when the ICV fails. -/
def macOpen (a : Sa) (b : Bytes) (n : Nat) : Option Bytes :=
  let h := 12 + tagLen b
  let data := bytesAt b h (b.length - h - 16)
  let clear := if nbit (byteAt b 14) 3 then min (confOff a.conf) data.length else data.length
  (Aes.gcmOpen a.aesKey (a.macNonce n) (b.take h ++ data.take clear) (data.drop clear) (b.drop (b.length - 16))).map fun pt =>
    b.take 12 ++ data.take clear ++ pt

/-! ## ESP (R293, R296) -/

/-- ESP shorter than header, IV and ICV, or beyond the frame. -/
def espBad (b : Bytes) (off : Nat) : Bool := decide (b.length < (outerOf b).fin) || decide ((outerOf b).fin < off + 32)

/-- Additional data of an ESP frame (RFC 4106). -/
def espAad (spi n : Nat) (esn : Bool) : Bytes := beBytes 4 spi ++ (if esn then beBytes 8 n else beBytes 4 (n % 4294967296))

/-- The decrypted payload of an ESP frame, none when the ICV fails. -/
def espOpen (a : Sa) (b : Bytes) (off n : Nat) : Option Bytes :=
  let fin := (outerOf b).fin
  Aes.gcmOpen a.aesKey (a.salt.take 4 ++ bytesAt b (off + 8) 8) (espAad (beAt b off 4) n a.extended)
    (bytesAt b (off + 16) (fin - 16 - (off + 16))) (bytesAt b (fin - 16) 16)

/-- A frame with the lengths and the IPv4 checksum of its outer IP header set for its end. -/
def ipFix (b : Bytes) (o : Outer) (proto : Nat) : Bytes :=
  if o.v6 then
    bytesSet (bytesSet b (o.ip + 6) [by8 proto]) (o.ip + 4) (beBytes 2 (b.length - o.ip - 40))
  else
    let b := bytesSet (bytesSet b (o.ip + 9) [by8 proto]) (o.ip + 2) (beBytes 2 (b.length - o.ip))
    let b := bytesSet b (o.ip + 10) [0#8, 0#8]
    bytesSet b (o.ip + 10) (beBytes 2 (inetSum (bytesAt b o.ip (o.l4 - o.ip))))

/-- The frame an ESP payload lands as, none when the decapsulation fails: `off` is where its ESP header stood (R296, R297). In transport mode a UDP header goes only with an SA of udp_encap. -/
def espLand (a : Sa) (b pt : Bytes) (off : Nat) : Option Bytes :=
  let o := outerOf b
  let nh := byteAt pt (pt.length - 1)
  let pad := byteAt pt (pt.length - 2)
  let body := pt.take (pt.length - 2 - pad)
  if pt.length < 2 + pad then none
  else if bytesAt pt (pt.length - 2 - pad) pad ≠ (List.range pad).map (fun i => by8 (i + 1)) then none
  else if nh = 59 then none
  else if a.tunnel then
    if nh ≠ 4 ∧ nh ≠ 41 then none
    else if a.outerKeep then some (ipFix (b.take o.l4 ++ body) o nh)
    else some (b.take o.et ++ beBytes 2 (if nh = 4 then 0x0800 else 0x86DD) ++ body)
  else some (ipFix (b.take (if a.udp then o.l4 else off) ++ body) o nh)

/-! ## One frame (R293 to R297) -/

/-- What becomes of a frame at the ingress unit. -/
inductive InOut
  /-- It lands. -/
  | land (p : Pkt)
  /-- It is discarded with a reason. -/
  | discard (reason : Nat)
  /-- It waits for the fetch of this SA. -/
  | stall (sa : Nat)
deriving DecidableEq, Repr

/-- Leap an SA that the sweep has not reached yet (R471 step 4). -/
def State.leapFirst (s : State) (i : Nat) : State :=
  if s.run.leaping && !s.run.leapt.contains i then
    match s.ctx i with
    | some a =>
      let (a, s) := s.leapCtx i a
      (s.ctxM i fun _ => a).runM fun r => { r with leapt := r.leapt ++ [i] }
    | none => s
  else s

/-- Send WINDOW when H has passed a multiple of the stride (R468). -/
def State.windowMaybe (s : State) (i was : Nat) (a : Sa) : State :=
  if (s.mode.mode.isTwin || s.run.syncActive) && !a.replayOff && a.pn / s.stride != was / s.stride then s.sendWindow i a else s

/-- Steps 1 to 4 of R294 for a frame whose SA is resident: `n` its number, `opened` its decryption, `build` what it lands as. -/
def State.inSteps (s : State) (p : Pkt) (i n : Nat) (opened : Option Bytes) (build : Bytes → Option Bytes) (keep : Bool) : InOut × State :=
  match s.ctx i with
  | none => (.discard 0x28, s)
  | some a =>
    if 18446744073709551615 < n then (.discard 0x23, s.ctxM i fun a => { a with discA := sat32 a.discA })
    else
      match opened with
      | none => (.discard 0x22, s.ctxM i fun a => { a with discB := sat32 a.discB })
      | some pt =>
        if !a.accepts n then (.discard 0x23, s.ctxM i fun a => { a with discA := sat32 a.discA })
        else
          let a' := a.update n
          let s := ((s.ctxM i fun _ => a').touchSa i).windowMaybe i a.pn a'
          let s := if a.countEn then s.statAdd a.counter p.rxLen else s
          let s := s.cipCount a.group 13
          match build pt with
          | none => (.discard 0x25, s)
          | some b => (.land { p with bytes := b, rxLen := b.length + 4, decrypted := true, sa := i, outerKept := keep }, s)

/-- A frame of a found SA: lost, to be fetched, or processed. A packet number of zero is malformed under 32-bit numbering, which the SA tells: `pn0` says that the frame carries one (R297). -/
def State.inSa (s : State) (i : Nat) (pn0 : Bool) (k : State → Sa → InOut × State) : InOut × State :=
  match s.sa i with
  | none => (.discard 0x20, s)
  | some r =>
    if r.lost then (.discard 0x28, s)
    else
      let s := s.leapFirst i
      match s.ctx i with
      | some a => if pn0 && !a.extended then (.discard 0x21, s) else k s a
      | none => (.stall i, s)

/-- The SA a MACsec frame names by its port, SCI and AN (R293). -/
def State.macLookup (s : State) (p : Pkt) : Option Nat :=
  let ent := s.cip.sci.find? fun e => e.group == p.port / 8 && e.port == p.port && e.sci == macSci p.bytes
  (ent.bind fun e => nth e.slots (byteAt p.bytes 14 % 4) none).map (·.1)

/-- The SA an ESP frame names by its SPI (R293). -/
def State.espLookup (s : State) (p : Pkt) (off : Nat) : Option Nat :=
  let spi := beAt p.bytes off 4
  let i := spi % 4194304
  (s.sa i).bind fun r => guardO (r.esp && !r.outbound && !r.retiring && r.group == p.port / 8 && r.spiSalt == spi / 4194304) i

/-- A MACsec frame; `known` is the SA its lookup found before a fetch. -/
def State.inMacsec (s : State) (p : Pkt) (known : Option Nat) : InOut × State :=
  let b := p.bytes
  if macBad b then (.discard 0x21, s)
  else
    match known.or (s.macLookup p) with
    | none => (.discard 0x20, s)
    | some i =>
      s.inSa i (beAt b 16 4 == 0) fun s a =>
        let low := beAt b 16 4
        let n := if a.extended then recoverXpn low a.pn (if a.replayOff then 0 else a.windowBits) else low
        s.inSteps p i n (macOpen a b n) some false

/-- An ESP frame with its header at `off`; `known` is the SA its lookup found before a fetch. -/
def State.inEsp (s : State) (p : Pkt) (off : Nat) (known : Option Nat) : InOut × State :=
  let b := p.bytes
  if espBad b off then (.discard 0x21, s)
  else
    match known.or (s.espLookup p off) with
    | none => (.discard 0x20, s)
    | some i =>
      s.inSa i false fun s a =>
        let low := beAt b (off + 4) 4
        let n := if a.extended then recoverEsn low a.pn (if a.replayOff then 0 else a.windowBits) else low
        s.inSteps p i n (espOpen a b off n) (espLand a b · off) (a.tunnel && a.outerKeep)

/-- One frame of a cipher-side port at the ingress unit; `known` is the SA its lookup found before a fetch. DEDUCED: an AH frame uses an option R282 names unsupported, so it is discarded with 0x21 whatever the port accepts, before the last row of R292. -/
def State.inbound (s : State) (p : Pkt) (known : Option Nat) : InOut × State :=
  let set := Tbl.lookD s.cip.ports p.port {}
  let plain : InOut × State := (if set.landUnprotected then .land p else .discard 0x24, s)
  match inKind p.bytes with
  | .macsec => if set.accept = 1 then plain else s.inMacsec p known
  | .esp off => if set.accept = 0 then plain else s.inEsp p off known
  | .keyAgreement => (.land p, s)
  | .ah => (.discard 0x21, s)
  | .other => plain

end Sys2Proof.Machine
end

