-- ==== Sys2Proof/Machine/Outbound.lean ====
section
/-!
DEFINITION. What the egress half of a cipher unit does: encapsulation, numbering, thresholds and the cipher mark (R300 to R304, R466).
-/
namespace Sys2Proof.Machine

/-! ## Encapsulation (R302) -/

/-- Padding of an ESP payload to a 4-byte boundary, pad length and next header counted. -/
def espPad (n : Nat) : Nat := (4 - (n + 2) % 4) % 4

/-- Where a copy's ESP header goes, by its header list: the start of the outer IP header, IPv6, the end of the headers that stay in clear; none without an IP header. The outer header of a tunnel is the template that ends where the outermost IP header of the list begins (R146, R265, R302). -/
def Copy.espAt (c : Copy) : Option (Nat × Bool × Nat) :=
  (c.hl.find? fun h => h.1 == 4 || h.1 == 5).bind fun h =>
    if c.intent = 2 then guardO (decide (c.outer ≤ h.2)) (h.2 - c.outer, decide (40 ≤ c.outer), h.2)
    else some (h.2, h.1 == 5, h.2 + (if h.1 = 5 then 40 else 4 * (byteAt c.bytes h.2 % 16)))

/-- Offset of the innermost EtherType of a copy: after its last VLAN tag, or after the addresses. -/
def Copy.innerEther (c : Copy) : Nat :=
  match (c.hl.filter fun h => h.1 == 2 || h.1 == 3).getLast? with
  | some h => h.2 + 2
  | none => 12

/-- Bytes the unit adds to a frame, by include_sci and the UDP encapsulation (R302, R370). -/
def Copy.growthBy (c : Copy) (sci udp : Bool) : Nat :=
  if c.intent = 1 then (if sci then 32 else 24)
  else
    match c.espAt with
    | some (_, _, e) => 34 + espPad (c.bytes.length - e) + (if c.intent = 3 && udp then 8 else 0)
    | none => 0

/-- Bytes the unit adds to a frame under an SA. -/
def Copy.growthOf (c : Copy) (a : Sa) : Nat := c.growthBy a.includeSci a.udp

/-- A MACsec frame with a number. -/
def macSeal (a : Sa) (b : Bytes) (n : Nat) : Bytes :=
  let user := b.drop 12
  let tci := a.an + 32 * b2n a.includeSci + (if a.conf = 3 then 0 else 12)
  let sl := if user.length < 48 then user.length else 0
  let h := b.take 12 ++ [0x88#8, 0xE5#8, by8 tci, by8 sl] ++ beBytes 4 (n % 4294967296) ++ (if a.includeSci then beBytes 8 a.sci else [])
  let clear := if a.conf = 3 then user.length else min (confOff a.conf) user.length
  h ++ user.take clear ++ Aes.gcmSeal a.aesKey (a.macNonce n) (h ++ user.take clear) (user.drop clear)

/-- An ESP header with its payload, for a number: `nh` the next header. -/
def espBody (a : Sa) (pt : Bytes) (nh n : Nat) : Bytes :=
  let pad := espPad pt.length
  let full := pt ++ (List.range pad).map (fun i => by8 (i + 1)) ++ [by8 pad, by8 nh]
  let iv := beBytes 8 n
  beBytes 4 a.spi ++ beBytes 4 (n % 4294967296) ++ iv ++ Aes.gcmSeal a.aesKey (a.salt.take 4 ++ iv) (espAad a.spi n a.extended) full

/-- The checksum of the UDP header at an offset: zero for IPv4, computed for IPv6 over the length the header gives. -/
def udpSum (b : Bytes) (ip : Nat) (v6 : Bool) (at_ : Nat) : Bytes :=
  let len := beAt b (at_ + 4) 2
  let b := bytesSet b (at_ + 6) [0#8, 0#8]
  if v6 then
    let pseudo := bytesAt b (ip + 8) 32 ++ beBytes 4 len ++ [0#8, 0#8, 0#8, 17#8]
    let c := inetSum (pseudo ++ (b.drop at_).take len)
    bytesSet b (at_ + 6) (beBytes 2 (if c = 0 then 65535 else c))
  else b

/-- The UDP header at an offset filled for what follows it: its length and its checksum. -/
def udpFix (b : Bytes) (ip : Nat) (v6 : Bool) (at_ : Nat) : Bytes := udpSum (bytesSet b (at_ + 4) (beBytes 2 (b.length - at_))) ip v6 at_

/-- An ESP frame of intent 2 or 3 with a number. -/
def espSeal (a : Sa) (c : Copy) (n : Nat) : Bytes :=
  let b := c.bytes
  match c.espAt with
  | none => b
  | some (ip, v6, e) =>
    if c.intent = 2 then
      let nh := if byteAt b e / 16 = 6 then 41 else 4
      let hdr := bytesSet (b.take e) c.innerEther (beBytes 2 (if v6 then 0x86DD else 0x0800))
      let f := hdr ++ espBody a (b.drop e) nh n
      let o : Outer := { et := c.innerEther, ip := ip, v6 := v6, proto := 0, l4 := ip + (if v6 then 40 else 20), fin := 0 }
      let f := ipFix f o (if a.udp then 17 else 50)
      if a.udp then udpFix f ip v6 o.l4 else f
    else
      let o : Outer := { et := c.innerEther, ip := ip, v6 := v6, proto := byteAt b (ip + (if v6 then 6 else 9)), l4 := e, fin := 0 }
      let u := if a.udp then beBytes 2 a.udpSrc ++ beBytes 2 a.udpDst ++ [0#8, 0#8, 0#8, 0#8] else []
      let f := ipFix (b.take e ++ u ++ espBody a (b.drop e) o.proto n) o (if a.udp then 17 else 50)
      if a.udp then udpFix f ip v6 e else f

/-! ## Numbering (R300, R301) -/

/-- Assign the next number of an SA: the number, with threshold, exhaustion and the mirror record. -/
def State.assign (s : State) (i : Nat) (a : Sa) : Nat × State :=
  let n := a.pn
  let b := { a with pn := min (n + 1) 18446744073709551615 }
  let (b, s) := s.raiseThreshold i n b
  let (b, s) := if n = a.last then s.exhaust i n b else (b, s)
  let s := s.ctxM i fun _ => b
  if s.mirrors && n % s.stride == 0 then (n, s.sendNumber i { b with pn := n }) else (n, s)

/-- Hand a frame to its MAC. -/
def State.toMac (s : State) (p : Nat) (t : Tx) : State := s.mportM p fun m => { m with tx := m.tx ++ [t] }

/-- Discard a frame at the egress unit with a reason (R300 step 2). -/
def State.egressDrop (s : State) (g reason : Nat) : State := s.cipCount g (reason - 0x20)

/-- Steps 1 to 4 of R300 for a frame with an intent. -/
def State.encrypt (s : State) (g : Nat) (x : Sel) : State :=
  let c := x.copy
  match s.bindingReason c.binding c.intent c.espUdp g with
  | some r =>
    if r = 0x26 then
      match s.binding c.binding with
      | some e => (s.ctxM e.sa fun a => { a with discA := sat32 a.discA }).egressDrop g r
      | none => s.egressDrop g r
    else s.egressDrop g r
  | none =>
    match s.binding c.binding with
    | none => s.egressDrop g 0x27
    | some e =>
      let s := s.leapFirst e.sa
      match s.ctx e.sa with
      | none => s.egressDrop g 0x28
      | some a =>
        if a.exhausted then (s.ctxM e.sa fun a => { a with discA := sat32 a.discA }).egressDrop g 0x26
        else if c.intent ≠ 1 ∧ c.espAt.isNone then s.egressDrop g 0x27
        else if 16384 < c.bytes.length + 4 + c.growthOf a then s.egressDrop g 0x2A
        else
          let (n, s) := s.assign e.sa a
          let f := if c.intent = 1 then macSeal a c.bytes n else espSeal a c n
          let s := ((s.saHold e.sa).touchSa e.sa).cipCount g 12
          let s := if a.countEn then s.statAdd a.counter (f.length + 4) else s
          s.toMac x.port { bytes := f, mark := true, bypass := c.bypass, sa := some e.sa, charged := x.charged, plan := x.plan, ptp := some c.bytes, oneStep := x.oneStep }

/-- The binding of a frame with an intent resolves to an SA that lives only in its record: evicted since the selection, as its refs were zero (R300, R310). -/
def State.saAway (s : State) (g : Nat) (c : Copy) : Bool :=
  c.intent != 0 && (s.bindingReason c.binding c.intent c.espUdp g).isNone
    && match (s.binding c.binding).bind fun e => s.sa e.sa with
      | some r => r.ctx.isNone && !r.lost
      | none => false

/-- EGRESS_CIPHER: the next selected frame of a group passes its egress unit. One whose SA has been evicted asks for its fetch and stays first in the sequence. -/
def egressCipher (g : Nat) (s : State) : State :=
  if nth s.pwr.doms (2 + g) .run != .run then s
  else
    match Tbl.lookD s.cip.egress g [] with
    | [] => s
    | x :: rest =>
      if s.saAway g x.copy then s.askFetch x.copy.binding
      else
      let s := s.cipM fun k => { k with egress := Tbl.put k.egress g rest }
      if x.copy.intent ≠ 0 then s.encrypt g x
      else
        let s := if x.copy.bypass then s.cipCount g 14 else s
        s.toMac x.port { bytes := x.copy.bytes, mark := false, bypass := x.copy.bypass, sa := none, charged := x.charged, plan := x.plan, oneStep := x.oneStep }

/-- EGRESS_CIPHER. -/
def execEgressCipher (g : Nat) (s : State) : Host.Outcome State Fault Refusal := (egressCipher g s).done

end Sys2Proof.Machine
end

