-- ==== Sys2Proof/Machine/CoreCmds.lean ====
section
/-!
DEFINITION. The commands of class 0x08, and the occurrences of flush and rebuild (R328, R334, R341 to R344, R358, R362 to R367).
-/
namespace Sys2Proof.Machine

/-! ## Crosspoints and columns (R342, R344) -/

/-- A crosspoint's object_id. -/
def xpObj (c : Packet) : List (Bool × Status × Nat) :=
  [(decide (c.obj < 256), .badParam, 8), (decide (c.obj / 16 < 11) && decide (c.obj % 16 < 11), .notFound, 0)]

/-- CORE_XP_SET. -/
def coreXpSet (c : Packet) (s : State) : Res :=
  let src := c.obj / 16
  let col := c.obj % 16
  let r := (c.w 0).fld 15 0
  let l := (c.w 0).fld 31 16
  let sum := s.rminSum col - (s.xp src col).rmin + r
  let region := 45056 - sum
  checks (xpObj c ++ [(r != 0, .badZero, 16), within c 0 15 0 64 45056, within c 0 31 16 0 45056, (!s.core.compat, .conflict, 3),
      (decide (sum ≤ 45056), .conflict, sum), (!(col == 9 && decide (region < (s.col 9).holdUnits)), .conflict, region)])
    (let old := (s.xp src col).rmin
     let s := s.xpM src col fun x => { x with rmin := r, slimit := l }
     let others := sumL ((List.range 11).map fun x => if x = src then 0 else (s.xp x col).pending)
     let p := (s.xp src col).pending
     let due := s.sharedUse col - s.region col - others
     .ok ((s.xpM src col fun x => { x with pending := min (p + (r - old)) due }).fixPending col))

/-- CORE_COLUMN_SET. -/
def coreColumnSet (c : Packet) (s : State) : Res :=
  let h := (c.w 0).fld 31 16
  checks [objBelow c 11, reserved c 0 0xFFFF0007, fieldIs 0 16 (c.obj == 9 || h == 0), (!s.core.compat, .conflict, 3),
      (decide (h ≤ s.region 9) || h == 0, .conflict, s.region 9)]
    (.ok (s.colM c.obj fun k => { k with alpha := (c.w 0).fld 2 0, holdUnits := h }))

/-- CORE_XP_STATUS. -/
def coreXpStatus (c : Packet) (s : State) : Res :=
  let src := c.obj / 16
  let col := c.obj % 16
  let x := s.xp src col
  checks (xpObj c)
    (.data [wd (s.rUsed src col + 65536 * s.sUsed src col), wd (x.peak + 65536 * x.pending), wd x.residue.length, wd x.aged, wd x.resFull,
        wd x.noCredit, wd x.written, wd x.waits]
      (s.xpM src col fun x => { x with peak := (s.col col).occ src, waits := 0 }))

/-- CORE_COLUMN_STATUS. -/
def coreColumnStatus (c : Packet) (s : State) : Res :=
  let k := s.col c.obj
  let held := if c.obj = 9 then sumL (s.frag.held.map (·.units)) else 0
  checks [objBelow c 11]
    (.data [wd (k.inUse + 65536 * s.region c.obj), wd (s.sharedUse c.obj + 65536 * held), wd k.peak, wd k.flushed, wd k.flushDrops,
        wd k.writeClocks, wd k.grantWaits, wd (k.alpha + 8 * b2n s.core.compat)]
      (s.colM c.obj fun k => { k with peak := k.inUse, writeClocks := 0, grantWaits := 0 }))

/-! ## Scheduler ports (R343, R344) -/

/-- CORE_PORT_FLUSH. -/
def corePortFlush (c : Packet) (s : State) : Res :=
  let p := c.obj
  checks [(decide (p < 67) && p != 65, .notFound, 0), (!(decide (p < 64) && !s.hasPort p), .notFound, 1)]
    (let s := (s.enterFlush p).cportM p fun k => { k with cmdFlush := true }
     .pend 0 (if s.mayRun p then s.leaveFlush p else s))

/-- After its PENDING reply, a CORE_PORT_FLUSH of a port that stays in FLUSH with no reference held ends (R343). -/
def State.endEmptyFlush (s : State) (op p : Nat) : State :=
  if op = 0x0804 ∧ s.egress p = .flush ∧ (s.cport p).marked.isEmpty then s.endPortFlush p else s

/-- The link of a scheduler port is up. -/
def State.portLink (s : State) (p : Nat) : Bool := if p < 64 then (s.mport p).up else if p = 66 then s.twin.up else true

/-- CORE_PORT_STATUS. -/
def corePortStatus (c : Packet) (s : State) : Res :=
  let p := c.obj
  let k := s.cport p
  checks [objBelow c 67, (!(decide (p < 64) && !s.hasPort p), .notFound, 0)]
    (.data ([wd ((s.egress p).code + 4 * b2n (s.portLink p) + 8 * b2n k.cmdFlush), wd k.marked.length] ++ w64 k.downDiscards) s)

/-! ## Pools (R363 to R367) -/

/-- Buffers a pool has on its free list when empty, for a number of segments. -/
def poolBuffers (p segs : Nat) : Nat := if p = 3 then segs - 11 else segs * (64 / poolUnits p)

/-- Sum of a column's quotas of a pool. -/
def Column.quotaSum (k : Column) (p : Nat) : Nat := sumL ((List.range 11).map fun x => Tbl.lookD k.quota (4 * x + p) 0)

/-- POOL_CARVE. -/
def poolCarve (c : Packet) (s : State) : Res :=
  let w := c.w 0
  let new := [w.fld 9 0, w.fld 19 10, w.fld 29 20]
  let k := s.col c.obj
  let excess := (List.range 4).find? fun p => decide (poolBuffers p (segCount new p) < k.quotaSum p)
  checks [objBelow c 11, reserved c 0 0x3FFFFFFF, fieldIs 0 0 (decide (sumL new + 16 ≤ 704)), (k.carve.isNone, .busy, 0),
      (!(s.core.compat && excess.isSome), .conflict, excess.getD 0)]
    (if new = k.segs then .ok s
     else
      .pend 0 (s.colM c.obj fun k => k.carveStart new))

/-- POOL_COLUMN_SET. -/
def poolColumnSet (c : Packet) (s : State) : Res :=
  checks [objBelow c 11, reserved c 0 1] (.ok (s.colM c.obj fun k => { k with fallback := (c.w 0).bit 0 }))

/-- The quotas of R361 for a column. -/
def Column.quotas (k : Column) : Tbl Nat :=
  (List.range 44).map fun i => (i, poolBuffers (i % 4) (segCount k.segs (i % 4)) / 11)

/-- POOL_MODE_SET. -/
def poolModeSet (c : Packet) (s : State) : Res :=
  let on := (c.w 0).bit 0
  let busy := (List.range 11).find? fun i => decide (0 < (s.col i).inUse)
  checks [objZero c, reserved c 0 1, (on == s.core.compat || busy.isNone, .conflict, busy.getD 0)]
    (if on = s.core.compat then .ok s
     else .ok (s.coreM fun k => { k with compat := on, cols := k.cols.map fun x => { x with quota := if on then x.quotas else [] } }))

/-- POOL_QUOTA_SET. -/
def poolQuotaSet (c : Packet) (s : State) : Res :=
  let src := c.obj / 16
  let col := c.obj % 16
  let k := s.col col
  let new := (List.range 4).foldl (fun t p => Tbl.put t (4 * src + p) ((c.w p).fld 15 0)) k.quota
  let excess := (List.range 4).find? fun p => decide (poolBuffers p (k.segsOf p) < Column.quotaSum { k with quota := new } p)
  checks (xpObj c ++ (List.range 4).map (fun p => reserved c p 0xFFFF)
      ++ [(s.core.compat, .conflict, 4), (excess.isNone, .conflict, excess.getD 0)])
    (.ok (s.colM col fun k => { k with quota := new }))

/-- Guard buffers free, bit s for source s. -/
def Column.guardsFree (k : Column) : Nat := sumL (((List.range 11).filter fun x => !Tbl.has k.bufs (guardUnit x)).map (2 ^ ·))

/-- Quarantined buffers of a column. -/
def Column.quarBufs (k : Column) : List (Nat × Buf) := k.bufs.filter fun e => e.2.quarantined

/-- POOL_STATUS. -/
def poolStatus (c : Packet) (s : State) : Res :=
  let k := s.col c.obj
  let n (i : Nat) : Word := wd (nth k.counts i 0)
  checks [objBelow c 11]
    (.data ((List.range 4).map (fun p => wd (k.segsOf p + 65536 * k.freeCount p))
      ++ [wd (k.guardsFree + 65536 * b2n k.fallback + 131072 * b2n s.core.compat + 262144 * b2n k.carve.isSome),
          wd (k.quarUnits + 65536 * k.quarBufs.length), n 0, n 1, n 2, n 3, n 4, n 5, n 6, n 7, wd (min k.lowFree k.minFree),
          wd (k.bufs.filter fun e => e.2.refs != 0).length])
      (s.colM c.obj fun k => { k with lowFree := k.minFree }))

/-- The next-buffer link of a free buffer: 0xFFFF_FFFF at the end of its list, or off any list. -/
def Column.link (k : Column) (col unit p : Nat) : Nat :=
  let f := nth k.free p {}
  let fresh (from_ : Nat) : Nat := if from_ < f.hi then 16 * from_ + col else 0xFFFFFFFF
  match f.stack.dropWhile (· != unit) with
  | _ :: n :: _ => 16 * n + col
  | [_] => fresh f.lo
  | [] => if f.lo ≤ unit ∧ unit < f.hi then fresh (unit + poolUnits p) else 0xFFFFFFFF

/-- The header of a buffer without its parity (R352). -/
def Column.header (k : Column) (unit p : Nat) : Nat :=
  match Tbl.look k.bufs unit with
  | some b =>
    (if b.refs = 0 then 15 else b.owner) + 16 * b.pool + 64 * b2n (b.refs != 0) + 128 * b2n b.quarantined + 256 * b.refs
      + 4096 * b2n b.guardBuf
  | none => 15 + 16 * p + 4096 * b2n (isGuard unit)

/-- POOL_BUFFER_READ. -/
def poolBufferRead (c : Packet) (s : State) : Res :=
  let col := c.obj % 16
  let unit := c.obj / 16
  let k := s.col col
  let p := k.segPool (unit / 64)
  let h := k.header unit p
  let bad := match Tbl.look k.bufs unit with
    | some b => b.parityBad
    | none => false
  checks [(decide (c.obj < 1048576), .badParam, 8), (decide (col < 11) && decide (unit < 45056), .notFound, 0),
      (unit % poolUnits p == 0, .badParam, 8)]
    (.data [wd (h + 2147483648 * b2n ((popCnt 31 h % 2 == 1) != bad)),
        wd (match Tbl.look k.bufs unit with
          | some b => if b.refs = 0 then k.link col unit p else 0
          | none => k.link col unit p)] s)

/-- Put a quarantined buffer back into service: on its list, unless it still stands there (R367). -/
def Column.release (k : Column) (unit : Nat) : Column :=
  let p := k.segPool (unit / 64)
  let k := { k with bufs := Tbl.del k.bufs unit }
  if k.onList unit p then k else k.push unit p

/-- POOL_QUARANTINE_RELEASE. -/
def poolQuarantineRelease (c : Packet) (s : State) : Res :=
  let go := (s.col c.obj).quarBufs.filter fun e => e.2.refs == 0
  checks [objBelow c 11]
    (let s := s.colM c.obj fun k => go.foldl (fun k e => Column.release k e.1) k
     .data [wd go.length] ((s.carveGo c.obj).fixPending c.obj))

/-! ## Occurrences -/

/-- FLUSH_MARKERS_PASSED: every marker of a port has passed and the flush engine has freed its references (R334). -/
def flushMarkersPassed (p : Nat) (s : State) : State :=
  if p < 67 ∧ p ≠ 65 ∧ s.egress p = .await then (s.freeMarked p).portEnabled p else s

/-- FLUSH_COMPLETE: the flush engine has freed the last reference of a port that stays in FLUSH (R343). -/
def flushComplete (p : Nat) (s : State) : State :=
  if p < 67 ∧ p ≠ 65 ∧ s.egress p = .flush then (s.freeMarked p).endPortFlush p else s

/-- POOL_REBUILD: the rebuild of a pool's list ends (R358). -/
def poolRebuild (col p : Nat) (s : State) : State :=
  if (s.col col).rebuilding.contains p then
    s.colM col fun k => { k.rebuild p with counts := updAt k.counts 7 sat32 }
  else s

/-- FLUSH_MARKERS_PASSED. -/
def execFlushMarkersPassed (p : Nat) (s : State) : Host.Outcome State Fault Refusal := (flushMarkersPassed p s).done
/-- FLUSH_COMPLETE. -/
def execFlushComplete (p : Nat) (s : State) : Host.Outcome State Fault Refusal := (flushComplete p s).done
/-- POOL_REBUILD. -/
def execPoolRebuild (col pool : Nat) (s : State) : Host.Outcome State Fault Refusal := (poolRebuild col pool s).done

end Sys2Proof.Machine
end

