-- ==== Sys2Proof/Machine/Ddr.lean ====
section
/-!
DEFINITION. The DDR5 controller: detection, training, refresh, drift, power-down, patrol scrub and class 0x0E (R514 to R534).
-/
namespace Sys2Proof.Machine

/-! ## Population (R514, R515) -/

/-- A DIMM as its SPD hub describes it. -/
def dimmChan (d : Option DimmInfo) : Chan :=
  match d with
  | none => {}
  | some i =>
    { st := .untrained, ranks := i.ranks, width := i.width, gib := 16 * i.ranks * (if i.width = 4 then 2 else 1)
      supported := i.supported && (i.ranks == 1 || i.ranks == 2) && (i.width == 8 || i.width == 4) }

/-- The largest valid population among candidate channels: A to D, A and B, or A, of one type. -/
def population (cs : List Chan) (cand : Nat) : Nat :=
  let a := nth cs 0 {}
  let same (c : Nat) : Bool :=
    let x := nth cs c {}
    nbit cand c && x.supported && x.ranks == a.ranks && x.width == a.width
  if !same 0 then 0 else if same 1 && same 2 && same 3 then 15 else if same 1 then 3 else 1

/-- Raise DDR_CHANNEL for a channel (R534). -/
def State.ddrEvent (s : State) (c : Nat) (was : ChState) (cause : Nat) (drift : Int) : State :=
  s.postEvent 0x0E01 c [wd ((s.chan c).st.code + 256 * was.code + 65536 * cause), wdi drift]

/-- A channel enters FAILED with a cause. -/
def State.ddrFail (s : State) (c cause : Nat) (drift : Int) : State :=
  let was := (s.chan c).st
  let s := (s.chanM c fun h => { h with st := .failed, cause := cause }).ddrEvent c was cause drift
  if nbit s.ddr.inUse c then s.snapAbort 2 else s

/-- Detection at BOOT: channels absent or untrained, and those outside the population failed with cause 4. -/
def State.ddrDetect (s : State) (ds : List (Option DimmInfo)) : State :=
  let cs := (List.range 4).map fun i => dimmChan (nth ds i none)
  let pop := population cs 15
  let s := s.ddrM fun d => { d with chans := cs, inUse := pop, mem := [], patrolLine := 0, trainMask := 0 }
  (List.range 4).foldl (fun s c => if (s.chan c).st = .untrained && !nbit pop c then s.ddrFail c 4 0 else s) s

/-! ## Commands -/

/-- A snapshot is in progress. -/
def State.snapBusy (s : State) : Bool := s.cnt.snap == .armed || s.cnt.snap == .copying

/-- DDR_TRAIN (R520, R531). -/
def ddrTrain (c : Packet) (s : State) : Res :=
  let m := (c.w 0).fld 3 0
  let absent := (setBits 4 m).filter fun i => (s.chan i).st == .absent
  checks [objZero c, reserved c 0 15, nonZero c 0 3 0,
      (absent.isEmpty, .notFound, sumL (absent.map (2 ^ ·))),
      (!(s.regions.any (fun r => r.2 != 0) || s.spilled != 0 || s.snapBusy || s.ddr.trainMask != 0), .conflict, 1)]
    (.pend 0 ((s.wakeDom 31).ddrM fun d => { d with
      trainMask := m
      chans := (List.range 4).map fun i =>
        let h := nth d.chans i {}
        if nbit m i then { h with st := .training } else h }))

/-- DDR_CONFIG (R532). -/
def ddrConfig (c : Packet) (s : State) : Res :=
  let pd := (c.w 0).fld 19 0
  let en := (c.w 1).bit 16
  let hrs := (c.w 1).fld 31 24
  checks [objZero c, reserved c 0 0xFFFFF, reserved c 1 0xFF01FFFF, nonZero c 1 15 0,
      fieldIs 0 0 (pd == 0 || (decide (100 ≤ pd) && decide (pd ≤ 1000000))), within c 1 15 0 10 1000,
      fieldIs 1 24 (if en then decide (1 ≤ hrs) && decide (hrs ≤ 168) else hrs == 0)]
    (.ok (s.ddrM fun d => { d with powerDownNs := pd, retrainMs := (c.w 1).fld 15 0, patrol := en, patrolHours := hrs }))

/-- The lane drift of greatest magnitude of a channel. -/
def Chan.maxDrift (h : Chan) : Int := h.drift.vals.foldl (fun m v => if m.natAbs < v.natAbs then v else m) 0

/-- DDR_STATUS (R533). -/
def ddrStatus (c : Packet) (s : State) : Res :=
  let h := s.chan c.obj
  checks [objBelow c 5]
    (.data (if c.obj = 4 then wd (b2n s.ddrReady + 256 * s.ddr.inUse) :: s.regions.flatMap (fun r => w64 r.1 ++ w64 r.2)
      else
        [wd (h.st.code + 16 * h.ranks + 256 * h.gib + 65536 * h.cause), wd (nth h.counts 0 0), wd (nth h.counts 1 0), wd (nth h.counts 2 0),
         wd (h.owed.foldl max 0 + 16 * h.owedMax), wd (nth h.counts 3 0), wd (nth h.counts 4 0), wdi h.maxDrift, wdi h.temp,
         wd (min 65535 (nth h.counts 5 0) + 65536 * min 65535 (nth h.counts 6 0))] ++ w64 h.lastUe) s)

/-! ## Occurrences -/

/-- A channel trained: in service from its new trained position, or failed. -/
def State.ddrTrained (s : State) (c : Nat) (passed : Bool) : State :=
  let sup := (s.chan c).supported
  if passed && sup then
    (s.chanM c fun h => { h with st := .inService, cause := 1, drift := [], owed := [0, 0], pdown := [false, false], errs := [] }).ddrEvent c .training 1 0
  else s.ddrFail c (if sup then 2 else 4) 0

/-- TRAINING_DONE: the channels that passed (R520, R531). -/
def trainingDone (passed : Nat) (s : State) : State :=
  let m := s.ddr.trainMask
  if m = 0 then s
  else
    let old := s.ddr
    let s := s.ddrM fun d => { d with trainMask := 0 }
    let s := (setBits 4 m).foldl (fun s c => s.ddrTrained c (nbit passed c)) s
    let up := sumL (((List.range 4).filter fun c => (s.chan c).st == .inService).map (2 ^ ·))
    let pop := population s.ddr.chans up
    let s := (List.range 4).foldl (fun s c => if nbit up c && !nbit pop c then s.ddrFail c 4 0 else s) s
    let s := s.ddrM fun d => { d with
      inUse := pop
      mem := if pop = old.inUse then d.mem.filter (fun e => !nbit m (old.chanOf e.1)) else [] }
    let failed := sumL (((List.range 4).filter fun c => (s.chan c).st == .failed).map (2 ^ ·))
    let ok := (setBits 4 m).all fun c => (s.chan c).st == .inService
    if ok then s.completePended (fun t => t.opcode == 0x0E00) .ok pop []
    else s.completePended (fun t => t.opcode == 0x0E00) .okAdjusted (pop + 16 * failed) []

/-- REFRESH_DUE on a rank, with whether requests are queued for it (R524). -/
def refreshDue (c r : Nat) (queued : Bool) (s : State) : State :=
  let h := s.chan c
  if h.st ≠ .inService ∨ h.ranks ≤ r then s
  else
    let n := nth h.owed r 0
    let s := s.chanM c fun h => { h with pdown := updAt h.pdown r fun _ => false }
    if 8 ≤ n then (s.perf (67 + c) 0x12 1).chanCount c 3
    else
      (if queued then s else s.perf (67 + c) 0x12 1).chanM c fun h => { h with owedMax := max h.owedMax (n + 1), owed := updAt h.owed r fun _ => if queued then n + 1 else n }

/-- REFRESH_MAKEUP on a rank: so many owed refreshes are issued before a request arrives (R524). -/
def refreshMakeup (c r issued : Nat) (s : State) : State :=
  if (s.chan c).st = .inService then
    (s.perf (67 + c) 0x12 (min issued (nth (s.chan c).owed r 0))).chanM c fun h => { h with owed := updAt h.owed r fun n => n - issued }
  else s

/-- One byte lane's adjustment: DDR_DRIFT as it reaches 39 ps. -/
def State.driftLane (s : State) (c lane : Nat) (adj : Int) : State :=
  let old := Tbl.lookD (s.chan c).drift lane 0
  let new := old + adj
  let s := s.chanM c fun h => { h with drift := Tbl.put h.drift lane new }
  if old.natAbs < 39 ∧ 39 ≤ new.natAbs then s.fault (0x108 + c) 0x50 0 lane 0 else s

/-- The channel whose turn the next pause is: channels A to D come in turn, those in service. -/
def State.driftTurn (s : State) : Option Nat := ((List.range 4).map fun i => (s.ddr.turn + i) % 4).find? fun c => (s.chan c).st == .inService

/-- DRIFT_TRACK: the pause of the channel whose turn it is, with the adjustments, in ps, its byte lanes take (R521). -/
def driftTrack (c : Nat) (adjs : List (Nat × Int)) (s : State) : State :=
  if s.driftTurn != some c then s
  else
    let s := s.ddrM fun d => { d with turn := (c + 1) % 4 }
    let s := (s.chanCount c 4).chanM c fun h => { h with pdown := [false, false] }
    let s := adjs.foldl (fun s e => s.driftLane c e.1 e.2) s
    match (s.chan c).drift.find? fun e => decide (78 ≤ e.2.natAbs) with
    | some e => (s.ddrFail c 3 e.2).fault (0x10C + c) 0x50 0 e.1 0
    | none => s

/-- POWER_DOWN_ENTRY of a rank; a request in the same clock abandons it (R525, R529). -/
def powerDownEntry (c r : Nat) (request : Bool) (s : State) : State :=
  let h := s.chan c
  if request || s.ddr.powerDownNs == 0 || h.st != .inService || decide (h.ranks ≤ r) || nth h.pdown r false then s
  else (s.chanM c fun h => { h with pdown := updAt h.pdown r fun _ => true }).chanCount c 5

/-- DDR_THERMAL_READ: the temperatures of the four DIMMs (R523). -/
def ddrThermalRead (temps : List Int) (s : State) : State :=
  (List.range 4).foldl (fun s c =>
    if (s.chan c).st = .absent then s
    else
      let t := nth temps c (s.chan c).temp
      let s := s.chanM c fun h => { h with temp := t }
      if 95 ≤ t then s.fault (0x110 + c) 0x50 1 t.toNat 0 else s) s

/-- The next line of a region at or after an address, from the first region's start once past the last. -/
def State.patrolNext (s : State) (a : Nat) : Option Nat :=
  let rs := s.regions.filter fun r => r.2 != 0
  let cand := rs.filterMap fun r => if a < r.1 then some r.1 else if a < r.1 + r.2 then some a else none
  match cand, rs.map (·.1) with
  | x :: xs, _ => some (xs.foldl min x)
  | [], x :: xs => some (xs.foldl min x)
  | [], [] => none

/-- PATROL_SCRUB: one line of a region is read, corrected, or rewritten with poison (R527, R528). -/
def patrolScrub (s : State) : State :=
  if !s.ddr.patrol || !s.ddrReady || nth s.pwr.doms 31 .run != .run then s
  else
    match s.patrolNext s.ddr.patrolLine with
    | none => s
    | some a => (s.ddrLine (a / 64 * 64) 0x50).2.ddrM fun d => { d with patrolLine := a + 64 }

/-! ## Meanings -/

/-- TRAINING_DONE. -/
def execTrainingDone (passed : Nat) (s : State) : Host.Outcome State Fault Refusal := (trainingDone passed s).done
/-- REFRESH_DUE. -/
def execRefreshDue (ch rank : Nat) (queued : Bool) (s : State) : Host.Outcome State Fault Refusal := (refreshDue ch rank queued s).done
/-- REFRESH_MAKEUP. -/
def execRefreshMakeup (ch rank issued : Nat) (s : State) : Host.Outcome State Fault Refusal := (refreshMakeup ch rank issued s).done
/-- DRIFT_TRACK. -/
def execDriftTrack (ch : Nat) (adjs : List (Nat × Int)) (s : State) : Host.Outcome State Fault Refusal := (driftTrack ch adjs s).done
/-- POWER_DOWN_ENTRY. -/
def execPowerDownEntry (ch rank : Nat) (request : Bool) (s : State) : Host.Outcome State Fault Refusal := (powerDownEntry ch rank request s).done
/-- DDR_THERMAL_READ. -/
def execDdrThermalRead (temps : List Int) (s : State) : Host.Outcome State Fault Refusal := (ddrThermalRead temps s).done
/-- PATROL_SCRUB. -/
def execPatrolScrub (s : State) : Host.Outcome State Fault Refusal := (patrolScrub s).done

end Sys2Proof.Machine
end

