-- ==== Sys2Proof/Machine/Counters.lean ====
section
/-!
DEFINITION. Statistics, snapshots, performance counters, bandwidth meters, and class 0x0F (R535 to R558).
-/
namespace Sys2Proof.Machine

/-- An instant in parameter words i to i + 2, in the layout of R251, in ns times 2^16. -/
def instantAt (c : Packet) (i : Nat) : Nat := (nth c.params i 0#32).toNat * 65536
  + ((nth c.params (i + 1) 0#32).toNat + 4294967296 * (nth c.params (i + 2) 0#32).fld 15 0) * 65536000000000

/-! ## Bandwidth meters (R548, R549) -/

/-- Change a meter. -/
def State.bwmM (s : State) (n : Nat) (f : Bwm → Bwm) : State := s.cntM fun c => { c with bwm := Tbl.upd c.bwm n {} f }

/-- Bytes leave a port node. -/
def State.bwmAdd (s : State) (n bytes : Nat) : State :=
  s.bwmM n fun m => if m.started then { m with count := satAdd 48 m.count bytes } else m

/-- A window ends. -/
def bwmWindowEnd (n : Nat) (s : State) : State :=
  s.bwmM n fun m =>
    if m.started then
      { m with
        last := m.count, count := 0, done := sat32 m.done, total := wrapAdd 32 m.total 1
        minv := match m.minv with
          | some x => some (min x m.count)
          | none => some m.count
        maxv := max m.maxv m.count }
    else { m with started := true, count := 0 }

/-- Restart every meter: the first step of record time (R549). -/
def State.bwmRestart (s : State) : State :=
  (List.range 67).foldl (fun s n => s.bwmM n fun m => { m with started := false, count := 0, minv := none, maxv := 0 }) s

/-- The 32 bytes of a meter's shadow. -/
def Bwm.shadowBytes (m : Bwm) : Bytes :=
  leBytes 8 (nth m.shadow 0 0) ++ leBytes 8 (nth m.shadow 1 0) ++ leBytes 8 (nth m.shadow 2 0) ++ leBytes 4 (nth m.shadow 3 0)
    ++ leBytes 4 (nth m.shadow 4 0)

/-- A meter with its shadow latched. -/
def Bwm.latch (m : Bwm) : Bwm := { m with shadow := [m.count, m.last, m.minv.getD 0, m.total, m.window] }

/-! ## Snapshots (R537 to R542) -/

/-- Write the header of the image. -/
def State.imageHeader (s : State) (a st : Nat) : State :=
  let c := s.cnt
  s.ddrStore a (leBytes 8 c.cutId ++ time12 c.cutTime ++ [by8 st, by8 (b2n c.snapStats), 0#8, 0#8] ++ leBytes 4 c.cowLines ++ leBytes 4 c.withheld)

/-- Write the shadow sections of the image. -/
def State.imageShadows (s : State) (a : Nat) : State :=
  let s := s.ddrStore (a + 0x1000) ((List.range 640).flatMap fun n => leBytes 8 (s.perfCtr n).shadow)
  s.ddrStore (a + 0x3000) ((List.range 67).flatMap fun m => (Tbl.lookD s.cnt.bwm m {}).shadowBytes)

/-- The consistent cut: identifier, shadows, tick (R537, R550). -/
def State.cut (s : State) : State :=
  let perf := Tbl.mapV s.cnt.perf fun _ (p : Perf) => { p with shadow := p.live }
  let bwm := (List.range 67).map fun n => (n, (Tbl.lookD s.cnt.bwm n {}).latch)
  s.cntM fun c => { c with
    snapId := (c.snapId + 1) % 18446744073709551616
    cutId := (c.snapId + 1) % 18446744073709551616
    cutTime := c.snapTick
    perf := perf
    bwm := bwm
    snap := .copying, copied := [], cowLines := 0, withheld := 0 }

/-- SNAPSHOT_TICK: the instant of an armed snapshot. -/
def snapshotTick (s : State) : State :=
  if s.cnt.snap ≠ .armed ∨ s.time.record.t < s.cnt.snapTick then s
  else
    let s := s.cut
    match s.cnt.area with
    | some a =>
      if s.ddrReady && s.mode.mode != .safe then
        let s := s.ddrM fun d => { d with mem := d.mem.filter fun e => decide (e.1 < a) || decide (a + 1048576 ≤ e.1) }
        ((s.cntM fun c => { c with image := true }).imageHeader a 2).imageShadows a
      else if s.mode.mode = .safe then s.snapAbort 3 else s.snapAbort 2
    | none => s

/-- The copier's lines: every line not yet copied goes to the image. -/
def State.copyRest (s : State) (a : Nat) : State :=
  let lo := a + 1048576
  let keep (e : Host.Cell) : Bool := decide (e.1 < lo) || decide (lo + 16777216 ≤ e.1) || s.cnt.copied.contains ((e.1 - lo) / 64)
  let s := s.ddrM fun d => { d with mem := d.mem.filter keep }
  ((s.cnt.stats.map (·.1 / 4)).eraseDups.filter fun k => !s.cnt.copied.contains k).foldl (fun s k => s.ddrStore (imageLine a k) (s.statLine k)) s

/-- SNAPSHOT_DONE: the copy ends, or the shadows are written. -/
def snapshotDone (s : State) : State :=
  if s.cnt.snap ≠ .copying then s
  else
    let s := match s.cnt.area with
      | some a => if s.cnt.image && s.ddrReady && s.mode.mode != Mode.safe then (if s.cnt.snapStats then s.copyRest a else s).imageHeader a 3 else s
      | none => s
    (s.cntM fun c => { c with snap := .complete }).snapEvent (b2n (!s.cnt.snapStats))

/-! ## Statistics commands (R553 to R556) -/

/-- Lines a copy in progress has not queued. -/
def State.linesLeft (s : State) : Nat := if s.cnt.snap = .copying ∧ s.cnt.snapStats then 262144 - s.cnt.copied.length else 0

/-- Checks of a range of pairs with its count in bits [hi:0] of word 0. -/
def pairRange (c : Packet) (hi lim : Nat) : List (Bool × Status × Nat) :=
  let n := (c.w 0).fld hi 0
  [(decide (c.obj < 1048576), .badParam, 8), reserved c 0 (2 ^ (hi + 1) - 1), (n != 0, .badZero, 16),
   fieldIs 0 0 (decide (n ≤ lim)), fieldIs 0 0 (decide (c.obj + n ≤ 1048576))]

/-- The four words of a pair. -/
def State.pairWords (s : State) (i : Nat) : List Word :=
  let v := Tbl.lookD s.cnt.stats i (0, 0)
  w64 v.1 ++ w64 v.2

/-- STAT_READ. -/
def statRead (c : Packet) (s : State) : Res :=
  checks (pairRange c 7 255) (.data ((List.range ((c.w 0).fld 7 0)).flatMap fun k => s.pairWords (c.obj + k)) s)

/-- STAT_CLEAR. -/
def statClear (c : Packet) (s : State) : Res :=
  let n := (c.w 0).fld 14 0
  checks (pairRange c 14 16384)
    (let inR (i : Nat) : Bool := decide (c.obj ≤ i) && decide (i < c.obj + n)
     let lines := (List.range ((c.obj + n - 1) / 4 + 1 - c.obj / 4)).map (c.obj / 4 + ·)
     let s := if s.cnt.snap = .copying ∧ s.cnt.snapStats then lines.foldl (fun s k => s.copyOnWrite k) s else s
     .ok (s.cntM fun x => { x with stats := x.stats.filter fun e => !inR e.1 }))

/-- SNAP_AREA_SET. -/
def snapAreaSet (c : Packet) (s : State) : Res :=
  let en := (c.w 0).bit 0
  let base := c.n 1 + 4294967296 * c.n 2
  checks [objZero c, reserved c 0 1, fieldIs 1 0 (base % 1048576 == 0 && (en || base == 0)),
      (!en || (s.ddrReady && decide (base + 17825792 ≤ s.ddr.capacity)), .noResource, 0),
      (!(en && s.overlaps 3 base 17825792), .conflict, 1), (s.cnt.snap != .armed, .conflict, 2)]
    (let s := s.snapAbort 3
     .ok (s.cntM fun x => { x with area := if en then some base else none, image := false }))

/-- SNAP_TAKE. -/
def snapTake (c : Packet) (s : State) : Res :=
  let t := instantAt c 1
  let now := s.time.record.t
  let id := wd (s.cnt.snapId + 1)
  let stats := (c.w 0).bit 0
  let late := t != 0 && decide (t < now + 131072000)
  checks [objZero c, reserved c 0 1, reserved c 3 0xFFFF, within c 1 31 0 0 999999999,
      (!s.snapBusy, .busy, if s.cnt.snap = .armed then id.toNat else s.cnt.snapId % 4294967296),
      (!(stats && (s.cnt.area.isNone || !s.ddrReady)), .noResource, 0),
      (!(late && !c.lateOk), .timePast, 0)]
    (let s := s.cntM fun x => { x with snap := .armed, snapStats := stats, snapTick := if t = 0 || late then now else t }
     .done (if late then .okAdjusted else .ok) id.toNat [] s)

/-- SNAP_STATUS. -/
def snapStatus (c : Packet) (s : State) : Res :=
  checks [objZero c]
    (.data (w64 s.cnt.snapId ++ [wd s.cnt.snap.code] ++ timeWords s.cnt.snapTick ++ [wd s.linesLeft, wd s.cnt.withheld]) s)

/-- SNAP_READ: the image's identifier and state stand in its own header (R538). -/
def snapRead (c : Packet) (s : State) : Res :=
  let n := (c.w 0).fld 7 0
  checks (pairRange c 7 255 ++ [(s.cnt.snap != .copying, .busy, s.linesLeft)])
    (match s.cnt.area with
    | none => .fail .notFound 0
    | some a =>
      if !s.cnt.image then .fail .notFound 0
      else
        match s.ddrCheck (a + 1048576 + 16 * c.obj) (16 * n) 0x20 with
        | (some l, s) => .done .integrity (l % 4294967296) [] s
        | (none, s) =>
          let head := Mem.reads s.ddr.mem a 24
          .data ([wd (leNat (bytesAt head 0 4)), wd (byteAt head 0x14 % 8)] ++ bytesWords (Mem.reads s.ddr.mem (a + 1048576 + 16 * c.obj) (16 * n))) s)

/-! ## Performance counter commands (R544, R557) -/

/-- Event sources and occupancies of a unit beside 0x00. -/
def prfKind (u : Nat) : List Nat × List Nat :=
  if u < 16 then (if u % 2 = 0 then ([0x10, 0x11, 0x12, 0x13], [0x18, 0x19]) else ([0x10, 0x11, 0x12, 0x13], [0x18]))
  else if u < 32 then (if u % 2 = 0 then ([0x10, 0x11, 0x12], []) else ([0x10, 0x11, 0x12, 0x13], []))
  else if u < 43 then ([0x10, 0x11], [0x18, 0x19, 0x1A])
  else if u = 43 then ([0x10, 0x11, 0x12], [0x18])
  else if u = 44 then ([0x10, 0x11], [0x18])
  else if u ≤ 52 then ([0x10, 0x11, 0x12, 0x13, 0x14], [])
  else if u ≤ 64 then ([0x10, 0x11], [0x18, 0x19])
  else if u ≤ 66 then ([0x10, 0x11, 0x12], [0x18])
  else if u ≤ 70 then ([0x10, 0x11, 0x12], [0x18, 0x19])
  else if u ≤ 76 then ([0x10, 0x11, 0x12, 0x13], [0x18, 0x19])
  else if u ≤ 78 then ([0x10, 0x11, 0x12], [0x18])
  else ([0x10], [0x18])

/-- PRF_SELECT. -/
def prfSelect (c : Packet) (s : State) : Res :=
  let n := c.obj
  let w := c.w 0
  let k := prfKind (n / 8)
  let ev := w.fld 7 0
  let isE := ev == 0 || k.1.contains ev
  let isO := k.2.contains ev
  let mode := w.fld 9 8
  checks [objBelow c 640, reserved c 0 0xFFFF07FF, fieldIs 0 0 (isE || isO),
      fieldIs 0 8 (!((mode == 2 || mode == 3) && isE) && !(mode == 1 && isO)),
      fieldIs 0 8 (!(w.bit 10 && n % 2 == 0))]
    (let was := (s.perfCtr n).chain
     let s := s.cntM fun x => { x with perf := Tbl.upd x.perf n {} fun p => { p with sel := w } }
     .ok (if w.bit 10 && !was then (s.perfSet n 0).perfSet (n - 1) 0 else s))

/-- PRF_READ. -/
def prfRead (c : Packet) (s : State) : Res :=
  let p (k : Nat) : Perf := s.perfCtr (8 * c.obj + k)
  checks [objBelow c 80]
    (.data ((List.range 8).flatMap (fun k => w64 (p k).live) ++ (List.range 8).flatMap (fun k => w64 (p k).shadow)
      ++ (List.range 8).map fun k => (p k).sel) s)

/-! ## Meter commands (R558) -/

/-- BWM_SET. -/
def bwmSet (c : Packet) (s : State) : Res :=
  checks [objBelow c 67, nonZero c 0 31 0, within c 0 31 0 1000 1000000000]
    (.ok (s.bwmM c.obj fun m => { m with window := c.n 0, started := false, count := 0, minv := none, maxv := 0 }))

/-- BWM_READ. -/
def bwmRead (c : Packet) (s : State) : Res :=
  let m := Tbl.lookD s.cnt.bwm c.obj {}
  checks [objBelow c 67]
    (.data ([wd m.window, wd m.done] ++ w64 m.count ++ w64 m.last ++ w64 (m.minv.getD 0) ++ w64 m.maxv
      ++ w64 (nth m.shadow 0 0) ++ w64 (nth m.shadow 1 0))
      (s.bwmM c.obj fun m => { m with minv := none, maxv := 0, done := 0 }))

/-! ## Meanings -/

/-- SNAPSHOT_TICK. -/
def execSnapshotTick (s : State) : Host.Outcome State Fault Refusal := (snapshotTick s).done
/-- SNAPSHOT_DONE. -/
def execSnapshotDone (s : State) : Host.Outcome State Fault Refusal := (snapshotDone s).done
/-- BWM_WINDOW_END. -/
def execBwmWindowEnd (node : Nat) (s : State) : Host.Outcome State Fault Refusal :=
  (if node < 67 then bwmWindowEnd node s else s).done

end Sys2Proof.Machine
end

