-- ==== Sys2Proof/Machine/Times.lean ====
section
/-!
DEFINITION. The four clocks, PTP domains and their servos, line time, pulses, captures and gate lists, and the commands of class 0x0A (R396 to R427).
-/
namespace Sys2Proof.Machine

/-! ## Clocks (R16, R396, R397) -/

/-- A clock one timing clock later, at a rate correction in ppb. -/
def Clk.adv (c : Clk) (ppb : Int) : Clk :=
  let x := c.res + 81920 * ((1000000000 : Int) + ppb).toNat
  { t := c.t + x / 1000000000, res := x % 1000000000 }

/-- Domain A or B. -/
def State.dom (s : State) (d : Nat) : PtpDom := if d = 0 then s.time.domA else s.time.domB

/-- Change a domain. -/
def State.domM (s : State) (d : Nat) (f : PtpDom → PtpDom) : State :=
  s.timeM fun t => if d = 0 then { t with domA := f t.domA } else { t with domB := f t.domB }

/-- A domain clock. -/
def State.domClk (s : State) (d : Nat) : Clk := if d = 0 then s.time.ltA else s.time.ltB

/-- Set a domain clock's time. -/
def State.setDomClk (s : State) (d t : Nat) : State :=
  s.timeM fun b => if d = 0 then { b with ltA := { b.ltA with t := t } } else { b with ltB := { b.ltB with t := t } }

/-- The frequency correction line time takes. -/
def State.linePpb (s : State) : Int :=
  match s.time.source with
  | 0 => s.time.holdPpb
  | 1 => s.time.domA.adj
  | _ => s.time.domB.adj

/-- Move s toward zero by `n` units. -/
def slewBy (x : Int) (n : Nat) : Int := if 0 ≤ x then max 0 (x - n) else min 0 (x + n)

/-- Line time as its domain clock and s give it. -/
def State.followDom (s : State) : State :=
  if s.time.source = 0 then s
  else s.timeM fun t => { t with line := { t.line with t := (((s.domClk (t.source - 1)).t : Int) + t.slew).toNat } }

/-- Every clock one timing clock later (R16, R406): s moves by 1 ns per ms. -/
def State.tickClocks (s : State) : State :=
  let ppb := s.linePpb
  let s := s.timeM fun t => { t with
    core := t.core + 2
    record := t.record.adv (if t.follow then ppb else t.ratePpb)
    ltA := t.ltA.adv t.domA.adj
    ltB := t.ltB.adv t.domB.adj }
  if s.time.source = 0 then s.timeM fun t => { t with line := t.line.adv ppb }
  else
    let a := s.time.slewAcc + 81920
    (s.timeM fun t => { t with slew := slewBy t.slew (a / 1000000), slewAcc := a % 1000000 }).followDom

/-- The source code of R109. -/
def State.lineSource (s : State) : Nat := if s.time.source != 0 && s.time.slew != 0 then 3 else s.time.source

/-- 2 µs, in ns times 2^16. -/
def twoUs : Nat := 131072000

/-- The first instant base + n × step that is at least `t`. -/
def firstAt (base step t : Nat) : Nat := if t ≤ base ∨ step = 0 then base else base + ceilDiv (t - base) step * step

/-- An instant in the layout of R251 has its nanoseconds below 10^9 and its reserved bits zero. -/
def instantOk (c : Packet) (i : Nat) : List (Bool × Status × Nat) := [within c i 31 0 0 999999999]

/-- LINE_TIME_SWITCHED (R407): the difference is the domain clock less line time. -/
def State.lineSwitched (s : State) (cause d : Nat) (slews : Bool) (diff : Int) : State :=
  let us := if slews then min (diff.natAbs * 1000 / 65536) 4294967295 else 0
  let ns := diff / 65536
  s.postEvent 0x0A02 d [wd (cause + 2 * b2n slews), wdi ns, wdi (ns / 4294967296), wd us]

/-! ## Re-basing (R408) -/

/-- A gate port after line time was set to `now`. -/
def GatePort.rebased (g : GatePort) (now : Nat) : GatePort :=
  match g.oper with
  | none => g
  | some l =>
    let next := firstAt l.base (l.cycle * 65536) (now + twoUs)
    { g with cycleStart := next, removeAt := g.removeAt.map fun _ => next }

/-- A pulse output after line time was set from `old` to `now`. -/
def Pulse.rebased (p : Pulse) (old now : Nat) : Pulse :=
  let p := if p.endRecord then p else { p with endAt := p.endAt.map fun e => now + (e - old) }
  if p.record then p
  else if p.mode = 2 then { p with next := firstAt p.start (p.period * 65536) (now + twoUs) }
  else if p.mode = 1 then { p with mode := 0 }
  else p

/-- Line time is set in one tick: what runs on it is re-based. -/
def State.setLine (s : State) (now : Nat) : State :=
  let old := s.time.line.t
  let gone := (s.time.pulses.filter fun p => p.mode == 1 && !p.record).length
  let s := s.timeM fun t => { t with
    line := { t := now, res := 0 }
    gates := t.gates.mapV fun _ g => g.rebased now
    pulses := t.pulses.map fun p => p.rebased old now
    cancelled := satAdd 32 t.cancelled gone }
  s.commitWake true

/-- Slew to a domain from the present line time (R406). -/
def State.slewTo (s : State) (d : Nat) : State :=
  s.timeM fun t => { t with source := d + 1, neverSet := false, slewAcc := 0, slew := (t.line.t : Int) - (s.domClk d).t }

/-! ## Servos (R404, R405) -/

/-- A servo that waits for its first offset: its measurements are gone, its frequency adjustment stays in force. -/
def PtpDom.freed (d : PtpDom) : PtpDom :=
  { d with servo := .free, offset := none, delay := none, integral := 0, adjs := [], above := 0, below := 0
           sync := none, msOffset := none, dreq := none, preq := none, presp := none, save := none }

/-- Clamp to ± m. -/
def clampI (m x : Int) : Int := max (-m) (min m x)

/-- The PI law, its result in whole ppb toward zero. -/
def PtpDom.piLaw (d : PtpDom) (o : Int) : PtpDom :=
  let i := d.integral + o
  let a := clampI d.maxAdj (Int.tdiv (-((d.kp : Int) * o + (d.ki : Int) * i)) 4294967296)
  { d with integral := i, adj := a, adjs := (a :: d.adjs).take 16 }

/-- Count consecutive updates below the lock threshold and above the step threshold. -/
def PtpDom.counted (d : PtpDom) (o : Int) : PtpDom :=
  { d with
    offset := some o
    above := if (d.stepNs : Int) * 65536 < o.natAbs then d.above + 1 else 0
    below := if (o.natAbs : Int) < d.lockNs * 65536 then d.below + 1 else 0 }

/-- The measurements a domain holds, after a step of its clock by the negated offset. -/
def PtpDom.shifted (d : PtpDom) (o : Int) : PtpDom :=
  { d with
    sync := d.sync.map fun x => (x.1, x.2.1 - o, x.2.2)
    msOffset := d.msOffset.map fun x => x - o
    dreq := d.dreq.map fun x => (x.1, x.2 - o)
    preq := d.preq.map fun x => (x.1, x.2 - o)
    presp := d.presp.map fun x => (x.1, x.2.1 - o, x.2.2) }

/-- Step a domain's clock by the negated offset; a selected domain's step goes into s. -/
def State.stepDom (s : State) (d : Nat) (o : Int) : State :=
  let s := (s.setDomClk d (((s.domClk d).t : Int) - o).toNat).domM d fun p => p.shifted o
  if s.time.source = d + 1 then s.timeM fun t => { t with slew := t.slew + o } else s

/-- An offset steps the domain clock instead of running the PI law. -/
def PtpDom.steps (p : PtpDom) (o : Int) : Bool := p.servo != .locked && p.stepNs != 0 && decide ((p.stepNs : Int) * 65536 < o.natAbs)

/-- An update of a servo with an offset (R405). HOLDOVER ends with a Sync only, so the offset of a late Follow_Up leaves it; an update that steps counts among the last 16 with the adjustment in force. -/
def State.servoUpdate (s : State) (d : Nat) (o : Int) : State :=
  if (s.dom d).servo = .holdover then s.domM d fun p => { p with offset := some o }
  else
  let s := s.domM d fun p => (if p.servo == .locked then p else { p with servo := .acquire }).counted o
  let p := s.dom d
  let s := if p.steps o then
      (s.stepDom d o).domM d fun p => { p with
        integral := 0, counts := updAt p.counts 3 sat32, adjs := (p.adj :: p.adjs).take 16
        save := p.save.map fun v => { v with stepped := o } }
    else s.domM d fun p => p.piLaw o
  s.domM d fun p =>
    if p.servo == .locked then (if 4 ≤ p.above then { p with servo := .acquire, above := 0, below := 0 } else p)
    else if 8 ≤ p.below then { p with servo := .locked, above := 0 } else p

/-- A line-time stamp as a domain's clock has it: the engine measures each domain clock against line time continuously (R404, R405). -/
def State.inDom (s : State) (d : Nat) (stamp : Nat) : Int := (stamp : Int) + (s.domClk d).t - s.time.line.t

/-- The servo of a domain as it stands, for a delay sample later in this tick. -/
def State.saveServo (s : State) (d : Nat) (m : Int) : State :=
  let core := s.time.core
  s.domM d fun p => { p with
    save := some { core := core, ms := m, stepped := 0, servo := p.servo, offset := p.offset, integral := p.integral, adj := p.adj
                   adjs := p.adjs, above := p.above, below := p.below, counts := p.counts } }

/-- The offset of a measurement, once a delay is known. -/
def State.offsetNow (s : State) (d : Nat) (m : Int) : State :=
  match (s.dom d).delay with
  | some y => s.servoUpdate d (m - y)
  | none => s

/-- A measurement of the master less the delay is an offset, once a delay is known. -/
def State.measured (s : State) (d : Nat) (m : Int) : State :=
  ((s.saveServo d m).domM d fun p => { p with msOffset := some m }).offsetNow d m

/-- An offset taken in this very tick is taken again with the delay that has come since: a Sync and a Delay_Resp of one tick update the delay first (R416). -/
def State.offsetAgain (s : State) (d : Nat) : State :=
  match (s.dom d).save with
  | some v =>
    if v.core = s.time.core then
      let s := if v.stepped = 0 then s else s.stepDom d (-v.stepped)
      let s := s.domM d fun p => { p with
        servo := v.servo, offset := v.offset, integral := v.integral, adj := v.adj, adjs := v.adjs, above := v.above, below := v.below
        counts := updAt p.counts 3 fun _ => nth v.counts 3 0
        save := some { v with stepped := 0 } }
      s.offsetNow d v.ms
    else s
  | none => s

/-- A delay sample. -/
def State.delaySample (s : State) (d : Nat) (x : Int) : State :=
  State.offsetAgain (d := d) <| s.domM d fun p => { p with
    delay := some (match p.delay with
      | none => x
      | some y => y + (x - y) / 16)
    counts := updAt p.counts 1 sat32 }

/-! ## PTP messages (IEEE 1588, R403) -/

/-- messageType. -/
def ptpType (m : Bytes) : Nat := byteAt m 0 % 16
/-- domainNumber. -/
def ptpDomain (m : Bytes) : Nat := byteAt m 4
/-- majorSdoId. -/
def ptpSdo (m : Bytes) : Nat := byteAt m 0 / 16
/-- twoStepFlag. -/
def ptpTwoStep (m : Bytes) : Bool := nbit (byteAt m 6) 1
/-- correctionField, ns times 2^16. -/
def ptpCorr (m : Bytes) : Int := sgn 64 (beAt m 8 8)
/-- sequenceId. -/
def ptpSeq (m : Bytes) : Nat := beAt m 30 2
/-- The timestamp at byte 34, ns times 2^16. -/
def ptpTime (m : Bytes) : Int := ((beAt m 34 6 * 1000000000 + beAt m 40 4) * 65536 : Nat)

/-- The message stands on an enabled domain's slave port with its domain number and majorSdoId. -/
def PtpDom.hears (d : PtpDom) (port : Nat) (m : Bytes) (typ : Nat) : Bool :=
  d.en && d.port == port && ptpType m == typ && ptpDomain m == d.number && ptpSdo m == d.sdo

/-- The message comes from the domain's master. -/
def PtpDom.fromMaster (d : PtpDom) (m : Bytes) : Bool := beAt m 20 8 == d.masterId && beAt m 28 2 == d.masterPort

/-- A message the domain does not accept. -/
def State.rejectPtp (s : State) (d : Nat) : State := s.domM d fun p => { p with counts := updAt p.counts 2 sat32 }

/-- PTP_SYNC: domain d's hardware reads a Sync and its ingress stamp. -/
def ptpSync (d port : Nat) (m : Bytes) (stamp : Nat) (s : State) : State :=
  let p := s.dom d
  if p.hears port m 0 && p.fromMaster m then
    let t2 := s.inDom d stamp
    let s := s.domM d fun p => { p with
      servo := if p.servo == .holdover then .acquire else p.servo
      counts := updAt p.counts 0 sat32
      sync := if ptpTwoStep m then some (ptpSeq m, t2, ptpCorr m) else none }
    if ptpTwoStep m then s else s.measured d (t2 - ptpTime m - ptpCorr m)
  else s.rejectPtp d

/-- FOLLOW_UP. -/
def ptpFollowUp (d port : Nat) (m : Bytes) (s : State) : State :=
  let p := s.dom d
  match p.sync with
  | some (q, t2, c) =>
    if p.hears port m 8 && p.fromMaster m && q == ptpSeq m then s.measured d (t2 - ptpTime m - (c + ptpCorr m))
    else s.rejectPtp d
  | none => s.rejectPtp d

/-- DELAY_RESP. -/
def ptpDelayResp (d port : Nat) (m : Bytes) (s : State) : State :=
  let p := s.dom d
  match p.dreq with
  | some (q, t3) =>
    if p.hears port m 9 && !p.p2p && q == ptpSeq m then
      match p.msOffset with
      | some x => s.delaySample d ((x + (ptpTime m - t3 - ptpCorr m)) / 2)
      | none => s
    else s.rejectPtp d
  | none => s.rejectPtp d

/-- PDELAY_RESP, with its ingress stamp. -/
def ptpPdelayResp (d port : Nat) (m : Bytes) (stamp : Nat) (s : State) : State :=
  let p := s.dom d
  match p.preq with
  | some (q, t1) =>
    if p.hears port m 3 && p.p2p && q == ptpSeq m then
      let t4 := s.inDom d stamp
      if ptpTwoStep m then s.domM d fun p => { p with presp := some (q, t4, ptpTime m, ptpCorr m) }
      else (s.domM d fun p => { p with presp := none }).delaySample d ((t4 - t1 - ptpCorr m) / 2)
    else s.rejectPtp d
  | none => s.rejectPtp d

/-- PDELAY_RESP_FOLLOW_UP. -/
def ptpPdelayFollowUp (d port : Nat) (m : Bytes) (s : State) : State :=
  let p := s.dom d
  match p.preq, p.presp with
  | some (q, t1), some (q', t4, rx, c) =>
    if p.hears port m 10 && p.p2p && q == ptpSeq m && q' == q then
      s.delaySample d ((t4 - t1 - (ptpTime m - rx + c + ptpCorr m)) / 2)
    else s.rejectPtp d
  | _, _ => s.rejectPtp d

/-- A servo enters HOLDOVER with its mean adjustment, and PTP_STATE says so (R407). -/
def State.holdEntered (s : State) (d : Nat) : State :=
  let p := s.dom d
  (s.domM d fun p => { p with
    servo := .holdover, above := 0, below := 0
    adj := if p.adjs.isEmpty then p.adj else p.adjs.foldl (· + ·) 0 / (p.adjs.length : Int) }).postEvent 0x0A01 d
    ([wd p.servo.code] ++ bytesWords (beBytes 8 p.masterId) ++ [wd p.masterPort])

/-- HOLDOVER (R405, R407): no accepted Sync in time. -/
def ptpHoldover (d : Nat) (s : State) : State :=
  if !(s.dom d).en || (s.dom d).servo == .holdover then s
  else
    let s := s.holdEntered d
    let o := 1 - d
    let diff := ((s.domClk o).t : Int) - s.time.line.t
    if s.time.source = d + 1 ∧ s.time.autoSwitch ∧ (s.dom o).en ∧ (s.dom o).servo = .locked
        ∧ diff.natAbs ≤ s.time.maxSlew * 65536 then
      (s.slewTo o).lineSwitched 1 o true diff
    else s

/-- A PTP event message leaves a port: a request of a domain's slave port is remembered with its egress stamp (R403). -/
def State.ptpSent (s : State) (port : Nat) (m : Bytes) (stamp : Nat) : State :=
  [0, 1].foldl (fun s d =>
    let p := s.dom d
    let t := s.inDom d stamp
    if p.hears port m 1 && !p.p2p then s.domM d fun p => { p with dreq := some (ptpSeq m, t) }
    else if p.hears port m 2 && p.p2p then s.domM d fun p => { p with preq := some (ptpSeq m, t) }
    else s) s

/-! ## PTP ports (R398 to R402) -/

/-- PTP settings of a port. -/
def State.ptpPort (s : State) (p : Nat) : PtpPort := Tbl.lookD s.time.ptpPorts p {}

/-- Change a port's PTP settings. -/
def State.ptpPortM (s : State) (p : Nat) (f : PtpPort → PtpPort) : State :=
  s.timeM fun t => { t with ptpPorts := Tbl.upd t.ptpPorts p {} f }

/-- Post an egress stamp (R402). -/
def State.postStamp (s : State) (p : Nat) (m : Bytes) (stamp : Nat) : State :=
  s.ptpPortM p fun q => { q with
    fifo := (if 16 ≤ q.fifo.length then q.fifo.drop 1 else q.fifo) ++ [(ptpType m, ptpDomain m, ptpSeq m, stamp)]
    overflow := q.overflow || decide (16 ≤ q.fifo.length) }

/-- An adjustment in picoseconds as ns times 2^16. -/
def psUnits (ps : Int) : Int := ps * 65536 / 1000

/-- A stamp as the MAC keeps it: quantised to one timing clock of 1.25 ns, the instant of its start (R399). -/
def stampAt (x : Int) : Nat := x.toNat / 81920 * 81920

/-! ## Gate schedules (R411 to R414) -/

/-- Segments of one cycle: start, end and open gates, in ns times 2^16; the last entry holds to the end. -/
def gateSegs (cycle : Nat) : Nat → List (Nat × Nat) → List (Nat × Nat × Nat)
  | _, [] => []
  | t, [(g, _)] => [(t, cycle, g)]
  | t, (g, i) :: r => (t, t + i * 65536, g) :: gateSegs cycle (t + i * 65536) r

/-- The segments of a list. -/
def GateList.segs (l : GateList) : List (Nat × Nat × Nat) := gateSegs (l.cycle * 65536) 0 l.entries

/-- Some gate state of the list closes the class. -/
def GateList.closes (l : GateList) (c : Nat) : Bool := l.entries.any fun e => !nbit e.1 c

/-- The class stays open through `d` from offset `o` of a cycle. -/
def GateList.opens (l : GateList) (c o d : Nat) : Bool :=
  if !l.closes c then true
  else
    let cyc := l.cycle * 65536
    decide (d ≤ cyc) &&
      (l.segs ++ l.segs.map fun x => (x.1 + cyc, x.2.1 + cyc, x.2.2)).all fun x =>
        decide (x.2.1 ≤ o) || decide (o + d ≤ x.1) || nbit x.2.2 c

/-- The longest run of open segments, unrolled over two cycles. -/
def longestRun (c : Nat) : List (Nat × Nat × Nat) → Nat → Nat → Nat
  | [], _, best => best
  | (a, b, g) :: r, run, best =>
    let run := if nbit g c then run + (b - a) else 0
    longestRun c r run (max best run)

/-- The longest open interval of a class; none when its gate never closes. -/
def GateList.longest (l : GateList) (c : Nat) : Option Nat :=
  if l.closes c then some (longestRun c (l.segs ++ l.segs) 0 0) else none

/-- Gate state of a port. -/
def State.gate (s : State) (p : Nat) : GatePort := Tbl.lookD s.time.gates p {}

/-- Change a port's gate state. -/
def State.gateM (s : State) (p : Nat) (f : GatePort → GatePort) : State :=
  s.timeM fun t => { t with gates := Tbl.upd t.gates p {} f }

/-- The port has an operational or pending list. -/
def GatePort.listed (g : GatePort) : Bool := g.oper.isSome || g.admin.isSome

/-- The operational schedule keeps a class open from `a` to `b`. -/
def GatePort.operOpen (g : GatePort) (c a b : Nat) : Bool :=
  match g.oper with
  | none => true
  | some l =>
    if b ≤ a then true
    else if a < g.cycleStart then
      nbit g.gates c && (decide (b ≤ g.cycleStart) || l.opens c 0 (b - g.cycleStart))
    else l.opens c ((a - g.cycleStart) % (l.cycle * 65536)) (b - a)

/-- The schedule as it will run keeps a class open from `a` to `b` (R413). -/
def GatePort.schedOpen (g : GatePort) (c a b : Nat) : Bool :=
  match g.removeAt, g.admin with
  | some x, _ => g.operOpen c a (min b x)
  | none, some l =>
    let x := g.switchAt
    g.operOpen c a (min b x) && (decide (b ≤ max a x) || l.opens c ((max a x - x) % (l.cycle * 65536)) (b - max a x))
  | none, none => g.operOpen c a b

/-- A frame that takes `d` is longer than every interval that could hold it (R414). -/
def GatePort.oversize (g : GatePort) (c d : Nat) : Bool :=
  let excess (l : GateList) : Bool := match l.longest c with
    | some m => decide (m < d)
    | none => false
  match g.oper, g.admin with
  | some l, some a => excess l && excess a
  | some l, none => excess l
  | none, _ => false

/-- Entry and gate states of a list at an offset of its cycle. -/
def GateList.at_ (l : GateList) (o : Nat) : Nat × Nat :=
  match (List.zip (List.range l.entries.length) l.segs).find? fun x => decide (o < x.2.2.1) with
  | some (i, _, _, g) => (i, g)
  | none => (0, 255)

/-- Bring a port's cycle, entry and gates to a line time. -/
def GatePort.sync (g : GatePort) (now : Nat) : GatePort :=
  match g.oper with
  | none => { g with entry := 0, gates := 255 }
  | some l =>
    if now < g.cycleStart then g
    else
      let cyc := l.cycle * 65536
      let st := g.cycleStart + (now - g.cycleStart) / cyc * cyc
      let (i, m) := l.at_ (now - st)
      { g with cycleStart := st, entry := i, gates := m }

/-- GATE_BOUNDARY: the gates as line time has them; at the boundary of a removal both lists go. -/
def gateBoundary (p : Nat) (s : State) : State :=
  let now := s.time.line.t
  if (s.gate p).listed then
    s.gateM p fun g => match g.removeAt with
      | some x => if x ≤ now then {} else g.sync now
      | none => g.sync now
  else s

/-- GATE_LIST_SWITCH: at S the administrative list takes over. -/
def gateListSwitch (p : Nat) (s : State) : State :=
  let now := s.time.line.t
  let g := s.gate p
  match g.admin, g.removeAt with
  | some l, none =>
    if g.switchAt ≤ now then
      s.gateM p fun _ => ({ oper := some l, cycleStart := g.switchAt } : GatePort).sync now
    else s
  | _, _ => s

/-! ## Pulses and captures (R409, R410) -/

/-- Drive a pulse output. -/
def State.drivePps (s : State) (o : Nat) (level : Bool) : State :=
  if nbit s.pins.ppsOut o = level then s
  else (s.pinsM fun p => { p with ppsOut := setBit p.ppsOut o level }).emit (.pulse o level)

/-- A pulse output. -/
def State.pulse (s : State) (o : Nat) : Pulse := nth s.time.pulses o {}

/-- Change a pulse output. -/
def State.pulseM (s : State) (o : Nat) (f : Pulse → Pulse) : State := s.timeM fun t => { t with pulses := updAt t.pulses o f }

/-- The timebase of a pulse. -/
def State.pulseNow (s : State) (record : Bool) : Nat := if record then s.time.record.t else s.time.line.t

/-- The end of a pulse in progress, when its instant has come. -/
def State.pulseEnd (s : State) (o : Nat) : State :=
  let p := s.pulse o
  match p.endAt with
  | some e => if e ≤ s.pulseNow p.endRecord then (s.pulseM o fun p => { p with endAt := none }).drivePps o p.low else s
  | none => s

/-- PULSE_EDGE: a pulse ends or starts at its instant. -/
def pulseEdge (o : Nat) (s : State) : State :=
  let s := s.pulseEnd o
  let p := s.pulse o
  if p.mode ≠ 0 ∧ p.endAt = none ∧ p.next ≤ s.pulseNow p.record ∧ o < 4 then
    (s.pulseM o fun p => { p with
      mode := if p.mode = 1 then 0 else p.mode
      next := p.next + p.period * 65536
      endAt := some (p.next + p.width * 65536), endRecord := p.record }).drivePps o (!p.low)
  else s

/-- PPS_IN_EDGE: a rising edge of a capture input. -/
def ppsInEdge (i : Nat) (s : State) : State :=
  let c := nth s.time.caps i {}
  let now := s.time.record.t
  let close := match c.last with
    | some x => decide (now < x + 6553600)
    | none => false
  if close then s
  else s.timeM fun t => { t with caps := updAt t.caps i fun c =>
    if 16 ≤ c.fifo.length then { c with overflow := true }
    else { c with fifo := c.fifo ++ [(t.line.t, now)], last := some now } }

/-! ## Commands of class 0x0A -/

/-- The first listed field (word, high, low) that is not zero fails with BAD_PARAM. -/
def zeroFields (c : Packet) (fs : List (Nat × Nat × Nat)) : List (Bool × Status × Nat) :=
  fs.map fun f => fieldIs f.1 f.2.2 ((c.w f.1).fld f.2.1 f.2.2 == 0)

/-- A signed field within a range. -/
def withinI (c : Packet) (i hi lo : Nat) (a b : Int) : Bool × Status × Nat :=
  let v := sgn (hi - lo + 1) ((c.w i).fld hi lo)
  (decide (a ≤ v) && decide (v ≤ b), .badParam, fieldOff i lo)

/-- A step of record time to `t` that jumps past an armed snapshot's tick: the snapshot takes the tick of the step (R551). -/
def State.tickJumped (s : State) (t : Nat) : State :=
  s.cntM fun c => { c with snapTick := if c.snap = .armed ∧ c.snapTick < t then t else c.snapTick }

/-- TIME_SET (R397, R418). -/
def timeSet (c : Packet) (s : State) : Res :=
  let step := (c.w 0).bit 0
  let follow := (c.w 0).bit 1
  let t := instantAt c 1
  let rate := sgn 32 (c.n 4)
  checks ([objZero c, reserved c 0 3, reserved c 3 0xFFFF] ++ instantOk c 1
      ++ [fieldIs 1 0 (step || t == 0), fieldIs 4 0 (!(follow && rate != 0)), withinI c 4 31 0 (-100000) 100000,
        (!(step && s.time.recordSet), .conflict, 1), (!(step && decide (t < s.time.record.t)), .conflict, 2)])
    (let s := s.timeM fun b => { b with follow := follow, ratePpb := rate }
     .ok (if step then ((s.timeM fun b => { b with recordSet := true, record := { t := t, res := 0 }, oldNs := some s.ns32 }).tickJumped t).bwmRestart else s))

/-- TIME_GET (R419). -/
def timeGet (c : Packet) (s : State) : Res :=
  let t := s.time
  checks [objZero c]
    (.data (timeWords t.record.t ++ timeWords t.line.t ++ timeWords t.ltA.t ++ timeWords t.ltB.t
      ++ [wd (s.lineSource + 4 * t.domA.servo.code + 16 * t.domB.servo.code + 256 * b2n t.recordSet + 512 * b2n t.autoSwitch
          + 1024 * b2n t.follow),
        wdi (t.slew / 65536), wdi t.domA.adj, wdi t.domB.adj]) s)

/-- TIME_SELECT (R406, R420). -/
def timeSelect (c : Packet) (s : State) : Res :=
  let src := (c.w 0).fld 1 0
  let d := src - 1
  let diff := ((s.domClk d).t : Int) - s.time.line.t
  let set (s : State) : State := s.timeM fun t => { t with autoSwitch := (c.w 0).bit 4, maxSlew := c.n 1 }
  checks [objZero c, reserved c 0 0x13, nonZero c 1 31 0, fieldIs 0 0 (src != 3), within c 1 31 0 1 1000000000,
      (src == 0 || (s.dom d).servo == .locked, .conflict, (s.dom d).servo.code),
      (src == 0 || s.time.neverSet || decide (diff.natAbs ≤ c.n 1 * 65536), .conflict, min (diff.natAbs / 65536) 4294967295)]
    (if src = 0 then
      let ppb := s.linePpb
      .ok ((set s).timeM fun t => { t with source := 0, holdPpb := ppb, slew := 0, slewAcc := 0 })
     else if s.time.neverSet then
      let s := ((set s).slewTo d).timeM fun t => { t with slew := 0 }
      .done .okAdjusted 1 [] ((s.setLine (s.domClk d).t).lineSwitched 0 d false diff)
     else .ok (((set s).slewTo d).lineSwitched 0 d true diff))

/-- The fields of PTP_DOMAIN_SET after enable. -/
def domFields : List (Nat × Nat × Nat) :=
  [(0, 1, 1), (0, 15, 8), (0, 19, 16), (1, 5, 0), (1, 15, 8), (1, 23, 16), (2, 31, 0), (3, 31, 0), (4, 15, 0), (5, 31, 0),
   (6, 31, 0), (7, 31, 0), (8, 31, 0), (9, 31, 0)]

/-- PTP_DOMAIN_SET (R403, R421). -/
def ptpDomainSet (c : Packet) (s : State) : Res :=
  let d := c.obj
  let en := (c.w 0).bit 0
  let o := s.dom (1 - d)
  let port := (c.w 1).fld 5 0
  let num := (c.w 0).fld 15 8
  let sdo := (c.w 0).fld 19 16
  let id := beNat (wordsBytes [c.w 2, c.w 3])
  let mport := (c.w 4).fld 15 0
  let rsv := [objBelow c 2, reserved c 0 0xFFF03, reserved c 1 0xFFFF3F, reserved c 4 0xFFFF]
  if !en then
    checks (rsv ++ zeroFields c domFields) (.ok (s.domM d fun p => { p.freed with en := false }))
  else
    checks (rsv ++ [nonZero c 8 31 0, nonZero c 9 31 0, withinI c 1 15 8 (-7) 4, within c 1 23 16 2 255,
        within c 8 31 0 1 1000000, within c 9 31 0 1 500000,
        (s.hasPort port && (s.ptpPort port).desig, .notFound, 0),
        (!(o.en && o.number == num && o.sdo == sdo), .conflict, 0)])
      (let fresh := !(s.dom d).en || (s.dom d).masterId != id || (s.dom d).masterPort != mport
       .ok (s.domM d fun p =>
        let p := if fresh then p.freed else p
        { p with
          en := true, p2p := (c.w 0).bit 1, number := num, sdo := sdo, port := port
          logSync := sgn 8 ((c.w 1).fld 15 8), timeout := (c.w 1).fld 23 16, masterId := id, masterPort := mport
          kp := c.n 5, ki := c.n 6, stepNs := c.n 7, lockNs := c.n 8, maxAdj := c.n 9 }))

/-- PTP_PORT_SET (R422). -/
def ptpPortSet (c : Packet) (s : State) : Res :=
  let p := c.obj
  let slave (d : Nat) : Bool := (s.dom d).en && (s.dom d).port == p
  checks [(s.hasPort p, .notFound, 0), reserved c 0 3, withinI c 1 31 0 (-1000000) 1000000, withinI c 2 31 0 (-1000000) 1000000,
      ((c.w 0).bit 0 || !slave 0, .conflict, 0), ((c.w 0).bit 0 || !slave 1, .conflict, 1)]
    (.ok (s.ptpPortM p fun q => { q with
      desig := (c.w 0).bit 0, oneStep := (c.w 0).bit 1, inAdj := sgn 32 (c.n 1), outAdj := sgn 32 (c.n 2) }))

/-- PTP_STATUS (R423). -/
def ptpStatus (c : Packet) (s : State) : Res :=
  let p := s.dom c.obj
  let k (i : Nat) : Nat := nth p.counts i 0
  checks [objBelow c 2]
    (.data [wdi (p.offset.getD 0 / 65536), wdi (p.delay.getD 0 / 65536), wdi p.adj, wd (k 0), wd (k 1), wd (k 2), wd (k 3),
      wd (p.servo.code + 65536 * min (k 4) 65535)] s)

/-- PTP_TS_READ (R424). -/
def ptpTsRead (c : Packet) (s : State) : Res :=
  let p := c.obj
  let q := s.ptpPort p
  let ent (e : Nat × Nat × Nat × Nat) : List Word := wd (e.1 + 256 * e.2.1 + 65536 * e.2.2.1) :: timeWords e.2.2.2
  checks [(s.hasPort p && q.desig, .notFound, 0)]
    (.data (wd (q.fifo.length + 65536 * b2n q.overflow) :: q.fifo.flatMap ent)
      (s.ptpPortM p fun q => { q with fifo := [], overflow := false }))

/-- PULSE_SET (R409, R415, R425). -/
def pulseSet (c : Packet) (s : State) : Res :=
  let o := c.obj
  let mode := (c.w 0).fld 1 0
  let rec_ := (c.w 0).bit 2
  let low := (c.w 0).bit 3
  let start := instantAt c 1
  let period := c.n 4 + 4294967296 * c.n 5
  let width := c.n 6
  let now := s.pulseNow rec_
  let late := mode != 0 && decide (start < now + twoUs)
  let next := if mode = 2 ∧ late then firstAt start (period * 65536) (now + twoUs + 1)
    else if late then now else start
  let first := [objBelow c 4, reserved c 0 15, reserved c 3 0xFFFF]
  let apply (s : State) : State :=
    let s := s.pulseM o fun p => { p with
      mode := mode, record := rec_, low := low, start := start, next := next, period := period, width := width }
    if (s.pulse o).endAt.isNone then s.drivePps o low else s
  if mode = 0 then
    checks (first ++ zeroFields c [(0, 2, 2), (0, 3, 3), (1, 31, 0), (2, 31, 0), (3, 15, 0), (4, 31, 0), (5, 31, 0), (6, 31, 0)])
      (.ok (apply s))
  else
    checks (first ++ [nonZero c 6 31 0, (!(mode == 2 && period == 0), .badZero, 32), fieldIs 0 0 (mode != 3)]
        ++ instantOk c 1
        ++ [fieldIs 4 0 (if mode = 2 then decide (40 ≤ period ∧ period ≤ 1000000000000) else period == 0),
          fieldIs 6 0 (decide (5 ≤ width) && (if mode = 2 then decide (width + 5 ≤ period) else decide (width ≤ 1000000000))),
          (!(mode == 1 && late && !c.lateOk), .timePast, 0)])
      (.done (if late then .okAdjusted else .ok) 0 [] (apply s))

/-- CAPTURE_READ (R424). -/
def captureRead (c : Packet) (s : State) : Res :=
  let q := nth s.time.caps c.obj {}
  checks [objBelow c 2]
    (.data (wd (q.fifo.length + 65536 * b2n q.overflow) :: q.fifo.flatMap fun e => timeWords e.1 ++ timeWords e.2)
      (s.timeM fun t => { t with caps := updAt t.caps c.obj fun q => { q with fifo := [], overflow := false } }))

/-- The next boundary of the operational cycle after a line time. -/
def GatePort.boundary (g : GatePort) (now : Nat) : Nat :=
  match g.oper with
  | none => now
  | some l => if now < g.cycleStart then g.cycleStart else g.cycleStart + ((now - g.cycleStart) / (l.cycle * 65536) + 1) * (l.cycle * 65536)

/-- Remove both lists: at once without an operational list, else at the cycle's next boundary. -/
def GatePort.remove (g : GatePort) (now : Nat) : GatePort :=
  if g.oper.isNone then {}
  else
    let b := g.boundary now
    { g with removeAt := some (if g.admin.isSome then min b g.switchAt else b) }

/-- GATE_LIST_SET (R412, R426). -/
def gateListSet (c : Packet) (s : State) : Res :=
  let p := c.obj
  let w := c.w 0
  let len := w.fld 8 0
  let en := w.bit 16
  let base := instantAt c 1
  let cyc := c.n 4
  let ents := (List.range len).map fun i => ((c.w (5 + 2 * i)).fld 7 0, c.n (6 + 2 * i))
  let now := s.time.line.t
  let first := [(s.hasPort p, Status.notFound, 0), (c.params.length == 5 + 2 * len, .badLength, 6), reserved c 0 0x101FF,
    reserved c 3 0xFFFF]
  if !en then
    checks (first ++ [fieldIs 0 0 (len == 0)]) (.ok (s.gateM p fun g => g.remove now))
  else
    let per (f : Nat → Bool × Status × Nat) : List (Bool × Status × Nat) := (List.range len).map f
    checks (first ++ per (fun i => reserved c (5 + 2 * i) 0xFF) ++ [nonZero c 0 8 0, nonZero c 4 31 0]
        ++ per (fun i => nonZero c (6 + 2 * i) 31 0) ++ [within c 0 8 0 1 256] ++ instantOk c 1
        ++ [within c 4 31 0 1000 1000000000] ++ per (fun i => within c (6 + 2 * i) 31 0 20 1000000000)
        ++ [fieldIs 4 0 (decide (sumL (ents.map (·.2)) ≤ cyc))])
      (let at_ := firstAt base (cyc * 65536) (now + twoUs)
       let l : GateList := { base := base, cycle := cyc, entries := ents }
       .done (if now + twoUs ≤ base then .ok else .okAdjusted) (at_ / 65536 % 4294967296) []
        (s.gateM p fun g => { g with admin := some l, switchAt := at_, removeAt := none }))

/-- A gate list in the layout of R426. -/
def GateList.words (l : GateList) : List Word :=
  [wd (l.entries.length + 65536), wd (l.base / 65536 % 1000000000), wd (l.base / 65536000000000),
    wd (l.base / 65536000000000 / 4294967296), wd l.cycle] ++ l.entries.flatMap fun e => [wd e.1, wd e.2]

/-- GATE_LIST_READ (R427). -/
def gateListRead (c : Packet) (s : State) : Res :=
  let p := c.obj
  let g := s.gate p
  let l := if (c.w 0).bit 0 then g.admin else g.oper
  checks [(s.hasPort p, .notFound, 0), reserved c 0 1]
    (.data ([wd (b2n g.oper.isSome + 2 * b2n g.admin.isSome + 256 * g.gates + 65536 * g.entry)]
        ++ timeWords (if g.admin.isSome then g.switchAt else 0)
        ++ [wd (if g.oper.isSome then g.cycleStart / 65536 else 0), wd (s.node p).oversize, wd (s.node p).deferred, wd s.time.cancelled]
        ++ match l with
          | some l => l.words
          | none => [])
      (s.nodeM p fun n => { n with deferred := 0 }))

/-! ## Meanings -/

/-- PTP_SYNC. -/
def execPtpSync (d port : Nat) (msg : Bytes) (stamp : Nat) (s : State) : Host.Outcome State Fault Refusal := (ptpSync d port msg stamp s).done
/-- FOLLOW_UP. -/
def execFollowUp (d port : Nat) (msg : Bytes) (s : State) : Host.Outcome State Fault Refusal := (ptpFollowUp d port msg s).done
/-- DELAY_RESP. -/
def execDelayResp (d port : Nat) (msg : Bytes) (s : State) : Host.Outcome State Fault Refusal := (ptpDelayResp d port msg s).done
/-- PDELAY_RESP. -/
def execPdelayResp (d port : Nat) (msg : Bytes) (stamp : Nat) (s : State) : Host.Outcome State Fault Refusal :=
  (ptpPdelayResp d port msg stamp s).done
/-- PDELAY_RESP_FOLLOW_UP. -/
def execPdelayRespFollowUp (d port : Nat) (msg : Bytes) (s : State) : Host.Outcome State Fault Refusal :=
  (ptpPdelayFollowUp d port msg s).done
/-- HOLDOVER. -/
def execHoldover (d : Nat) (s : State) : Host.Outcome State Fault Refusal := (ptpHoldover d s).done
/-- The last increment of 2^-16 ns takes s to zero; a larger s is still on its way, and line time does not step (R406). -/
def slewComplete (s : State) : State :=
  if s.time.slew.natAbs ≤ 1 then (s.timeM fun t => { t with slew := 0, slewAcc := 0 }).followDom else s

/-- SLEW_COMPLETE: s reaches zero. -/
def execSlewComplete (s : State) : Host.Outcome State Fault Refusal := (slewComplete s).done
/-- GATE_BOUNDARY. -/
def execGateBoundary (p : Nat) (s : State) : Host.Outcome State Fault Refusal := (gateBoundary p s).done
/-- GATE_LIST_SWITCH. -/
def execGateListSwitch (p : Nat) (s : State) : Host.Outcome State Fault Refusal := (gateListSwitch p s).done
/-- PULSE_EDGE. -/
def execPulseEdge (o : Nat) (s : State) : Host.Outcome State Fault Refusal := (pulseEdge o s).done
/-- PPS_IN_EDGE. -/
def execPpsInEdge (i : Nat) (s : State) : Host.Outcome State Fault Refusal := (ppsInEdge i s).done

end Sys2Proof.Machine
end

