-- ==== Sys2Proof/Machine/Sched.lean ====
section
/-!
DEFINITION. The scheduler: charged lengths, eligibility, deficit round robin, selection, shapers, the adaptive quantum, sampling, and the commands of class 0x09 (R368 to R395).
-/
namespace Sys2Proof.Machine

/-! ## Shapers (R380 to R382) -/

/-- A node with this shaper may be selected. -/
def Shaper.ok (h : Shaper) : Bool := !h.en || (h.rate != 0 && decide (0 < h.tokens))

/-- An enabled shaper without tokens (R393). -/
def Shaper.dry (h : Shaper) : Bool := h.en && decide (h.tokens ≤ 0)

/-- The refill interval of a rate, in ns (R381). -/
def shaperInterval (rate : Nat) : Nat :=
  if 100000000 ≤ rate then 64 else if 10000000 ≤ rate then 125 else if 1000000 ≤ rate then 250
  else if 100000 ≤ rate then 500 else 1000

/-- Take a charged length. -/
def Shaper.take (h : Shaper) (n : Nat) : Shaper := if h.en then { h with tokens := h.tokens - (n * 16777216 : Nat) } else h

/-- What a rate adds in an interval, bytes times 2^24. -/
def shaperGain (rate ns : Nat) : Nat := rate * ns * 16777216 / 8000000

/-- A refill: a changed rate and burst come into force at it. -/
def Shaper.refill (h : Shaper) : Shaper :=
  if !h.en then h
  else
    let (rate, burst) := h.next.getD (h.rate, h.burst)
    let cap : Int := (burst * 16777216 : Nat)
    { h with
      rate := rate, burst := burst, next := none, interval := shaperInterval rate
      tokens := min cap (min cap h.tokens + (shaperGain rate h.interval : Nat)) }

/-- A shaper as a SET command asks: enabled afresh it starts at its burst; changed, it changes at its next refill. -/
def Shaper.set (h : Shaper) (en : Bool) (rate burst : Nat) : Shaper :=
  if !en then {}
  else if !h.en then { en := true, rate := rate, burst := burst, tokens := (burst * 16777216 : Nat), interval := shaperInterval rate }
  else if rate = h.rate ∧ burst = h.burst then { h with next := none }
  else { h with next := some (rate, burst) }

/-- Tokens in whole bytes. -/
def Shaper.words (h : Shaper) : Word := wdi (h.tokens / 16777216)

/-! ## Charged length (R370) -/

/-- Cipher growth of a queued copy. -/
def State.growth (s : State) (e : QEnt) : Nat :=
  if e.copy.intent = 0 then 0
  else
    match s.binding e.copy.binding with
    | none => 0
    | some b =>
      match s.sa b.sa with
      | none => 0
      | some r => { e.copy with bytes := e.copy.cut (s.entBytes e) }.growthBy r.includeSci b.udp

/-- Charged length of a queued copy at a port node. -/
def State.charged (s : State) (p : Nat) (e : QEnt) : Nat := max 1 ((e.len + s.growth e : Nat) + (s.node p).adjust).toNat

/-! ## Host receive rings (R449, R450) -/

/-- Receive ring. -/
def State.rxRing (s : State) (r : Nat) : HRing := Tbl.lookD s.hst.rx r {}

/-- Change a receive ring. -/
def State.rxM (s : State) (r : Nat) (f : HRing → HRing) : State := s.hstM fun h => { h with rx := Tbl.upd h.rx r {} f }

/-- Free descriptors. -/
def HRing.freeDescs (r : HRing) : Nat := (r.host + 65536 - r.engine) % 65536 - r.reserved

/-- Bytes delivered to the host of a queued copy. -/
def State.rxBytes (s : State) (e : QEnt) : Bytes := e.copy.kept (s.entBytes e)

/-- Descriptors a queued copy takes in a ring. -/
def State.rxNeed (s : State) (r : HRing) (e : QEnt) : Nat := max 1 (ceilDiv (s.rxBytes e).length r.bufSize)

/-- The receive ring of a flow queue. -/
def State.queueRing (s : State) (q : Nat) : Nat := (s.fq q).group % 16

/-- What a receive ring does with a head frame. -/
inductive RxFit
  /-- It takes it, in this many descriptors. -/
  | take (n : Nat)
  /-- It discards it, counted at this place of HRING_STATUS (R450). -/
  | drop (count : Nat)
  /-- The frame waits. -/
  | wait
deriving DecidableEq, Repr

/-- What the ring of a queue does with its head frame. While Bus Master Enable is clear it waits as if no descriptor were posted (R44). -/
def State.rxFit (s : State) (q : Nat) (e : QEnt) : RxFit :=
  let r := s.rxRing (s.queueRing q)
  let n := s.rxNeed r e
  if r.size = 0 then .drop 4
  else if r.stalled then .drop 3
  else if r.size < n then .drop 2
  else if !s.hif.bme then .wait
  else if r.waiter.isSome && r.waiter != some q then .wait
  else if n ≤ r.freeDescs then .take n
  else .wait

/-- Every ring without a waiter takes the lowest queue whose head it cannot hold now. -/
def State.setWaiters (s : State) : State :=
  (s.queuesOf 64).foldl (fun s q =>
    match (s.fq q).q with
    | [] => s
    | e :: _ =>
      let k := s.queueRing q
      if s.rxFit q e = .wait && (s.rxRing k).waiter.isNone then s.rxM k fun r => { r with waiter := some q } else s) s

/-! ## Eligibility (R372, R373, R467) -/

/-- Frames selected for an SA and not yet numbered. -/
def State.reservedFor (s : State) (i : Nat) : Nat :=
  (s.cip.egress.flatMap (·.2)).filter (fun x => x.copy.intent != 0 && ((s.binding x.copy.binding).map (·.sa)) == some i) |>.length

/-- An outbound SA may take another number before the partner acknowledges more. -/
def State.withinLead (s : State) (i : Nat) (r : SaRes) : Bool :=
  match r.ctx with
  | some a => s.mode.mode != .twinActive || decide (a.pn + s.reservedFor i < Tbl.lookD s.twin.m i 0 + 2 * s.stride)
  | none => true

/-- The SA a copy's binding resolves to. -/
def State.copySa (s : State) (c : Copy) : Option (Nat × SaRes) :=
  if c.intent = 0 then none
  else
    match s.binding c.binding with
    | some b => if b.valid then (s.sa b.sa).map fun r => (b.sa, r) else none
    | none => none

/-- The SA of a copy awaits its fetch. -/
def State.awaitsSa (s : State) (c : Copy) : Bool :=
  match s.copySa c with
  | some (_, r) => r.ctx.isNone && !r.lost
  | none => false

/-- The mirror holds the SA of a copy. -/
def State.saHeld (s : State) (c : Copy) : Bool :=
  match s.copySa c with
  | some (i, r) => !s.withinLead i r
  | none => false

/-- A head frame its port could take, as far as its SA and its receive ring go. -/
def State.headOk (s : State) (p q : Nat) (e : QEnt) : Bool :=
  !s.awaitsSa e.copy && !s.saHeld e.copy && (p != 64 || s.rxFit q e != .wait)
    && (p != 66 || decide (ceilDiv (s.entBytes e).length 256 ≤ s.twin.credits))

/-- A flow queue is eligible at its port. -/
def State.queueOk (s : State) (p q : Nat) : Bool :=
  let f := s.fq q
  match f.q with
  | [] => false
  | e :: _ => f.en && f.shaper.ok && s.headOk p q e

/-! ## Deficit round robin (R374) -/

/-- An eligible member of a level. -/
structure Member where
  /-- Its number. -/
  id : Nat
  /-- Its quantum in the round that runs. -/
  quantum : Nat
  /-- Its quantum in the next round. -/
  nextQuantum : Nat
  /-- Charged length of its candidate frame. -/
  len : Nat
  /-- Its deficit. -/
  deficit : Nat
deriving DecidableEq, Repr

/-- What a level chose. -/
structure Pick where
  /-- The member. -/
  id : Nat
  /-- Pointer and visit flag. -/
  drr : Drr
  /-- A round began. -/
  wrapped : Bool
  /-- Deficits of the eligible members. -/
  deficits : Tbl Nat
deriving DecidableEq, Repr

/-- The loop of R374, `n` visits at most: members by rising number, none of them missing. -/
def drrLoop : Nat → List Member → Drr → Bool → Option Pick
  | 0, _, _, _ => none
  | n + 1, ms, d, w =>
    let (m?, w') := match ms.find? fun m => decide (d.ptr ≤ m.id) with
      | some m => (some m, w)
      | none => (ms.head?, true)
    match m? with
    | none => none
    | some m =>
      let v := d.visit && m.id == d.ptr
      let have_ := if v then m.deficit else m.deficit + (if w' then m.nextQuantum else m.quantum)
      if m.len ≤ have_ then
        some { id := m.id, drr := { ptr := m.id, visit := true }, wrapped := w'
               deficits := ms.map fun x => (x.id, if x.id = m.id then have_ - m.len else x.deficit) }
      else
        drrLoop n (ms.map fun x => if x.id = m.id then { x with deficit := have_ } else x) { ptr := m.id + 1, visit := false } w'

/-- One choice of a level. Quanta of at least 64 bytes cover the longest frame in 258 visits. -/
def drrPick (ms : List Member) (d : Drr) : Option Pick := drrLoop (260 * ms.length + 1) ms d false

/-! ## Candidates -/

/-- The candidate frame of a group: its queue-level choice. -/
structure GroupCand where
  /-- The group. -/
  grp : Nat
  /-- The choice. -/
  pick : Pick
  /-- The head frame of the queue chosen. -/
  ent : QEnt
  /-- Its charged length. -/
  len : Nat
deriving DecidableEq, Repr

/-- Enabled queues of a group. -/
def State.groupQueues (s : State) (g : Nat) : List Nat := Tbl.keys (s.sched.queues.filter fun e => e.2.en && e.2.group == g)

/-- Enabled groups of a class of a port node. -/
def State.classGroups (s : State) (p c : Nat) : List Nat :=
  Tbl.keys (s.sched.groups.filter fun e => e.2.en && e.2.port == p && e.2.cls == c)

/-- A queue's head frame. -/
def State.headOf (s : State) (q : Nat) : Option QEnt := (s.fq q).q.head?

/-- Charged length of a queue's head frame. -/
def State.headLen (s : State) (p q : Nat) : Nat :=
  match s.headOf q with
  | some e => s.charged p e
  | none => 0

/-- The candidate of a group. -/
def State.groupCand (s : State) (p g : Nat) : Option GroupCand :=
  let x := s.sgrp g
  let ms := ((s.groupQueues g).filter fun q => s.queueOk p q).map fun q =>
    let f := s.fq q
    ({ id := q, quantum := f.quantum * x.k, nextQuantum := f.quantum * x.kNext, len := s.headLen p q, deficit := f.deficit } : Member)
  if !x.shaper.ok then none
  else
    match drrPick ms x.drr with
    | none => none
    | some k => (s.headOf k.id).map fun e => { grp := g, pick := k, ent := e, len := s.charged p e }

/-- The candidate frame of a class: its group-level choice, and that group's candidate. -/
structure ClassCand where
  /-- The class. -/
  cls : Nat
  /-- The choice among the groups. -/
  pick : Pick
  /-- The group's candidate. -/
  cand : GroupCand
deriving DecidableEq, Repr

/-- The candidate of a class. -/
def State.classCand (s : State) (p c : Nat) : Option ClassCand :=
  let gs := (s.classGroups p c).filterMap fun g => s.groupCand p g
  let ms := gs.map fun x =>
    let g := s.sgrp x.grp
    ({ id := x.grp, quantum := g.quantum, nextQuantum := g.quantum, len := x.len, deficit := g.deficit } : Member)
  match drrPick ms (nth (s.node p).clsDrr c {}) with
  | none => none
  | some k => (gs.find? fun x => x.grp == k.id).map fun x => { cls := c, pick := k, cand := x }

/-! ## Plans and gates (R413, R414) -/

/-- Rate of a MAC port in Mb/s. -/
def State.portMbps (s : State) (p : Nat) : Nat :=
  match s.portRate p with
  | some r => rateMbps r
  | none => 0

/-- Time of a number of bytes on a port, ns times 2^16. -/
def wireTime (mbps bytes : Nat) : Nat := ceilDiv (bytes * 524288000) mbps

/-- Planned start of a frame selected now. -/
def State.planOf (s : State) (p : Nat) (e : QEnt) : Nat :=
  max (s.time.line.t + 4194304 + ceilDiv (e.len * 65536) 100) ((s.mport p).lastEnd + wireTime (s.portMbps p) 12)

/-- Time a frame occupies its port. -/
def State.frameTime (s : State) (p : Nat) (e : QEnt) : Nat := wireTime (s.portMbps p) (e.len + s.growth e + 8)

/-- The gate of a class is open for its candidate at the plan and until it ends. -/
def State.gateFits (s : State) (p c : Nat) (e : QEnt) : Bool :=
  p ≥ 64 || !(s.gate p).listed || (s.gate p).schedOpen c (s.planOf p e) (s.planOf p e + s.frameTime p e)

/-- A class is paused by PFC. -/
def State.pfcPaused (s : State) (p c : Nat) : Bool := decide (p < 64) && nth (s.mport p).pfc c 0 != 0

/-- A class is eligible with its candidate. -/
def State.classOk (s : State) (p : Nat) (x : ClassCand) : Bool := !s.pfcPaused p x.cls && s.gateFits p x.cls x.cand.ent

/-- Charged bytes selected for a MAC port and not started. -/
def State.unstarted (s : State) (p : Nat) : List Nat :=
  ((Tbl.lookD s.cip.egress (p / 8) []).filter fun x => x.port == p).map (·.charged) ++ (s.mport p).tx.map (·.charged)

/-- A port node is ready for a selection (R377); at most 256 frames of a group wait for their numbers (R467). -/
def State.nodeReady (s : State) (p : Nat) : Bool :=
  if p < 64 then
    ((s.unstarted p).isEmpty || decide (sumL (s.unstarted p) * 100 < s.portMbps p))
      && decide ((Tbl.lookD s.cip.egress (p / 8) []).length < 256)
  else true

/-- A port node may be selected from. -/
def State.nodeOk (s : State) (p : Nat) : Bool :=
  s.egress p == .enabled && (decide (64 ≤ p) || (s.mport p).pause == 0) && (s.node p).shaper.ok && s.nodeReady p

/-- The class a port node serves: strict priority first, then DRR among the others. -/
def State.pickClass (s : State) (p : Nat) (cs : List ClassCand) : Option (ClassCand × Option Pick) :=
  let n := s.node p
  match (cs.filter fun x => nbit n.spMask x.cls).getLast? with
  | some x => some (x, none)
  | none =>
    let ms := cs.map fun x =>
      let q := nth n.quanta x.cls 0
      ({ id := x.cls, quantum := q, nextQuantum := q, len := x.cand.len, deficit := nth n.deficits x.cls 0 } : Member)
    match drrPick ms n.drr with
    | none => none
    | some k => (cs.find? fun x => x.cls == k.id).map fun x => (x, some k)

/-! ## Sampling (R383, R384) -/

/-- A running mean. -/
def meanStep (first : Bool) (m v : Nat) : Nat := if first then v else ((m : Int) + ((v : Int) - m) / 16).toNat

/-- Running values with one more sample. -/
def QStats.add (x : QStats) (d j : Nat) : QStats :=
  let f := x.n == 0
  { n := sat32 x.n
    dMin := if f then d else min x.dMin d, dMax := max x.dMax d, dMean := meanStep f x.dMean d
    sMin := if f then j else min x.sMin j, sMax := max x.sMax j, sMean := meanStep f x.sMean j }

/-- Write a sample record, or skip it. -/
def State.sampleRing (s : State) (p c q depth pkts soj : Nat) : State :=
  let k := s.sched
  let free := match k.ringClock with
    | none => true
    | some x => decide (x + 16 ≤ s.time.core)
  if k.ringEn && free && s.ddrReady then
    let t := s.ns
    let r := leBytes 8 k.ringSeq ++ leBytes 4 (t / 1000000000) ++ leBytes 4 (t % 1000000000) ++ leBytes 2 q
      ++ [by8 (p % 128), by8 c] ++ leBytes 4 (min depth 4294967295) ++ leBytes 4 (min pkts 65535) ++ leBytes 4 (min soj 4294967295)
    (s.ddrStore (k.ringBase + 32 * (k.ringSeq % 2 ^ k.ringLog2)) r).schedM fun k =>
      { k with ringSeq := (k.ringSeq + 1) % 18446744073709551616, ringClock := some s.time.core }
  else s.schedM fun k => { k with skipped := sat32 k.skipped }

/-- At every sample_n-th selection from a queue that samples, before the frame leaves it. -/
def State.sample (s : State) (p c q : Nat) (e : QEnt) : State :=
  let f := s.fq q
  if !f.sampleEn then s
  else if f.sampleCnt + 1 < f.sampleN then s.fqM q fun f => { f with sampleCnt := f.sampleCnt + 1 }
  else
    let depth := sumL (f.q.map fun x => s.charged p x)
    let soj := (s.time.record.t - e.at_) / 65536
    let s := s.fqM q fun f => { f with sampleCnt := 0, stats := f.stats.add depth soj }
    if f.toRing then s.sampleRing p c q depth f.q.length soj else s

/-! ## Selection -/

/-- Store the deficits a level's choice left. -/
def Pick.put {α : Type} (k : Pick) (t : Tbl α) (f : Nat → α → α) : Tbl α :=
  t.mapV fun i x => match Tbl.look k.deficits i with
    | some d => f d x
    | none => x

/-- A mean frame length after one more frame, bytes times 2^16 (R379). -/
def meanFrame (m n : Nat) : Nat := ((m : Int) + ((n * 65536 : Nat) - (m : Int)) / 64).toNat

/-- Deficits of members that have become empty go to zero. -/
def State.emptyDeficits (s : State) (p c g q : Nat) : State :=
  let s := if (s.fq q).q.isEmpty then s.fqM q fun f => { f with deficit := 0 } else s
  let s := if (s.groupQueues g).all fun q => (s.fq q).q.isEmpty then s.sgrpM g fun x => { x with deficit := 0 } else s
  if (s.classGroups p c).all fun g => (s.groupQueues g).all fun q => (s.fq q).q.isEmpty then
    s.nodeM p fun n => { n with deficits := updAt n.deficits c fun _ => 0 }
  else s

/-- Take a queue's head off; the frames that move up ask for their SAs (R373). -/
def State.popHead (s : State) (q : Nat) : State :=
  let s := s.fqM q fun f => { f with q := f.q.drop 1 }
  ((s.fq q).q.take 2).foldl (fun s e => if e.copy.intent = 0 then s else s.askFetch e.copy.binding) s

/-- The levels of a path after a choice: pointers, deficits, tokens and counts. -/
def State.chargePath (s : State) (p : Nat) (x : ClassCand) (top : Option Pick) : State :=
  let g := x.cand.grp
  let q := x.cand.pick.id
  let n := x.cand.len
  let s := s.nodeM p fun d => { d with
    drr := match top with
      | some k => k.drr
      | none => d.drr
    deficits := match top with
      | some k => (List.range 8).map fun c => (Tbl.look k.deficits c).getD (nth d.deficits c 0)
      | none => d.deficits
    clsDrr := updAt d.clsDrr x.cls fun _ => x.pick.drr
    shaper := d.shaper.take n, selections := sat32 d.selections }
  let s := s.schedM fun k => { k with
    groups := x.pick.put k.groups fun d y => { y with deficit := d }
    queues := x.cand.pick.put k.queues fun d y => { y with deficit := d } }
  let s := s.sgrpM g fun y => { y with
    drr := x.cand.pick.drr, shaper := y.shaper.take n
    k := if x.cand.pick.wrapped then y.kNext else y.k
    mean := if y.adaptive then meanFrame y.mean n else y.mean }
  (s.fqM q fun y => { y with shaper := y.shaper.take n, frames := sat32 y.frames, bytes := wrapAdd 64 y.bytes x.cand.ent.len }).perfSched 0x10 1

/-! ## PTP at transmission (R400) -/

/-- The PTP event message in a frame: its offset, and the offset of its UDP header with the IP header's and IPv6, when it has them. -/
def ptpEvent (b : Bytes) : Option (Nat × Option (Nat × Nat × Bool)) :=
  let e := etherOff b
  let o := outerOf b
  let ok (i : Nat) : Bool := decide (i + 34 ≤ b.length) && decide (ptpType (b.drop i) ≤ 3)
  if beAt b e 2 = 0x88F7 then guardO (ok (e + 2)) (e + 2, none)
  else if o.proto = 17 ∧ beAt b (o.l4 + 2) 2 = 319 then guardO (ok (o.l4 + 8)) (o.l4 + 8, some (o.l4, o.ip, o.v6))
  else none

/-- A frame's PTP event message is sent one-step on a port. -/
def State.oneStep (s : State) (p : Nat) (b : Bytes) : Bool :=
  let q := s.ptpPort p
  match ptpEvent b with
  | some (i, _) =>
    let m := b.drop i
    q.desig && q.oneStep && !ptpTwoStep m && (ptpType m == 0 || ptpType m == 3)
  | none => false

/-- The instant a stamp of a transmission gives: the start at the MDI (R399). -/
def State.txStamp (s : State) (p start : Nat) : Nat :=
  stampAt ((start + Config.macLatency (s.layout (p / 8)).toNat ((s.portRate p).getD 0) 1 : Nat) + psUnits (s.ptpPort p).outAdj)

/-- The bytes of a one-step message with its time in it. -/
def ptpInsert (b : Bytes) (i : Nat) (udp : Option (Nat × Nat × Bool)) (t : Nat) : Bytes :=
  let m := b.drop i
  let add (x : Int) : Bytes := beBytes 8 ((ptpCorr m + x) % 18446744073709551616).toNat
  let b := if ptpType m = 0 then
      bytesSet (bytesSet b (i + 8) (add (t % 65536 : Nat))) (i + 34)
        (beBytes 6 (t / 65536 / 1000000000) ++ beBytes 4 (t / 65536 % 1000000000))
    else bytesSet b (i + 8) (add t)
  match udp with
  | some (u, ip, v6) => udpSum b ip v6 u
  | none => b

/-- ONE_STEP_TOO_LONG of a message: in the domain whose domainNumber and majorSdoId it carries, in both where neither has them (R400, R423). DESIGN CHOICE: the spec names no domain for the count, and a master port is no domain's slave port. -/
def State.tooLong (s : State) (m : Bytes) : State :=
  let mine := [0, 1].filter fun d => (s.dom d).en && (s.dom d).number == ptpDomain m && (s.dom d).sdo == ptpSdo m
  (if mine.isEmpty then [0, 1] else mine).foldl (fun s d => s.domM d fun x => { x with counts := updAt x.counts 4 sat32 }) s

/-- A selected frame of a MAC port as it goes to the egress cipher unit: a one-step message of at most 512 bytes carries its time. -/
def State.macSel (s : State) (p q : Nat) (e : QEnt) (charged : Nat) : State × Sel :=
  let b := e.copy.cut (s.entBytes e)
  let one := s.oneStep p b
  let short := decide (b.length + 4 ≤ 512)
  let plan := if one || (s.gate p).listed then some (s.planOf p e) else none
  let b := match ptpEvent b, plan with
    | some (i, u), some t => if one && short then ptpInsert b i u (s.txStamp p t) else b
    | _, _ => b
  let fin := s.planOf p e + s.frameTime p e
  let long := one && !short
  let s := s.mportM p fun m => { m with lastEnd := fin }
  let s := match long, ptpEvent b with
    | true, some (i, _) => s.tooLong (b.drop i)
    | _, _ => s
  (s, { port := p, copy := { e.copy with bytes := b }, queue := q, charged := charged, plan := plan, oneStep := one && short })

/-- Discard a queue's head frame: its entry and its reference go, and the deficits of members that have become empty (R374). -/
def State.discardHead (s : State) (q : Nat) (e : QEnt) : State :=
  let g := (s.fq q).group
  ((s.popHead q).readOut e).emptyDeficits (s.sgrp g).port (s.sgrp g).cls g q

/-- The 32-byte header and the frame of a HAIRPIN message (R475): the origin ports and the class in word 0, the length in word 1. -/
def hairpinBody (e : QEnt) (cls : Nat) (b : Bytes) : Bytes :=
  leBytes 4 (e.copy.pkt.port % 64 + 256 * (e.copy.pkt.origin % 16) + 65536 * cls) ++ leBytes 4 (65536 * b.length)
    ++ List.replicate 24 0#8 ++ b

/-- The lead of the SA that a frame has been selected for, pn + reserved - M, kept when it is the greatest yet (R467, R482). -/
def State.noteLead (s : State) (c : Copy) : State :=
  match s.copySa c with
  | some (i, r) =>
    match r.ctx with
    | some a =>
      if s.mode.mode == .twinActive then
        s.twinM fun t => { t with counts := updAt t.counts 4 (max (a.pn + s.reservedFor i - Tbl.lookD t.m i 0)) }
      else s
    | none => s
  | none => s

/-- Move the selected frame on: to the egress cipher unit, into its receive descriptors, or over Trellis. -/
def State.takeFrame (s : State) (p : Nat) (x : ClassCand) : State :=
  let e := x.cand.ent
  let q := x.cand.pick.id
  if p < 64 then
    let (s, y) := s.macSel p q e x.cand.len
    (((s.popHead q).readOut e).cipM fun k => { k with egress := Tbl.upd k.egress (p / 8) [] fun l => l ++ [y] }).noteLead e.copy
  else if p = 64 then
    let k := s.queueRing q
    match s.rxFit q e with
    | .take n =>
      ((s.popHead q).rxM k fun r => { r with reserved := r.reserved + n, waiter := if r.waiter = some q then none else r.waiter }).hstM
        fun h => { h with sel := h.sel ++ [{ ring := k, descs := n, ent := e, queue := q }] }
    | .drop c =>
      (s.discardHead q e).rxM k fun r => { r with
        counts := updAt r.counts c sat32
        stallDrops := if c = 3 then r.stallDrops + 1 else r.stallDrops
        waiter := if r.waiter = some q then none else r.waiter }
    | .wait => s
  else
    let b := e.copy.cut (s.entBytes e)
    let s := (s.discardHead q e).twinM fun t => { t with credits := t.credits - ceilDiv b.length 256 }
    (s.twinSend 3 0x50 (hairpinBody e x.cls b)).bwmAdd 66 (36 + b.length)

/-- Heads that no interval can ever hold are discarded first (R377, R414). -/
def State.dropOversize (s : State) (p : Nat) : Nat → List Nat → State
  | 0, _ => s
  | _, [] => s
  | n + 1, q :: qs =>
    match s.headOf q with
    | none => s.dropOversize p n qs
    | some e =>
      if (s.gate p).oversize (s.sgrp (s.fq q).group).cls (s.frameTime p e) then
        (((s.discardHead q e).nodeM p fun d => { d with oversize := sat32 d.oversize }).perfSched 0x11 1).dropOversize p n (q :: qs)
      else s.dropOversize p n qs

/-- The heads the gates of a port can never hold, gone. -/
def State.purge (s : State) (p : Nat) : State :=
  if p < 64 ∧ (s.gate p).listed then
    let qs := s.queuesOf p
    s.dropOversize p (qs.length + sumL (qs.map fun q => (s.fq q).q.length)) qs
  else s

/-- A port node as its selection finds it: dead references dropped, waiters set at node 64, and a hold for an SA counted. -/
def State.selectable (s : State) (p : Nat) : State :=
  let s := s.purge p
  let s := if p = 64 then s.setWaiters else s
  let held := (s.queuesOf p).any fun q => match s.headOf q with
    | some e => s.saHeld e.copy
    | none => false
  if held then s.twinM fun t => { t with counts := updAt t.counts 3 sat32 } else s

/-- The candidates of the classes of a selection. -/
def State.selectCands (s : State) (p : Nat) : List ClassCand :=
  (List.range 8).filterMap fun c => (s.selectable p).classCand p c

/-- The state the classes are picked from: every candidate that only its gate holds back is counted. -/
def State.selectCount (s : State) (p : Nat) : State :=
  let t := s.selectable p
  let late := ((s.selectCands p).filter fun x => !t.pfcPaused p x.cls && !t.gateFits p x.cls x.cand.ent).length
  if late = 0 then t else t.nodeM p fun d => { d with deferred := satAdd 32 d.deferred late }

/-- Domains a selection at a port node reads from and writes to besides SCHED: its column and its port group. -/
def pathDoms (p : Nat) : List Nat := (18 + portCol p) :: (if p < 64 then [2 + p / 8] else [])

/-- They are in RUN; a selection that finds one asleep wakes it first. DEDUCED: no domain works outside RUN (R498). -/
def State.pathAwake (s : State) (p : Nat) : Bool := (pathDoms p).all fun d => nth s.pwr.doms d .run == .run

/-- A selection at a port node would choose a frame. -/
def State.selects (s : State) (p : Nat) : Bool :=
  s.egress p == .enabled && s.pathAwake p && (s.selectable p).nodeOk p
    && ((s.selectCount p).pickClass p ((s.selectCands p).filter fun x => (s.selectCount p).classOk p x)).isSome

/-- It is a port node's turn: the ready MAC ports of a group take turns in round-robin order (R376). -/
def State.itsTurn (s : State) (p : Nat) : Bool :=
  decide (64 ≤ p)
    || ((List.range 8).map fun i => p / 8 * 8 + (nth s.sched.rr (p / 8) 0 + i) % 8).find? (fun x => x == p || s.selects x) == some p

/-- One selection at a port node; at a MAC port whose turn it is not, another port of the group takes the selection. -/
def selection (p : Nat) (s : State) : State :=
  if nth s.pwr.doms 30 .run != .run ∨ p = 65 ∨ 66 < p ∨ s.egress p != .enabled ∨ !s.itsTurn p then s
  else if !s.pathAwake p then (pathDoms p).foldl (fun s d => s.wakeDom d) s
  else if !(s.selectable p).nodeOk p then s.selectable p
  else
    let t := s.selectCount p
    match t.pickClass p ((s.selectCands p).filter fun x => t.classOk p x) with
    | none => t
    | some (x, top) =>
      let q := x.cand.pick.id
      let t := (t.sample p x.cls q x.cand.ent).chargePath p x top
      let t := if p < 64 then t.schedM fun k => { k with rr := updAt k.rr (p / 8) fun _ => (p + 1) % 8 } else t
      (t.takeFrame p x).emptyDeficits p x.cls x.cand.grp q

/-! ## Refills and the adaptive quantum (R379, R380) -/

/-- SHAPER_REFILL: of a queue (kind 0), a group (1) or a port node (2). -/
def shaperRefill (kind n : Nat) (s : State) : State :=
  if nth s.pwr.doms 30 .run != .run then s
  else if kind = 0 then (if Tbl.has s.sched.queues n then s.fqM n fun f => { f with shaper := f.shaper.refill } else s)
  else if kind = 1 then (if Tbl.has s.sched.groups n then s.sgrpM n fun g => { g with shaper := g.shaper.refill } else s)
  else if Tbl.has s.sched.nodes n then s.nodeM n fun d => { d with shaper := d.shaper.refill }
  else s

/-- R_g in kb/s. -/
def State.groupRate (s : State) (g : SGroup) : Nat :=
  let n := s.node g.port
  if g.shaper.en ∧ g.shaper.rate ≠ 0 then g.shaper.rate
  else if n.shaper.en ∧ n.shaper.rate ≠ 0 then n.shaper.rate
  else if g.port < 64 then 1000 * s.portMbps g.port
  else if g.port = 64 then 252000000
  else 400000000

/-- Configured quanta of the backlogged members of a group. -/
def State.backlog (s : State) (g : Nat) : List Nat :=
  ((s.groupQueues g).filter fun q => !(s.fq q).q.isEmpty).map fun q => (s.fq q).quantum

/-- ADAPTIVE_QUANTUM. -/
def adaptiveQuantum (g : Nat) (s : State) : State :=
  let x := s.sgrp g
  let qs := s.backlog g
  if !x.en || !x.adaptive || qs.isEmpty then s
  else
    let lo := qs.foldl min 65535
    let hi := qs.foldl max 0
    let need := ceilDiv x.mean (lo * 65536)
    let room := x.bound * s.groupRate x / (8000000 * sumL qs)
    let k := max 1 (min need (min room (16777215 / hi)))
    s.sgrpM g fun y => { y with kNext := k, miss := if room < 1 then sat32 y.miss else y.miss }

/-! ## Configuration (R387 to R392) -/

/-- Checks of a rate and a burst in words i and i + 1: zero-valued fields, then ranges. -/
def shaperZero (c : Packet) (en : Bool) (i : Nat) : List (Bool × Status × Nat) := [(!en || c.n (i + 1) != 0, .badZero, fieldOff (i + 1) 0)]

/-- Ranges of a rate and a burst. -/
def shaperRange (c : Packet) (en : Bool) (i : Nat) : List (Bool × Status × Nat) :=
  if en then [fieldIs i 0 (c.n i == 0 || (decide (8 ≤ c.n i) && decide (c.n i ≤ 800000000))), within c (i + 1) 31 0 64 16777216]
  else [fieldIs i 0 (c.n i == 0), fieldIs (i + 1) 0 (c.n (i + 1) == 0)]

/-- SCHED_PORT_SET (R389). -/
def schedPortSet (c : Packet) (s : State) : Res :=
  let p := c.obj
  let en := (c.w 0).bit 8
  let half (k : Nat) : Nat × Nat × Nat := (1 + k / 2, 16 * (k % 2) + 15, 16 * (k % 2))
  let qz := (List.range 8).map fun k => nonZero c (half k).1 (half k).2.1 (half k).2.2
  let qr := (List.range 8).map fun k => within c (half k).1 (half k).2.1 (half k).2.2 64 65535
  checks ([(decide (p < 67) && p != 65, .notFound, 0), reserved c 0 0xFF01FF] ++ qz ++ shaperZero c en 5
      ++ [withinI c 0 23 16 (-32) 63] ++ qr ++ shaperRange c en 5)
    (.ok (s.nodeM p fun n => { n with
      spMask := (c.w 0).fld 7 0, adjust := sgn 8 ((c.w 0).fld 23 16)
      quanta := (List.range 8).map fun k => (c.w (half k).1).fld (half k).2.1 (half k).2.2
      shaper := n.shaper.set en (c.n 5) (c.n 6) }))

/-- SCHED_GROUP_SET (R390). -/
def schedGroupSet (c : Packet) (s : State) : Res :=
  let g := c.obj
  let w := c.w 0
  let x := s.sgrp g
  let used := (s.groupQueues g).length
  let port := w.fld 14 8
  let first := [objBelow c 4096, reserved c 0 0x77F07, reserved c 1 0xFFFF]
  if !w.bit 0 then
    checks (first ++ zeroFields c [(0, 1, 1), (0, 2, 2), (0, 14, 8), (0, 18, 16), (1, 15, 0), (2, 31, 0), (3, 31, 0), (4, 31, 0)]
        ++ [(!x.en || used == 0, .conflict, used)])
      (.ok (s.sgrpM g fun x => { x with en := false, shaper := {}, deficit := 0 }))
  else
    checks (first ++ [nonZero c 1 15 0] ++ shaperZero c (w.bit 1) 2 ++ [(!w.bit 2 || c.n 4 != 0, .badZero, 32),
          fieldIs 0 8 (decide (port ≤ 66) && port != 65), within c 1 15 0 64 65535] ++ shaperRange c (w.bit 1) 2
        ++ [fieldIs 4 0 (if w.bit 2 then decide (100 ≤ c.n 4 ∧ c.n 4 ≤ 1000000) else c.n 4 == 0),
          (!(x.en && x.port != port) || used == 0, .conflict, used)])
      (let moved := !x.en || x.port != port || x.cls != w.fld 18 16
       .ok (s.sgrpM g fun x => { x with
        en := true, port := port, cls := w.fld 18 16, quantum := (c.w 1).fld 15 0
        shaper := x.shaper.set (w.bit 1) (c.n 2) (c.n 3)
        adaptive := w.bit 2, bound := c.n 4
        mean := if x.en then x.mean else 67108864
        k := if x.en && w.bit 2 then x.k else 1
        kNext := if x.en && w.bit 2 then x.kNext else 1
        deficit := if moved then 0 else x.deficit }))

/-- Copies that have chosen a queue and wait for their write. -/
def State.aimedAt (s : State) (q : Nat) : Bool :=
  (s.ing.sources.any fun z => z.window.any fun e => match e with
      | .ready _ cs => cs.any fun c => c.port != 65 && c.queue == q
      | _ => false)
    || s.core.xps.any fun e => e.2.residue.any fun r => r.copy.port != 65 && r.copy.queue == q

/-- Nothing keeps a queue where it is (R387): the detail when something does. -/
def State.queueHeld (s : State) (q : Nat) : Option Nat :=
  let refs := Tbl.lookD s.sched.refs q 0
  let n := (s.fq q).q.length
  let death := Tbl.look s.sched.refDeath q
  if refs ≠ 0 then some refs
  else if n ≠ 0 ∨ s.aimedAt q then some (0xFFFF0000 + min n 65535)
  else
    match death with
    | some d => if d ≠ 0 ∧ before s.oldest d then some 0xFFFF0000 else none
    | none => none

/-- SCHED_QUEUE_SET (R391). -/
def schedQueueSet (c : Packet) (s : State) : Res :=
  let q := c.obj
  let w := c.w 0
  let f := s.fq q
  let g := w.fld 27 16
  let held := s.queueHeld q
  let first := [objBelow c 65536, reserved c 0 0x0FFF000F]
  if !w.bit 0 then
    checks (first ++ zeroFields c [(0, 1, 1), (0, 2, 2), (0, 3, 3), (0, 27, 16), (1, 15, 0), (1, 31, 16), (2, 31, 0), (3, 31, 0)]
        ++ [(!f.en || held.isNone, .conflict, held.getD 0)])
      (.ok (s.fqM q fun f => { f with en := false, shaper := {}, sampleEn := false, toRing := false, deficit := 0 }))
  else
    let away := f.en && (s.sgrp f.group).port != (s.sgrp g).port
    checks (first ++ [nonZero c 1 15 0] ++ shaperZero c (w.bit 1) 2 ++ [(!w.bit 2 || (c.w 1).fld 31 16 != 0, .badZero, 22),
          fieldIs 0 3 (!w.bit 3 || w.bit 2), within c 1 15 0 64 65535, fieldIs 1 16 (w.bit 2 || (c.w 1).fld 31 16 == 0)]
        ++ shaperRange c (w.bit 1) 2
        ++ [((s.sgrp g).en, .conflict, 1), (!away || held.isNone, .conflict, held.getD 0), (!w.bit 3 || s.sched.ringEn, .conflict, 2)])
      (.ok (s.fqM q fun f => { f with
        en := true, group := g, quantum := (c.w 1).fld 15 0
        shaper := f.shaper.set (w.bit 1) (c.n 2) (c.n 3)
        sampleEn := w.bit 2, toRing := w.bit 3, sampleN := (c.w 1).fld 31 16
        deficit := if f.en && f.group == g then f.deficit else 0 }))

/-! ## Status (R393 to R395) -/

/-- SCHED_QUEUE_STATUS. -/
def schedQueueStatus (c : Packet) (s : State) : Res :=
  let q := c.obj
  let f := s.fq q
  let g := s.sgrp f.group
  let p := g.port
  let head := s.headOf q
  let of (b : QEnt → Bool) : Bool := match head with
    | some e => b e
    | none => false
  let flags := if !f.en then 0 else
    1 + 2 * b2n (s.queueOk p q) + 4 * b2n (f.shaper.en && f.shaper.rate == 0) + 8 * b2n (of fun e => s.awaitsSa e.copy)
      + 16 * b2n (s.pfcPaused p g.cls || (decide (p < 64) && (s.mport p).pause != 0)) + 32 * b2n (of fun e => !s.gateFits p g.cls e) + 64 * b2n (s.egress p != .enabled)
      + 128 * b2n (f.shaper.dry || g.shaper.dry || (s.node p).shaper.dry) + 65536 * f.group
  checks [objBelow c 65536]
    (.data [wd flags, wd (min f.q.length 65535), wd (sumL (f.q.map (·.len))), wd (f.deficit % 16777216), f.shaper.words,
      wd (Tbl.lookD s.sched.refs q 0 + 65536 * Tbl.lookD s.sched.refDeath q 0), wd f.frames, wd f.bytes] s)

/-- SCHED_QUEUE_STATS. -/
def schedQueueStats (c : Packet) (s : State) : Res :=
  let x := (s.fq c.obj).stats
  checks [objBelow c 65536]
    (.data [wd x.n, wd x.dMin, wd x.dMax, wd x.dMean, wd x.sMin, wd x.sMax, wd x.sMean, wd (b2n (x.n != 0))]
      (if Tbl.has s.sched.queues c.obj then s.fqM c.obj fun f => { f with stats := {} } else s))

/-- SCHED_GROUP_STATUS. -/
def schedGroupStatus (c : Packet) (s : State) : Res :=
  let x := s.sgrp c.obj
  let time := if !x.en then 0 else x.k * sumL (s.backlog c.obj) * 8000000 / s.groupRate x
  checks [objBelow c 4096]
    (.data [wd (b2n x.en + 2 * b2n x.adaptive + 256 * x.port + 65536 * x.cls), wd (s.groupQueues c.obj).length, wd (x.mean / 65536),
      wd x.k, wd time, wd x.miss, x.shaper.words, wd (x.deficit % 16777216)] s)

/-- Bytes queued in a class of a port node. -/
def State.classBytes (s : State) (p c : Nat) : Nat :=
  sumL ((s.classGroups p c).flatMap fun g => (s.groupQueues g).flatMap fun q => (s.fq q).q.map (·.len))

/-- SCHED_PORT_STATUS. -/
def schedPortStatus (c : Packet) (s : State) : Res :=
  let p := c.obj
  let n := s.node p
  let elig := sumL ((List.range 8).map fun k => match s.classCand p k with
    | some x => if s.classOk p x then 2 ^ k else 0
    | none => 0)
  let paused := sumL ((List.range 8).map fun k => if s.pfcPaused p k then 2 ^ k else 0)
  let bytes := if p = 65 then [sumL (s.sched.recirc0.map (·.len)), sumL (s.sched.recirc1.map (·.len)), 0, 0, 0, 0, 0, 0]
    else (List.range 8).map fun k => s.classBytes p k
  checks [objBelow c 67]
    (.data ([wd (elig + 256 * paused + 65536 * b2n (decide (p < 64) && (s.mport p).pause != 0) + 131072 * b2n (s.nodeReady p)),
        n.shaper.words] ++ bytes.map wd ++ [wd n.selections, wd n.oversize]) s)

/-- SCHED_STATUS. -/
def schedStatus (c : Packet) (s : State) : Res :=
  let free (k : Nat) : Nat := if k < 11 then 49152 - (s.col k).qents else 0
  checks [objZero c]
    (.data ((List.range 6).map (fun k => wd (free (2 * k) + 65536 * free (2 * k + 1)))
      ++ [wd s.sched.qWaits, wd s.sched.misqueued] ++ w64 s.sched.ringSeq
      ++ [wd s.sched.skipped, wd (b2n s.sched.ringEn + 256 * s.sched.ringLog2)]) s)

/-- SCHED_SAMPLE_RING_SET (R394). -/
def schedSampleRingSet (c : Packet) (s : State) : Res :=
  let en := (c.w 0).bit 0
  let lg := (c.w 0).fld 12 8
  let base := c.n 1 + 4294967296 * c.n 2
  let users := (s.sched.queues.filter fun e => e.2.en && e.2.toRing).length
  if !en then
    checks ([objZero c, reserved c 0 0x1F01] ++ zeroFields c [(0, 12, 8), (1, 31, 0), (2, 31, 0)] ++ [(users == 0, .conflict, users)])
      (.ok (s.schedM fun k => { k with ringEn := false, ringLog2 := 0, ringBase := 0 }))
  else
    checks [objZero c, reserved c 0 0x1F01, within c 0 12 8 10 24, fieldIs 1 0 (base % 4096 == 0), (!s.sched.ringEn, .busy, 0),
        (s.ddrReady && decide (base + 32 * 2 ^ lg ≤ s.ddr.capacity), .noResource, 0),
        (!s.overlaps 1 base (32 * 2 ^ lg), .conflict, 1)]
      (.ok (s.schedM fun k => { k with ringEn := true, ringLog2 := lg, ringBase := base, ringSeq := 0, ringClock := none }))

/-- First sequence and number of the sample records a read from `want` of at most n answers with. -/
def State.sampleRange (s : State) (want n : Nat) : Nat × Nat :=
  let start := max want (s.sched.ringSeq - 2 ^ s.sched.ringLog2)
  (start, min n (s.sched.ringSeq - start))

/-- Address of sample record q. -/
def State.sampleAddr (s : State) (q : Nat) : Nat := s.sched.ringBase + 32 * (q % 2 ^ s.sched.ringLog2)

/-- The lines of those records read: the first uncorrectable one. -/
def State.sampleCheck (s : State) (want n : Nat) : Option Nat × State :=
  ((List.range (s.sampleRange want n).2).map ((s.sampleRange want n).1 + ·)).foldl (fun (a : Option Nat × State) q =>
    let (l, t) := a.2.ddrCheck (s.sampleAddr q) 32 0x20
    (if a.1.isNone then l else a.1, t)) (none, s)

/-- SCHED_SAMPLE_READ (R395). -/
def schedSampleRead (c : Packet) (s : State) : Res :=
  let want := c.n 0 + 4294967296 * c.n 1
  let n := (c.w 2).fld 7 0
  let (start, m) := s.sampleRange want n
  let lost := decide (want < s.sched.ringSeq - 2 ^ s.sched.ringLog2)
  checks [objZero c, reserved c 2 0xFF, nonZero c 2 7 0, within c 2 7 0 1 240, (s.sched.ringEn, .notFound, 0)]
    (match s.sampleCheck want n with
     | (some l, t) => .done .integrity (l % 4294967296) [] t
     | (none, t) =>
       .data (w64 start ++ [wd (m + 256 * b2n lost)]
         ++ ((List.range m).map (start + ·)).flatMap fun q => bytesWords (Mem.reads t.ddr.mem (s.sampleAddr q) 32)) t)

/-! ## Meanings -/

/-- SELECTION. -/
def execSelection (p : Nat) (s : State) : Host.Outcome State Fault Refusal := (selection p s).done
/-- SHAPER_REFILL. -/
def execShaperRefill (kind n : Nat) (s : State) : Host.Outcome State Fault Refusal := (shaperRefill kind n s).done
/-- ADAPTIVE_QUANTUM. -/
def execAdaptiveQuantum (g : Nat) (s : State) : Host.Outcome State Fault Refusal := (adaptiveQuantum g s).done

end Sys2Proof.Machine
end

