-- ==== Sys2Proof/Machine/Power.lean ====
section
/-!
DEFINITION. Power domains, wake and sleep, and slices in and out of service: the commands of class 0x0D and their events (R18, R135 to R137, R497 to R513).
-/
namespace Sys2Proof.Machine

/-! ## Slices needed (R18, R505) -/

/-- Slices the configured port rates need (R18). -/
def State.slicesNeeded (s : State) : Nat := ceilDiv (sumL (s.allPorts.map fun p => s.portMbps p)) 1075200

/-- The slice. -/
def State.slice (s : State) (k : Nat) : Slice := nth s.ing.slices k {}

/-- Change a slice. -/
def State.sliceM (s : State) (k : Nat) (f : Slice → Slice) : State := s.ingM fun i => { i with slices := updAt i.slices k f }

/-- Slices in service. -/
def State.inService (s : State) : List Nat := (List.range 8).filter fun k => (s.slice k).st == .inService

/-- Some MAC port's link is up. -/
def State.anyUp (s : State) : Bool := s.mac.ports.any fun e => e.2.up

/-- The least number of slices the policy keeps. -/
def State.sliceFloor (s : State) : Nat := max s.pwr.minSlices (max s.slicesNeeded 1)

/-! ## Allowed states (R497, R501 to R504) -/

/-- Power state of a domain. -/
def State.pdom (s : State) (d : Nat) : PState := nth s.pwr.doms d .run

/-- Chain domains. -/
def isChain (d : Nat) : Bool := decide (2 ≤ d) && decide (d ≤ 30)

/-- Cells a port's share must reach for DOZE and for DEEP, by rate code (R504). -/
def dozeCells (r : Nat) : Nat := nth [469, 235, 118, 59, 30, 15, 6] r 0
/-- For DEEP. -/
def deepCells (r : Nat) : Nat := nth [3125, 1563, 782, 391, 196, 98, 40] r 0

/-- The first enabled port that fails a test of R504. -/
def State.failsShare (s : State) (need : Nat → Nat) : Option Nat :=
  s.allPorts.find? fun p => (s.mport p).en && decide ((s.lb p).share < need ((s.portRate p).getD 0))

/-- The policy runs: enabled, in CONFIG to DRAIN (R37). -/
def State.policyOn (s : State) : Bool := s.pwr.en && (s.mode.mode == .config || s.mode.mode.forwards)

/-- What keeps the DDR domain in RUN (R501). -/
def State.ddrKeeps (s : State) : Bool :=
  (s.cip.spillEnable && s.spilled != 0) || s.sched.ringEn || s.vnt.trEnable || s.snapBusy
    || s.ddr.chans.any fun c => c.st == .training

/-- Another slice in service is in RUN or DOZE. -/
def State.otherSlice (s : State) (k : Nat) : Bool :=
  s.inService.any fun j => j != k && (s.pdom (10 + j) == .run || s.pdom (10 + j) == .doze)

/-- DOZE is allowed for a domain. -/
def State.dozeOk (s : State) (d : Nat) : Bool :=
  s.policyOn && decide (1 ≤ d) && decide (d ≤ 31) && decide (1200 ≤ s.pwr.maxLat) && (s.failsShare dozeCells).isNone
    && (d != 31 || !s.ddrKeeps)

/-- DEEP is allowed for a domain. -/
def State.deepOk (s : State) (d : Nat) : Bool :=
  s.policyOn && nbit s.pwr.deepMask d &&
    if d = 31 then !s.ddrKeeps
    else isChain d && decide (8000 ≤ s.pwr.maxLat) && (s.failsShare deepCells).isNone
      && (!(decide (10 ≤ d) && decide (d ≤ 17) && s.anyUp && (s.slice (d - 10)).st == .inService) || s.otherSlice (d - 10))

/-! ## Idle domains (R502) -/

/-- A domain has no work. -/
def State.domIdle (s : State) (d : Nat) : Bool :=
  let landed := s.ing.groups.any fun g => !g.frames.isEmpty
  let passes := s.ing.slices.any fun z => !z.held.isEmpty
  let entries := s.ing.sources.any fun z => !z.window.isEmpty
  if d = 1 then
    (s.cmds.tags.all fun t => t.phase == .done) && !s.pwr.holdHost
      && (List.range 8).all fun m => (nth s.mbx m {}).state != .posted
  else if d ≤ 9 then
    let g := nth s.ing.groups (d - 2) {}
    g.frames.isEmpty && (Tbl.lookD s.cip.egress (d - 2) []).isEmpty
      && s.mac.ports.all fun e => e.1 / 8 != d - 2 || e.2.tx.isEmpty
  else if d ≤ 17 then (s.slice (d - 10)).held.isEmpty
  else if d ≤ 28 then !entries && (s.core.xps.all fun x => x.1 % 16 != d - 18 || x.2.residue.isEmpty)
  else if d = 29 then !landed && !passes && !entries && s.ing.hostQ.isEmpty && s.ing.twinQ.isEmpty
  else if d = 30 then s.sched.queues.all fun e => !s.queueOk (s.sgrp e.2.group).port e.1
  else true

/-- Predictions after idle intervals that ended. -/
def predict (p : Nat) (is : List Nat) : Nat := is.foldl (fun (p i : Nat) => ((p : Int) + ((i : Int) - p) / 8).toNat) p

/-- A domain goes to sleep. A trigger during the burst before self-refresh lets the burst end and keeps the ranks out of self-refresh (R529). -/
def State.sleepDom (s : State) (d : Nat) (st : PState) (count : Nat) : State :=
  let asleep := s.pdom d != .run
  let s := s.pwrM fun p => { p with
    doms := updAt p.doms d fun _ => st
    slept := if asleep then p.slept else Tbl.put p.slept d s.time.core
    counts := updAt p.counts count sat32 }
  if d = 31 && !asleep then (if count = 5 then s.flushOwed else s.ranksSleep) else s

/-- DOZE_ENTRY and DEEP_ENTRY: the idle intervals of the domain that ended since the last entry, and whether a trigger meets the entry (R499). -/
def powerEntry (deep : Bool) (d : Nat) (ended : List Nat) (trigger : Bool) (s : State) : State :=
  let p := predict (Tbl.lookD s.pwr.pred d 0) ended
  let s := s.pwrM fun w => { w with pred := Tbl.put w.pred d p }
  let st := s.pdom d
  let ok := if deep then (st == .run || st == .doze) && s.deepOk d && decide (200000 ≤ p)
    else st == .run && s.dozeOk d && decide (10000 ≤ p)
  if ok && s.domIdle d && !s.pwr.waking.contains d then
    let s := s.sleepDom d (if deep then .deep else .doze) (if trigger then 5 else if deep then 3 else 2)
    if trigger then s.wakeDom d else s
  else s

/-! ## Wake (R503, R506) -/

/-- A trigger wakes domains; a count of R513 moves when one slept. -/
def State.wakeAll (s : State) (ds : List Nat) (count : Nat) : State :=
  let t := ds.foldl (fun s d => s.wakeDom d) s
  if t.pwr.waking.length = s.pwr.waking.length then t else t.pwrM fun p => { p with counts := updAt p.counts count sat32 }

/-- The forwarding chain: LOOKUP, SCHED, every column, every PG domain with an enabled port, and the slices in service. -/
def State.chainDoms (s : State) : List Nat :=
  [29, 30] ++ (List.range 11).map (18 + ·)
    ++ ((List.range 8).filter fun g => s.mac.ports.any fun e => e.1 / 8 == g && e.2.en).map (2 + ·)
    ++ s.inService.map (10 + ·)

/-- A frame or a packet at sources 8 or 10 wakes the chain. -/
def State.wakeChain (s : State) : State := s.wakeAll s.chainDoms 0

/-- A mailbox, a doorbell or a BAR0 access to VNT_ wakes HOST. -/
def State.wakeHost (s : State) : State := s.wakeAll [1] 1

/-- Domains whose state is no longer allowed wake (R503). -/
def State.powerCheck (s : State) : State :=
  if s.mode.mode == .config || s.mode.mode.forwards then
    (List.range 32).foldl (fun s d =>
      match s.pdom d with
      | .doze => if s.dozeOk d || (d = 31 && s.deepOk d) then s else s.wakeDom d
      | .deep => if s.deepOk d then s else s.wakeDom d
      | _ => s) s
  else s

/-- Shapers catch up on the time SCHED slept: rate × time, capped at the burst (R506). -/
def Shaper.catchUp (h : Shaper) (ns : Nat) : Shaper :=
  if h.en then { h with tokens := min ((h.burst * 16777216 : Nat) : Int) (h.tokens + (shaperGain h.rate ns : Nat)) } else h

/-- The scheduler wakes after `ns`. -/
def State.schedWake (s : State) (ns : Nat) : State :=
  s.schedM fun k => { k with
    nodes := k.nodes.mapV fun _ n => { n with shaper := n.shaper.catchUp ns }
    groups := k.groups.mapV fun _ g => { g with shaper := g.shaper.catchUp ns }
    queues := k.queues.mapV fun _ q => { q with shaper := q.shaper.catchUp ns } }

/-- WAKE_COMPLETE: a waking domain reaches RUN, `ns` after its trigger. -/
def wakeComplete (d ns : Nat) (s : State) : State :=
  if !s.pwr.waking.contains d then s
  else
    let slept := (s.time.core - Tbl.lookD s.pwr.slept d s.time.core) * 5 / 8
    let s := s.pwrM fun p => { p with
      doms := updAt p.doms d fun _ => .run
      waking := p.waking.filter (· != d), slept := Tbl.del p.slept d
      counts := if isChain d then updAt p.counts 4 (max ns) else p.counts }
    if d = 31 then
      s.ddrM fun x => { x with chans := x.chans.map fun c => if c.st == .selfRefresh then { c with st := .inService } else c }
    else if d = 30 then s.schedWake slept
    else if 10 ≤ d ∧ d ≤ 17 ∧ (s.slice (d - 10)).admitting then
      s.sliceM (d - 10) fun z => { z with admitting := false, st := .inService }
    else s

/-! ## Slices in and out of service (R135, R136, R505) -/

/-- Take a slice out of service toward a retired state. -/
def State.retireSlice (s : State) (k : Nat) (into : SliceState) : State :=
  (s.sliceM k fun z => { z with st := .retiring, after := into, admitting := false }).sliceDone k

/-- Put a slice into service: at once when its domain is in RUN, else once it has woken. -/
def State.admitSlice (s : State) (k : Nat) : State :=
  if s.pdom (10 + k) = .run then s.sliceM k fun z => { z with st := .inService, admitting := false }
  else (s.sliceM k fun z => { z with admitting := true }).wakeDom (10 + k)

/-- Passes of the slices since the last interval of the policy. -/
def State.slicePasses (s : State) : Nat := sumL (s.ing.slices.map (·.passes))

/-- The slices with their passes counted anew. -/
def State.slicePassed (s : State) : State := s.ingM fun i => { i with slices := i.slices.map fun z => { z with passes := 0 } }

/-- The lowest slice the policy retired and has not yet called back. -/
def State.readySlice (s : State) : Option Nat :=
  (List.range 8).find? fun k => (s.slice k).st == .retiredPolicy && !(s.slice k).admitting

/-- The policy retires the highest slice in service when the use is low and more than its floor are in service. -/
def State.policyRetire (s : State) (n used : Nat) : State :=
  if 10 * used < 6 * (n * 16000) ∧ s.sliceFloor < n then
    match s.inService.getLast? with
    | some j => (s.retireSlice j .retiredPolicy).pwrM fun p => { p with counts := updAt p.counts 7 sat32 }
    | none => s
  else s

/-- SLICE_POLICY: every 10 µs. -/
def slicePolicy (s : State) : State :=
  let n := s.inService.length
  let used := s.slicePasses
  let t := s.slicePassed
  if !t.policyOn then t
  else
    match t.readySlice with
    | some k =>
      if 9 * (n * 16000) < 10 * used then (t.admitSlice k).pwrM fun p => { p with counts := updAt p.counts 6 sat32 }
      else (t.policyRetire n used).powerCheck
    | none => (t.policyRetire n used).powerCheck

/-- SLICE_RETIRE: it completes when the slice is empty. -/
def sliceRetire (c : Packet) (s : State) : Res :=
  let k := c.obj
  let z := s.slice k
  let left := (s.inService.filter (· != k)).length
  let need := s.slicesNeeded
  let short := if z.st == .inService ∧ left < need then need else 0
  checks [objBelow c 8, (z.st != .isolated, .conflict, z.isolator),
      (!(z.st == .inService && left == 0 && s.anyUp), .conflict, 0)]
    (match z.st with
    | .retiredPolicy => .ok (s.sliceM k fun z => { z with st := .retiredHost, admitting := false })
    | .retiredHost => .ok (s.sliceM k fun z => { z with admitting := false })
    | _ =>
      if z.held.isEmpty then
        .done (if short = 0 then .ok else .okAdjusted) short []
          (s.sliceM k fun z => { z with st := .retiredHost, after := .retiredHost, admitting := false })
      else .hold short (s.sliceM k fun z => { z with st := .retiring, after := .retiredHost, admitting := false }))

/-- SLICE_ADMIT. -/
def sliceAdmit (c : Packet) (s : State) : Res :=
  let k := c.obj
  let z := s.slice k
  checks [objBelow c 8, (z.st != .isolated, .conflict, z.isolator)]
    (match z.st with
    | .inService => .ok s
    | .retiring => .ok (s.sliceM k fun z => { z with st := .inService })
    | _ => .ok (s.admitSlice k))

/-- A mask of the slices in a state. -/
def State.sliceMask (s : State) (st : SliceState) : Nat := sumL ((List.range 8).map fun k => if (s.slice k).st == st then 2 ^ k else 0)

/-- SLICE_STATUS (R137). -/
def sliceStatus (c : Packet) (s : State) : Res :=
  checks [objZero c]
    (.data (wd (s.sliceMask .inService + 256 * s.sliceMask .retiredHost + 65536 * s.sliceMask .isolated + 16777216 * s.slicesNeeded)
      :: (List.range 8).map fun k =>
        let z := s.slice k
        wd (z.st.code + 16 * (s.pdom (10 + k)).code + 65536 * min z.timeouts 65535)) s)

/-! ## Policy commands (R512, R513) -/

/-- POWER_POLICY_SET. Inside a batch it reports no adjustment, and min_slices 0 means the count of R18 itself. -/
def powerPolicySet (c : Packet) (s : State) : Res :=
  let en := (c.w 0).bit 0
  let n := (c.w 1).fld 3 0
  let need := s.slicesNeeded
  let low := !c.inBatch && n != 0 && decide (n < need)
  checks [objZero c, reserved c 0 0xFFFF0001, reserved c 1 15, reserved c 3 1, fieldIs 1 0 (decide (n ≤ 8)),
      fieldIs 2 0 ((c.w 2).fld 1 0 == 0), fieldIs 3 0 (c.n 3 == 0)]
    (let s := s.pwrM fun p => { p with
      en := en, maxLat := (c.w 0).fld 31 16, minSlices := n, deepMask := c.n 2
      pred := if en && !p.en then [] else p.pred }
     .done (if low then .okAdjusted else .ok) (if low then need else 0) [] s.powerCheck)

/-- Power states of the domains, 2 bits each (R109). -/
def State.domBytes (s : State) : Bytes :=
  (List.range 12).map fun i => by8 (sumL ((List.range 4).map fun j =>
    if 4 * i + j < 33 then (s.pdom (4 * i + j)).code * 4 ^ j else 0))

/-- POWER_STATUS. -/
def powerStatus (c : Packet) (s : State) : Res :=
  let k (i : Nat) : Nat := nth s.pwr.counts i 0
  let fz := s.failsShare dozeCells
  let fp := s.failsShare deepCells
  let first := match fz with
    | some p => some p
    | none => fp
  checks [objZero c]
    (.data (bytesWords s.domBytes ++ [wd (b2n fz.isNone + 2 * b2n fp.isNone + 4 * first.getD 0 + 256 * b2n first.isSome),
      wd (s.sliceMask .inService + 256 * min 15 s.sliceFloor), wd (k 0), wd (k 1), wd (k 2), wd (k 3), wd (k 4), wd (k 5),
      wd (min (k 6) 65535 + 65536 * min (k 7) 65535)]) s)

/-! ## Meanings -/

/-- DOZE_ENTRY. -/
def execDozeEntry (d : Nat) (ended : List Nat) (trigger : Bool) (s : State) : Host.Outcome State Fault Refusal :=
  (powerEntry false d ended trigger s).done
/-- DEEP_ENTRY. -/
def execDeepEntry (d : Nat) (ended : List Nat) (trigger : Bool) (s : State) : Host.Outcome State Fault Refusal :=
  (powerEntry true d ended trigger s).done
/-- WAKE_COMPLETE. -/
def execWakeComplete (d ns : Nat) (s : State) : Host.Outcome State Fault Refusal := (wakeComplete d ns s).done
/-- SLICE_POLICY. -/
def execSlicePolicy (s : State) : Host.Outcome State Fault Refusal := (slicePolicy s).done

end Sys2Proof.Machine
end

