-- ==== Sys2Proof/Machine/MacIo.lean ====
section
/-!
DEFINITION. What happens at a MAC port: link up and down, frames received and sent, PAUSE and PFC received, the pause-storm guard, and the cipher guard (R115 to R121, R312, R398 to R402, R433 to R440).
-/
namespace Sys2Proof.Machine

/-! ## Landing (R115 to R121) -/

/-- A frame's priority: the PCP of its outer VLAN tag, or the port's default (R121). -/
def State.framePrio (s : State) (p : Nat) (b : Bytes) : Nat :=
  let t := beAt b 12 2
  if t = 0x8100 ∨ t = 0x88A8 then byteAt b 14 / 32 else (s.lb p).defPri

/-- The cells are there: within the share, or beyond it within the port's limit and the common region (R118, R119). -/
def State.cellsFit (s : State) (p n : Nat) : Bool :=
  let b := s.lb p
  let occ := s.lbOcc p
  let excess := occ + n - b.share
  excess == 0 || (decide (excess ≤ b.common) && decide (s.commonUse (p / 8) + (excess - (occ - b.share)) ≤ s.commonSize (p / 8)))

/-- The ingress stamp of a frame whose last byte arrives now: its start at the MDI (R398, R399). -/
def State.rxStamp (s : State) (p len : Nat) : Nat :=
  stampAt (((s.time.line.t - wireTime (s.portMbps p) len - Config.macLatency (s.layout (p / 8)).toNat ((s.portRate p).getD 0) 0 : Nat) : Int)
    + psUnits (s.ptpPort p).inAdj)

/-- The distributor can read: LOOKUP and a slice in service are in RUN (R122). -/
def State.distAwake (s : State) : Bool := s.pdom 29 == .run && s.inService.any fun k => s.pdom (10 + k) == .run

/-- A frame joins its group's landing queue. -/
def State.landQueue (s : State) (g : Nat) (f : LFrame) : State :=
  let held := !s.distAwake
  (s.ingM fun i => { i with groups := updAt i.groups g fun x =>
    { x with queue := x.queue ++ [f], heldLands := if held then sat32 x.heldLands else x.heldLands } }).perf (2 * g) 0x11 1

/-- A good frame of `len` bytes with its FCS takes its cells: landed on a plain-side port, unless its group waits for a fetch (R117); in the pending-cipher state on a cipher-side one. -/
def State.arrive (s : State) (p : Nat) (b : Bytes) (len : Nat) : State :=
  let n := ceilDiv len 256
  let g := p / 8
  if !s.cellsFit p n then (s.lbM p fun x => { x with overrun := sat32 x.overrun }).perf (2 * g) 0x12 1
  else
    let side := (s.mport p).cipher
    let k : Pkt := { bytes := b, rxLen := len, source := g, origin := g, port := p, cipherSide := side, stamp := some (s.rxStamp p len) }
    let f : LFrame := { pkt := k, port := p, cells := n, prio := s.framePrio p b }
    let s := if side then s.ingM fun i => { i with groups := updAt i.groups g fun x => { x with pend := x.pend ++ [f] } }
      else if (nth s.ing.groups g {}).stalled.isSome then s.ingM fun i => { i with groups := updAt i.groups g fun x => { x with after := x.after ++ [f] } }
      else s.landQueue g f
    s.fcUpdate p

/-- A frame discarded before it lands (R125 word 5). -/
def State.lbDiscard (s : State) (p : Nat) : State := s.lbM p fun x => { x with discards := sat32 x.discards }

/-! ## PAUSE and PFC received (R438) -/

/-- A PAUSE or PFC frame that has no effect. -/
def State.fcIgnored (s : State) (p : Nat) : State := s.portCount p 8 1

/-- A received PAUSE. -/
def pauseReceive (p q : Nat) (s : State) : State :=
  let m := s.mport p
  if !s.hasPort p || !m.up then s
  else if m.rxFc != 1 || m.tripped then s.fcIgnored p
  else (s.portCount p 7 1).mportM p fun m => { m with pause := q }

/-- A received PFC: the priorities enabled and their times. -/
def pfcReceive (p mask : Nat) (times : List Nat) (s : State) : State :=
  let m := s.mport p
  if !s.hasPort p || !m.up then s
  else if m.rxFc != 2 || m.tripped then s.fcIgnored p
  else (s.portCount p 7 1).mportM p fun m => { m with
    pfc := (List.range 8).map fun i => if nbit mask i then nth times i 0 else nth m.pfc i 0 }

/-- A MAC Control frame with a good FCS. -/
def State.macControlIn (s : State) (p : Nat) (b : Bytes) : State :=
  let op := beAt b 14 2
  if op = 1 then pauseReceive p (beAt b 16 2) s
  else if op = 0x0101 then pfcReceive p (byteAt b 17) ((List.range 8).map fun i => beAt b (18 + 2 * i) 2) s
  else s.fcIgnored p

/-- PAUSE_EXPIRE: the timer of the port, or of one priority. -/
def pauseExpire (p : Nat) (prio : Option Nat) (s : State) : State :=
  if s.hasPort p then
    s.mportM p fun m => match prio with
      | none => { m with pause := 0 }
      | some i => { m with pfc := updAt m.pfc i fun _ => 0 }
  else s

/-- Priorities paused at a trip: all of them under PAUSE (R372, R440). -/
def MacPort.pausedMask (m : MacPort) : Nat :=
  if m.pause != 0 then 255 else sumL ((List.range 8).map fun i => if nth m.pfc i 0 = 0 then 0 else 2 ^ i)

/-- PAUSE_STORM_TRIP. -/
def pauseStormTrip (p : Nat) (s : State) : State :=
  let m := s.mport p
  if s.hasPort p && m.up && m.guardOn && !m.tripped && m.pausedMask != 0 then
    let s := (s.mportM p fun m => { m with tripped := true }).portCount p 9 1
    (s.enterFlush p).postEvent 0x0104 p [wd (1 + 256 * m.pausedMask), wd m.stormMs]
  else s

/-- PAUSE_STORM_CLEAR. -/
def pauseStormClear (p : Nat) (s : State) : State := if (s.mport p).tripped then (s.clearTrip p).tryLeave p else s

/-- PAUSE_REFRESH: the flow control in force is sent again (R120, R121). -/
def pauseRefresh (p : Nat) (s : State) : State :=
  let b := s.lb p
  if b.fcMode = 1 ∧ b.xoffOn then s.sendPause p b.xoffQuanta
  else if b.fcMode = 2 ∧ b.pfcOn ≠ 0 then s.sendPfc p b.pfcOn b.xoffQuanta
  else s

/-! ## Link (R435, R436) -/

/-- FEC is in use at a rate code. -/
def fecUsed (r : Nat) (m : MacPort) : Bool := decide (r < 5) || (r == 5 && m.fec25)

/-- LINK_UP. -/
def linkUp (p : Nat) (s : State) : State :=
  let m := s.mport p
  match s.portRate p with
  | none => s
  | some r =>
    if !m.en || m.up || !s.mode.mode.isUp || s.pwr.isolated.contains (2 + p / 8) then s
    else
      let us := min ((s.time.record.t - m.downAt) / 65536000) 4294967295
      let s := s.mportM p fun m => { m with up := true }
      let s := s.postEvent 0x0101 p [wd (r + 8 * b2n (fecUsed r m) + 16 * b2n m.cipher), wd us]
      (s.tryLeave p).powerCheck

/-- LINK_DOWN: with the lane whose lock was lost, and whether a frame was in transmission and in reception. -/
def linkDown (p cause : Nat) (lane : Option Nat) (cutting receiving : Bool) (s : State) : State :=
  if !(s.mport p).up then s
  else
    let (cut, s) := if cutting then s.cutFrame p else (0, s)
    let s := s.linkGoesDown p cause cut
    let s := if receiving then s.portCount p 12 1 else s
    match lane with
    | some l => if cause = 1 ∧ l < 68 then s.fault (0x180 + l) 0xFF 0 l 0 else s
    | none => s

/-! ## Reception (R436, R437) -/

/-- A frame checked by the MAC: its error counts; none when it goes no further. -/
def State.macCheck (s : State) (p : Nat) (f : Bytes) : Bool × State :=
  let body := f.take (f.length - 4)
  let good := decide (4 ≤ f.length) && fcsBytes body == f.drop (f.length - 4)
  let runt := decide (f.length < 64)
  let long := decide ((s.mport p).maxFrame < f.length)
  if 16384 < f.length then (false, (s.portCount p 6 1).lbDiscard p)
  else if !good then (false, (s.portCount p 4 1).lbDiscard p)
  else
    let s := if runt then s.portCount p 5 1 else if long then s.portCount p 6 1 else s
    if beAt body 12 2 = 0x8808 ∧ 14 ≤ body.length then (false, s.macControlIn p body)
    else if runt || long then (false, s.lbDiscard p)
    else (true, s)

/-- FRAME_RECEIVE: a whole frame with its FCS, and the FEC codewords corrected and uncorrectable met in it. -/
def frameReceive (p : Nat) (f : Bytes) (fec : Nat × Nat) (s : State) : State :=
  let m := s.mport p
  if !s.hasPort p || !m.up then s
  else
    let s := (((s.portCount p 0 fec.1).portCount p 1 fec.2).portCount p 2 1).perf (2 * (p / 8)) 0x10 1
    let s := if m.en then s.wakeChain else s
    if m.loopback = 2 then (if s.mode.mode.sends then s.emit (.frame p f false) else s)
    else
      let (ok, s) := s.macCheck p f
      if !ok then s
      else if s.mode.mode.forwards && s.mode.mode != .drain then s.arrive p (f.take (f.length - 4)) f.length
      else s.portCount p 12 1

/-! ## Transmission (R312, R400, R433) -/

/-- Stamp the start of a PTP event message on a designated port (R400 to R402). -/
def State.stampTx (s : State) (p : Nat) (t : Tx) (start : Nat) : State :=
  let b := t.ptp.getD t.bytes
  match ptpEvent b with
  | some (i, _) =>
    if (s.ptpPort p).desig then
      let m := b.drop i
      let x := s.txStamp p start
      let s := if t.oneStep then s else s.postStamp p m x
      s.ptpSent p m x
    else s
  | none => s

/-- The frame goes out on the line, or comes back to the receive path under a near-end loopback (R604). -/
def State.onWire (s : State) (p : Nat) (t : Tx) : State :=
  let w := wireBytes t.bytes
  let s := (s.portCount p 3 1).bwmAdd p w.length
  let m := s.mport p
  if m.loopback = 1 ∨ m.loopback = 3 then
    let (ok, s) := s.macCheck p w
    if ok then s.arrive p (w.take (w.length - 4)) w.length else s
  else s.emit (.frame p w false)

/-- FRAME_TRANSMIT: the MAC of a port starts the next frame it holds whole, at its planned start when it has one. -/
def frameTransmit (p : Nat) (s : State) : State :=
  let m := s.mport p
  let now := s.time.line.t
  if !m.up || !s.lineOpen p || nth s.pwr.doms (2 + p / 8) .run != .run then s
  else
    match m.tx with
    | [] => s
    | t :: r =>
      let start := t.plan.getD now
      let (bad, u) := s.takePlanted [0x140 + p]
      if now < start then s
      else if bad ≠ 0 then u.fault (0x140 + p) (p / 8) 0 p 0
      else
        let s := s.mportM p fun m => { m with tx := r }
        if s.guardStops p t then
          let s := (s.mportM p fun m => { m with guardDiscards := sat32 m.guardDiscards }).cipCount (p / 8) 11
          (s.fault (0xC0 + p / 8) (0x40 + p / 8) 0 p 0).txRelease t
        else ((s.stampTx p t start).onWire p t).txRelease t

/-! ## Meanings -/

/-- LINK_UP. -/
def execLinkUp (p : Nat) (s : State) : Host.Outcome State Fault Refusal := (linkUp p s).done
/-- LINK_DOWN. -/
def execLinkDown (p cause : Nat) (lane : Option Nat) (cutting receiving : Bool) (s : State) : Host.Outcome State Fault Refusal :=
  (linkDown p cause lane cutting receiving s).done
/-- FRAME_RECEIVE. -/
def execFrameReceive (p : Nat) (frame : Bytes) (fec : Nat × Nat) (s : State) : Host.Outcome State Fault Refusal :=
  (frameReceive p frame fec s).done
/-- PAUSE_REFRESH. -/
def execPauseRefresh (p : Nat) (s : State) : Host.Outcome State Fault Refusal := (pauseRefresh p s).done
/-- PAUSE_RECEIVE. -/
def execPauseReceive (p quanta : Nat) (s : State) : Host.Outcome State Fault Refusal := (pauseReceive p quanta s).done
/-- PFC_RECEIVE. -/
def execPfcReceive (p mask : Nat) (times : List Nat) (s : State) : Host.Outcome State Fault Refusal := (pfcReceive p mask times s).done
/-- PAUSE_EXPIRE. -/
def execPauseExpire (p : Nat) (prio : Option Nat) (s : State) : Host.Outcome State Fault Refusal := (pauseExpire p prio s).done
/-- PAUSE_STORM_TRIP. -/
def execPauseStormTrip (p : Nat) (s : State) : Host.Outcome State Fault Refusal := (pauseStormTrip p s).done
/-- PAUSE_STORM_CLEAR. -/
def execPauseStormClear (p : Nat) (s : State) : Host.Outcome State Fault Refusal := (pauseStormClear p s).done
/-- FRAME_TRANSMIT. -/
def execFrameTransmit (p : Nat) (s : State) : Host.Outcome State Fault Refusal := (frameTransmit p s).done

end Sys2Proof.Machine
end

