-- ==== Sys2Proof/Machine/Pass.lean ====
section
/-!
DEFINITION. One pass of a packet through a slice: parse, fragments, searches, the winning action, meter, edits, mirror copies and disposition (R130, R149, R155 to R157, R185, R255, R256, R261 to R273, R299).
-/
namespace Sys2Proof.Machine

/-! ## Reorder entries (R129, R130) -/

/-- Change a source. -/
def State.sourceM (s : State) (src : Nat) (f : Source → Source) : State := s.ingM fun i => { i with sources := updAt i.sources src f }

/-- The entry of a sequence number. -/
def REntry.seqIs (n : Nat) : REntry → Bool
  | .busy m => m == n
  | .hole m => m == n
  | .ready m _ => m == n

/-- Put an entry in the place of a packet's. -/
def State.reorder (s : State) (p : Pkt) (e : REntry) : State :=
  s.sourceM p.source fun z => { z with window := z.window.map fun x => if x.seqIs p.seq then e else x }

/-- A hole of a dropped packet. -/
def State.holeDrop (s : State) (p : Pkt) : State :=
  (s.reorder p (.hole p.seq)).sourceM p.source fun z => { z with holeDrop := sat32 z.holeDrop }

/-! ## The winning action (R185, R255) -/

/-- A hit as the action stage receives it (R185, R214). -/
structure Hit where
  /-- Action index. -/
  action : Nat
  /-- Search group of a TCAM hit, with its result. -/
  tcam : Option (Nat × TcamHit) := none
  /-- Matched length of a PFX hit. -/
  length : Option Nat := none
deriving DecidableEq, Repr

/-- The hits of a pass in the order of R255. -/
def State.search (s : State) (a : Arrays) (k : Walk) (p : Pkt) (n : Nat) : List Hit × State :=
  let pf := a.profileOf p
  let (x, y) := a.profile pf
  let (e0, s) := s.emPass a x k.kv n 0
  let (e1, s) := s.emPass a x k.kv n 1
  let (e2, s) := s.emPass a x k.kv n 2
  let (e3, s) := s.emPass a x k.kv n 3
  let (pr, s) := s.pfxPass a y k n
  let (tc, s) := (setBits 4 (Tbl.lookD a.tcamEn pf 0)).foldl (fun (r : List Hit × State) g =>
    let (m, s) := r.2.tcamPass a p.slice g k.kv n
    (r.1 ++ (m.map fun (h : TcamHit) => ({ action := h.action, tcam := some (g, h) } : Hit)).toList, s)) ([], s)
  (tc ++ ([e0, e1, e2, e3].filterMap id).map (fun i => { action := i }) ++ (pr.map fun x => ({ action := x.1, length := some x.2 } : Hit)).toList, s)

/-- The first of the hits with the highest precedence. -/
def State.highest (s : State) (n : Nat) : List Hit → Option Hit
  | [] => none
  | h :: t =>
    let prec (x : Hit) : Nat := ((s.actAt x.action n).map fun (e : ActEnt) => actPrec e.words).getD 0
    match s.highest n t with
    | none => some h
    | some x => if prec h < prec x then some x else some h

/-- The winning hit: the first whose action is not visible, else the first of the highest precedence, else default_action; none for 0xF_FFFF. -/
def State.winner (s : State) (a : Arrays) (n : Nat) (hits : List Hit) : Option Hit :=
  match hits.find? fun h => (s.actAt h.action n).isNone with
  | some h => some h
  | none =>
    match s.highest n hits with
    | some h => some h
    | none => guardO (a.defaultAction != 0xFFFFF) { action := a.defaultAction }

/-! ## Disposition (R261 to R273, R299) -/

/-- How a pass ends. -/
inductive Ends
  /-- A hole, with a reason. -/
  | drop (reason : Nat)
  /-- To RECIRC. -/
  | recirc
  /-- To a host queue, with a reason. -/
  | host (queue reason : Nat)
  /-- To a port's queue. -/
  | forward (port queue : Nat)
deriving DecidableEq, Repr

/-- What the action stage hands on. -/
structure Done where
  /-- The disposition. -/
  ends : Ends
  /-- The frame after the pass's edits, as entered when there are none. -/
  bytes : Bytes
  /-- The winning action's words, when it is visible. -/
  act : List Word := []
  /-- The action index, 0xF_FFFF for none. -/
  index : Nat := 0xFFFFF
  /-- The queue resolved. -/
  queue : Nat := 0
  /-- The SA binding resolved. -/
  binding : Nat := 0
  /-- The bypass mark. -/
  bypass : Bool := false
  /-- The pass ends as ACTION_DEAD, and makes no mirror copy. -/
  dead : Bool := false
  /-- Decapsulation was done. -/
  decap : Bool := false
  /-- The header list after the edits (R146). -/
  hl : List (Nat × Nat) := []
  /-- Length of the tunnel template pushed. -/
  outer : Nat := 0
deriving DecidableEq, Repr

/-- A key-agreement frame by its key vector and header list (R271). -/
def Walk.keyAgreement (k : Walk) : Bool :=
  beAt k.kv 24 2 == 0x888E || (byteAt k.kv 26 == 17 && (beAt k.kv 30 2 == 500 || beAt k.kv 30 2 == 4500)
    && k.hdrs.all fun h => h.1 != 0x0F)

/-- Bypass conditions of R271 for a winning hit. -/
def State.bypassOk (s : State) (a : Arrays) (k : Walk) (w : List Word) (grp : Option Nat) : Bool :=
  (match grp with
    | some g => nbit a.bypass g
    | none => false) && actVerdict w == 0 && (!s.act.bypassStrict || k.keyAgreement)

/-- The outer VLAN tag has DEI set. -/
def preYellow (b : Bytes) (k : Walk) : Bool :=
  match k.hdrs.find? fun h => h.1 == 2 || h.1 == 3 with
  | some h => nbit (byteAt b h.2) 4
  | none => false

/-- Rows 5 to 12 of R273 for a visible action, after its meter: colour, profile word, and the edit. -/
def State.rows (s : State) (w : List Word) (hop : Option NextHop) (col : Nat) (mw : Word) (e : Edit) (queue : Nat) : Ends :=
  let port := match hop with
    | some h => hopPort h.words
    | none => 127
  let onward := actVerdict w == 0 && !actRecirc w
  let aim := if actVerdict w = 2 then some 64 else if onward && actHopSet w then some port else none
  if col = 2 ∧ mw.fld 6 5 = 0 then .drop 0x04
  else if col = 1 ∧ mw.fld 4 3 = 2 then .drop 0x05
  else if e.expired then (if s.act.ttlToHost && s.act.hostQueue != 65535 then .host s.act.hostQueue 0x03 else .drop 0x03)
  else if 16384 < e.b.length + 4 then .drop 0x09
  else if actEncap w && (aim.map fun p => !s.cipherSide p) == some true then .drop 0x06
  else if (onward && !actHopSet w) || (actVerdict w == 2 && !actQueueSet w && s.act.hostQueue == 65535) then .drop 0x08
  else if actVerdict w = 0 ∧ actRecirc w then .recirc
  else if actVerdict w = 2 then .host queue (if actReason w = 0 then 0x0C else actReason w)
  else .forward port queue

/-- The remark of a forwarded packet: yellow or red DSCP (R266, R273 row 12). -/
def remark (col : Nat) (mw : Word) (e : Edit) : Edit :=
  if col = 1 ∧ mw.fld 4 3 = 1 then e.dscp (mw.fld 13 8)
  else if col = 2 ∧ mw.fld 6 5 = 2 then e.dscp (mw.fld 21 16)
  else e

/-- A forwarded packet's binding fails (R299): the drop is counted for the destination's group too. -/
def State.bindCheck (s : State) (w : List Word) (binding : Nat) (ends : Ends) : Ends × State :=
  match ends with
  | .forward port _ =>
    if actEncap w then
      match s.bindingReason binding (actIntent w) (actEspUdp w) (port / 8) with
      | some r => (.drop r, s.cipCount (port / 8) (r - 0x20))
      | none => (ends, s)
    else (ends, s)
  | _ => (ends, s)

/-- The action stage for a visible action with its template and next hop: rows 4 to 12 of R273. `stored` is the decision of a first fragment. -/
def State.runAction (s : State) (a : Arrays) (p : Pkt) (k : Walk) (i : Nat) (w : List Word) (grp : Option Nat) (stored : Option (Nat × Nat))
    (tmpl : Option Template) (hop : Option NextHop) : Done × State :=
  let queue := match stored with
    | some x => x.1
    | none => if actQueueSet w then actQueue w else if actVerdict w = 2 then s.act.hostQueue else ((hop.map fun (h : NextHop) => hopQueue h.words).getD 0)
  let binding := match stored with
    | some x => x.2
    | none => actBinding w
  let d : Done := { ends := .drop 0x0A, bytes := p.bytes, act := w, index := i, queue := queue, binding := binding }
  if actBypass w && !s.bypassOk a k w grp then (d, s)
  else
    let (col, mw, s) := if actMeterEn w then s.meterUpdate (actMeter w) p.rxLen (preYellow p.bytes k) else (0, 0#32, s)
    let dmac := if actRecirc w ∧ actVerdict w = 0 then none else hop.bind fun (h : NextHop) => guardO (hopDmacSet h.words) (hopDmac h.words)
    let e := Edit.run { b := p.bytes, hl := k.hdrs } w p.outerKept (tmpl.map fun (t : Template) => t.data.take t.len) dmac
    let (ends, s) := s.bindCheck w binding (s.rows w hop col mw e queue)
    match ends with
    | .drop _ => ({ d with ends := ends }, s)
    | .forward _ _ =>
      let s := if actBypass w then s.actCount 4 1 else s
      let d := { d with hl := e.hl, outer := if actIntent w = 2 then ((tmpl.map fun (t : Template) => t.len).getD 0) else 0 }
      ({ d with ends := ends, bytes := (remark col mw e).b, bypass := actBypass w, decap := actIntent w == 4 }, s.actCount 0 e.skipped)
    | _ => ({ d with ends := ends, bytes := e.b, decap := actIntent w == 4 }, s.actCount 0 e.skipped)

/-- The action stage for an action index at an epoch: rows 1 to 3 of R273 first, and the count of R269. -/
def State.actionStage (s : State) (a : Arrays) (n : Nat) (p : Pkt) (k : Walk) (i : Nat) (grp : Option Nat) (stored : Option (Nat × Nat)) : Done × State :=
  let none_ : Done := { ends := .drop 0x07, bytes := p.bytes, index := i, dead := true }
  match s.actAt i n with
  | none => (none_, s)
  | some x =>
    let w := x.words
    let tmpl := if actTmplEn w then s.tmplAt (actTmpl w) n else none
    let hop := if actHopSet w then s.hopAt (actHop w) n else none
    let d : Done := { ends := .drop 0x02, bytes := p.bytes, act := w, index := i }
    let d := match stored with
      | some y => { d with queue := y.1, binding := y.2 }
      | none => { d with queue := if actQueueSet w then actQueue w else (hop.map fun (h : NextHop) => hopQueue h.words).getD 0, binding := actBinding w }
    let counted (s : State) : State := if actCountEn w then s.statAdd (actCounter w) p.rxLen else s
    if actVerdict w = 1 then ({ d with ends := .drop (if actReason w = 0 then 0x01 else actReason w) }, counted s)
    else if actVerdict w = 0 ∧ actRecirc w ∧ p.pass = 2 then (d, counted s)
    else if (actTmplEn w && tmpl.isNone) || (actHopSet w && hop.isNone) then (none_, s)
    else
      let (d, s) := s.runAction a p k i w grp stored tmpl hop
      (d, counted s)

/-! ## Mirror copies (R270, R299) -/

/-- The copy of a session, when its binding holds. -/
def State.mirrorCopy (s : State) (p : Pkt) (i : Nat) (m : List Word) (b : Bytes) : Option Copy :=
  let c : Copy := { bytes := b, port := mirDest m, queue := mirQueue m, session := some i, truncate := mirTruncate m, pkt := p }
  if !mirSaValid m then some c
  else guardO (s.bindingReason (mirBinding m) 1 false (mirDest m / 8)).isNone { c with intent := 1, binding := mirBinding m }

/-- The sessions of an epoch that trigger on a pass, in ascending number, each with its record and the bytes it copies. -/
def State.triggers (s : State) (n : Nat) (p : Pkt) (d : Done) : List (Nat × List Word × Bytes) :=
  (List.range 16).filterMap fun i =>
    if p.mirrored.contains i then none
    else
      match s.mirrorAt i n with
      | none => none
      | some m =>
        let t := mirTrigger m
        let ingress := (t == 1 || t == 3) && p.pass == 0 && decide (p.origin < 8) && nbit (mirMask m) p.port
        let egress := (t == 2 || t == 3) && (match d.ends with
          | .forward port _ => decide (port < 64) && nbit (mirMask m) port
          | _ => false)
        let flow := t == 0 && actMirrorEn d.act && actSession d.act == i
        if !mirEnable m then none
        else if ingress then some (i, m, p.bytes)
        else if flow || egress then some (i, m, d.bytes)
        else none

/-- Make the mirror copies of a pass: the copies, the sessions that triggered. -/
def State.mirrorPass (s : State) (n : Nat) (p : Pkt) (d : Done) : List Copy × List Nat × State :=
  if d.dead then ([], [], s)
  else
    (s.triggers n p d).foldl (fun (r : List Copy × List Nat × State) t =>
      let (cs, seen, s) := r
      let seen := seen ++ [t.1]
      let c := Tbl.lookD s.act.samples t.1 0
      let s := s.actM fun a => { a with samples := Tbl.put a.samples t.1 (c + 1) }
      if c % max 1 (mirSample t.2.1) ≠ 0 then (cs, seen, s.actCount 2 1)
      else if 4 ≤ cs.length then (cs, seen, s.actCount 3 1)
      else
        match s.mirrorCopy p t.1 t.2.1 t.2.2 with
        | some c => (cs ++ [c], seen, (s.actCount 1 1).perf (17 + 2 * p.slice) 0x13 1)
        | none => (cs, seen, s)) ([], [], s)

/-! ## Fragments (R155 to R157, R339) -/

/-- Take column 9 space for a held fragment: its unit and pool, none without shared credit or beyond hold_units (R339). -/
def State.holdBuf (s : State) (p : Pkt) : Option (Nat × Nat) × State :=
  let now := sumL (s.frag.held.map (·.units))
  match s.allocBuf p.source 9 (p.bytes.length + 4) true (s.asks p.source 9) with
  | (some (u, q), t) =>
    if (s.col 9).holdUnits < now + poolUnits q then (none, t.unpop 9 u q)
    else (some (u, q), (t.storeBuf p.source 9 u q 1 p.bytes).noteWrite p.source 9 (p.bytes.length + 4))
  | (none, t) => (none, t)

/-- Hold a fragment, when there is room (R157). -/
def State.hold (s : State) (p : Pkt) (k : Walk) : Option State × State :=
  if s.frag.timeoutUs = 0 then (none, s.fragCount 5)
  else if 1024 ≤ s.frag.held.length then (none, s.fragCount 6)
  else
    match s.holdBuf p with
    | (none, t) => (none, t.fragCount 6)
    | (some (u, q), t) =>
      let h : FragHeld := { key := fragTag k.key.1 k.key.2, pkt := { p with bytes := [] }, units := poolUnits q, handle := u, owner := p.source, pool := q, at_ := t.time.record.t }
      let t := t.fragM fun f => { f with held := f.held ++ [h], peak := max f.peak (f.held.length + 1) }
      let t := ((t.fragCount 3).slotM p.slot fun x => { x with hold := x.hold + 1 }).reorder p (.hole p.seq)
      (some (t.sourceM p.source fun z => { z with holeHeld := sat32 z.holeHeld }), t)

/-- Release a held fragment to the distributor (R134, R338). -/
def State.releaseHeld (s : State) (h : FragHeld) : State :=
  let b := Tbl.lookD (s.col 9).bufs h.handle { owner := 15, pool := 0, refs := 0 }
  let p := { h.pkt with fragRelease := true }
  let c : Copy := { bytes := [], port := 65, queue := 0, pkt := p }
  let e : QEnt := { copy := c, col := 9, unit := h.handle, owner := h.owner, pool := h.pool, len := b.bytes.length + 4, trunc := false, at_ := s.time.record.t }
  let s := (s.slotM p.slot fun x => { x with hold := x.hold - 1, recirc := x.recirc + 1 }).colM 9 fun k => { k with qents := k.qents + 1 }
  (s.schedM fun k => if p.pass = 2 then { k with recirc1 := k.recirc1 ++ [e] } else { k with recirc0 := k.recirc0 ++ [e] }).fragCount 4

/-- Write the decision of a first fragment, and release the fragments held for its key (R155, R157). -/
def State.fragDecide (s : State) (i : Nat) (d : Done) : State :=
  match Tbl.look s.frag.table i with
  | none => s
  | some e =>
    let e := { e with decided := true, action := d.index, queue := d.queue, binding := guardO (actEncap d.act) d.binding }
    let s := s.fragM fun f => { f with table := Tbl.put f.table i e }
    let (mine, rest) := s.frag.held.partition fun h => h.key == fragTag e.v6 e.key
    mine.foldl (fun s h => s.releaseHeld h) (s.fragM fun f => { f with held := rest })

/-- A fragment served by an entry (R156). -/
def State.fragServe (s : State) (i : Nat) (k : Walk) : State :=
  (s.fragM fun f => { f with table := Tbl.upd f.table i { v6 := false, key := [], epoch := 0, slot := 0, created := 0, lastUse := 0 } fun e => { e with
    lastUse := s.time.record.t, fragments := satAdd 16 e.fragments 1, lastSeen := e.lastSeen || !k.more } }).fragCount (if k.frag = 1 then 2 else 1)

/-- The orphan action (R156, R157). -/
def State.orphan (s : State) (reason : Nat) : Ends := if s.frag.orphanHost then .host s.frag.orphanQueue reason else .drop reason

/-! ## Trace (R128, R495, R496) -/

/-- The distribution tag of R128, as a number of 64 bits. -/
def Pkt.distTag (p : Pkt) : Nat :=
  p.source + 16 * p.origin + 256 * p.seq + 2 ^ 24 * p.slot + 2 ^ 26 * p.pass + 2 ^ 28 * p.slice + 2 ^ 31 * b2n p.fragRelease
    + 2 ^ 32 * (p.rxLen % 32768) + 2 ^ 48 * p.assignClock

/-- The row of R273 that decided a pass, 0 for one that parsing or fragment handling decided. -/
def Done.row (d : Done) : Nat :=
  if d.act.isEmpty && !d.dead then 0
  else
    match d.ends with
    | .drop r => (match r with
      | 0x02 => 2 | 0x07 => 3 | 0x0A => 4 | 0x04 => 5 | 0x05 => 5 | 0x03 => 6 | 0x09 => 7 | 0x06 => 8 | 0x08 => 9 | 0x26 => 12 | 0x27 => 12
      | _ => 1)
    | .recirc => 10
    | .host _ r => if r = 0x03 then 6 else 11
    | .forward _ _ => 12

/-- Reason of a disposition. -/
def Ends.reason : Ends → Nat
  | .drop r => r
  | .host _ r => r
  | _ => 0

/-- A trace record of kind 5, for one pass in N. -/
def State.tracePass (s : State) (p : Pkt) (d : Done) : State :=
  if s.vnt.trEnable && s.vnt.trPkt then
    if s.vnt.trPass + 1 < s.vnt.trSample then s.vntM fun v => { v with trPass := v.trPass + 1 }
    else
      (s.vntM fun v => { v with trPass := 0 }).trace true 5 0 0 0 0
        (leBytes 8 p.distTag ++ leBytes 3 (d.index + 1048576 * d.row) ++ [by8 d.ends.reason])
  else s

/-! ## A whole pass -/

/-- The copies of a pass that ended, with its primary copy first. -/
def Done.primary (d : Done) (p : Pkt) : List Copy :=
  match d.ends with
  | .drop _ => []
  | .recirc => [{ bytes := d.bytes, port := 65, queue := 0, pkt := { p with pass := p.pass + 1 } }]
  | .host q r => [{ bytes := d.bytes, port := 64, queue := q, reason := r, pkt := p }]
  | .forward port q =>
    let enc := actEncap d.act
    [{ bytes := d.bytes, port := port, queue := q, bypass := d.bypass, pkt := p
       intent := if enc then actIntent d.act else 0
       binding := if enc then d.binding else 0
       espUdp := enc && actEspUdp d.act, hl := d.hl, outer := d.outer }]

/-- Count a disposition's reason, in REASON_COUNTS and in the slice's counters. -/
def State.countEnds (s : State) (k : Nat) : Ends → State
  | .drop r => (s.dropReason r).perf (17 + 2 * k) 0x10 1
  | .host _ r => (s.hostReason r).perf (17 + 2 * k) 0x11 1
  | .recirc => s.perf (17 + 2 * k) 0x12 1
  | .forward _ _ => s

/-- End a pass: copies, reason, decision of a first fragment, reorder entry, holders (R130, R155, R241). -/
def State.endPass (s : State) (n : Nat) (p : Pkt) (d : Done) : State :=
  let s := (s.countEnds p.slice d.ends).tracePass p d
  let (mirs, seen, s) := s.mirrorPass n p d
  let p := { p with mirrored := p.mirrored ++ seen, outerKept := p.outerKept && !d.decap }
  let s := match s.fragOwn p with
    | some i => if d.ends == Ends.recirc then s else s.fragDecide i d
    | none => s
  let s := if d.ends == Ends.recirc then s.slotM p.slot fun x => { x with recirc := x.recirc + 1 } else s
  match d.primary p ++ mirs with
  | [] => s.holeDrop p
  | cs =>
    let s := s.reorder p (.ready p.seq cs)
    match d.ends with
    | .drop _ => s.sourceM p.source fun z => { z with holeDrop := sat32 z.holeDrop }
    | _ => s

/-- A pass that parsing or fragment handling decides, without an action. -/
def State.endPlain (s : State) (n : Nat) (p : Pkt) (e : Ends) : State := s.endPass n p { ends := e, bytes := p.bytes }

/-- Classification: searches, winner, action stage (R255, R149). -/
def State.classify (s : State) (a : Arrays) (n : Nat) (p : Pkt) (k : Walk) : State :=
  let (hits, s) := s.search a k p n
  match s.winner a n hits with
  | none => s.endPlain n p (.drop 0x1B)
  | some h =>
    let (d, s) := s.actionStage a n p k h.action (h.tcam.map (·.1)) none
    s.endPass n p d

/-- A later fragment, or a duplicate first one, without a decided entry: it is held, or takes the orphan action (R156). -/
def State.holdOrOrphan (s : State) (n : Nat) (p : Pkt) (k : Walk) : State :=
  let full := s.frag.timeoutUs != 0
  match s.hold p k with
  | (some t, _) => t.tracePass p { ends := .drop 0, bytes := [] }
  | (none, t) => t.endPlain n p (t.orphan (if full then 0x1A else 0x19))

/-- A fragment with a decided entry takes its decision in the stored epoch; a stored 0xF_FFFF is a decision to drop (R156, R256). -/
def State.takeDecision (s : State) (p : Pkt) (k : Walk) (i : Nat) (e : FragEnt) : State :=
  let s := s.fragServe i k
  let a := (nth s.vin.slots e.slot {}).arrays
  if e.action = 0xFFFFF then s.endPlain e.epoch p (.drop 0x1B)
  else
    let (d, s) := s.actionStage a e.epoch p k e.action none (some (e.queue, e.binding.getD 0))
    s.endPass e.epoch p d

/-- What follows parsing (R149, R152, R155, R156): a later fragment, or a first one that finds an entry, whose own disposition is drop or to host takes that. -/
def State.afterParse (s : State) (a : Arrays) (n : Nat) (p : Pkt) (k : Walk) : State :=
  let x := k.exception a
  let plain := excDisp x == 0
  let go (s : State) (p : Pkt) : State :=
    match excDisp x with
    | 1 => s.endPlain n p (.drop (excReason x))
    | 2 => s.endPlain n p (.host (excQueue x) (excReason x))
    | _ => s.classify a n p k
  if k.frag = 0 ∨ (k.frag = 1 ∧ p.fragKey.isSome) then go s p
  else
    match s.fragFind k.key.1 k.key.2 with
    | some (i, e) =>
      if !plain then go s p
      else if e.decided then s.takeDecision p k i e
      else s.holdOrOrphan n p k
    | none =>
      if k.frag = 2 then
        if plain then s.holdOrOrphan n p k else go s p
      else
        let (i, s) := s.fragCreate p k
        go s { p with fragKey := i.map fun i => (i, fragTag k.key.1 k.key.2) }

/-- The parse graph has recorded a PTP header of an event message, messageType 0 to 3 (R398). -/
def Walk.ptpHeader (k : Walk) (b : Bytes) : Bool := k.hdrs.any fun h => h.1 == 0x11 && decide (byteAt b h.2 % 16 ≤ 3)

/-- Count what parsing found (R163). -/
def State.parseCount (s : State) (k : Walk) : State :=
  let flags := (if k.options then [8] else []) ++ (if k.tiny then [9] else [])
  s.parseM fun b => { b with counts := (k.result :: flags).foldl (fun l i => updAt l i sat32) b.counts }

/-- A packet's pass through its slice. -/
def State.pass (s : State) (p : Pkt) : State :=
  let x := nth s.vin.slots p.slot {}
  let k := Sys2Proof.Machine.parse x.arrays s.frag.enable p
  let p := if k.ptpHeader p.bytes then p else { p with stamp := none }
  let s := (s.perf (16 + 2 * p.slice) 0x10 1).parseCount k
  s.afterParse x.arrays x.epoch p k

end Sys2Proof.Machine
end

