-- ==== Sys2Proof/Machine/Ingress.lean ====
section
/-!
DEFINITION. From the ingress cipher unit to the switch core: decryption in arrival order, fetches, distribution rounds, slice passes and timeouts, reorder, residue, and the timers of fragments (R117, R126 to R134, R157, R158, R294, R310, R331, R332, R338).
-/
namespace Sys2Proof.Machine

/-! ## The ingress cipher unit (R294, R297, R298) -/

/-- A frame of the pending-cipher state is discarded with a reason. -/
def State.cipherDiscard (s : State) (g : Nat) (f : LFrame) (reason : Nat) : State :=
  (((s.cipCount g (reason - 0x20)).lbDiscard f.port).perf (2 * g + 1) 0x12 1).fcUpdate f.port

/-- The head of a group's pending frames leaves the unit, and the refs of the SA its lookup found (R305). -/
def State.popPend (s : State) (g : Nat) : State :=
  let s := match (nth s.ing.groups g {}).found with
    | some i => s.saRelease i
    | none => s
  s.ingM fun i => { i with groups := updAt i.groups g fun x => { x with pend := x.pend.drop 1, found := none } }

/-- INGRESS_CIPHER: the unit takes the next frame of its group. -/
def ingressCipher (g : Nat) (s : State) : State :=
  let x := nth s.ing.groups g {}
  if 8 ≤ g || s.pdom (2 + g) != .run || x.stalled.isSome then s
  else
    match x.pend with
    | [] => s
    | f :: _ =>
      match s.inbound f.pkt x.found with
      | (.land p, s) => (s.popPend g).landQueue g { f with pkt := p }
      | (.discard r, s) => (s.popPend g).cipherDiscard g f r
      | (.stall i, s) =>
        let s := if x.found.isSome then s else s.saHold i
        ((s.saM i fun r => { r with fetching := true }).ingM fun y => { y with
          groups := updAt y.groups g fun z => { z with stalled := some i, found := some i } }).cipCount g 15

/-- The groups stalled on an SA go on: the plain-side frames that waited land; `lost` discards their heads, as no way could be had. -/
def State.unstall (s : State) (i : Nat) (lost : Bool) : State :=
  (List.range 8).foldl (fun s g =>
    let x := nth s.ing.groups g {}
    if x.stalled = some i then
      let s := s.ingM fun y => { y with groups := updAt y.groups g fun z => { z with stalled := none, after := [] } }
      let s := x.after.foldl (fun s f => s.landQueue g f) s
      match x.pend with
      | f :: _ => if lost then (s.popPend g).cipherDiscard g f 0x29 else s
      | [] => s
    else s) s

/-- SA_FETCH_DONE: the fetch of a spilled SA completes (R309, R310). -/
def saFetchDone (i : Nat) (s : State) : State :=
  match s.sa i with
  | none => s
  | some r =>
    if !r.fetching then s
    else
      let (o, s) := s.fetchSa i
      ((s.saM i fun r => { r with fetching := false }).unstall i (o == .noWay)).retireDone i

/-- SA_FETCH_RETRY: the requests for the SAs of queue heads, of the packets behind them, and of the frames first at an egress unit are repeated (R300, R310, R373). -/
def saFetchRetry (s : State) : State :=
  let s := s.sched.queues.foldl (fun s (e : Nat × FQueue) =>
    if e.2.en then (e.2.q.take 2).foldl (fun s h => if h.copy.intent != 0 then s.askFetch h.copy.binding else s) s else s) s
  s.cip.egress.foldl (fun s (e : Nat × List Sel) =>
    (e.2.take 1).foldl (fun s x => if x.copy.intent != 0 then s.askFetch x.copy.binding else s) s) s

/-! ## Distribution (R126, R127, R338) -/

/-- Slices a round may fill: in service, in RUN, in ascending number after the one granted last. S0 goes first before any grant, and a round without grants leaves the order as it was. DESIGN CHOICE: R126 speaks of the last grant of the previous round only. -/
def State.openSlices (s : State) : List Nat :=
  ((List.range 8).map fun i => (s.ing.lastSlice + 1 + i) % 8).filter fun k =>
    (s.slice k).st == .inService && !(s.slice k).admitting && s.pdom (10 + k) == .run

/-- A packet is granted to a slice: sequence number, epoch slot, live count. -/
def State.give (s : State) (src k : Nat) (p : Pkt) (again : Bool) : State :=
  let z := nth s.ing.sources src {}
  let slot := if again then p.slot else s.vin.cur
  let p := { p with source := src, seq := z.nextSeq, slot := slot, slice := k, assignClock := s.time.core % 65536 }
  let s := s.sourceM src fun z => { z with nextSeq := (z.nextSeq + 1) % 65536, window := z.window ++ [.busy p.seq] }
  let s := s.sliceM k fun x => { x with held := x.held ++ [(p, false)], passes := x.passes + 1 }
  let s := s.slotM slot fun x => { x with pass := x.pass + 1, recirc := if again then x.recirc - 1 else x.recirc }
  (s.ingM fun i => { i with lastSlice := k }).perf 43 0x10 1

/-- The RECIRC queue a grant comes from: alternately when both are eligible; the last 64 entries of the window are for queue 1 only. -/
def State.recircQueue (s : State) : Option Nat :=
  let n := (nth s.ing.sources 9 {}).window.length
  let a := !s.sched.recirc0.isEmpty && decide (n < 4032)
  let b := !s.sched.recirc1.isEmpty && decide (n < 4096)
  if a && b then some (1 - s.ing.recircLast) else if a then some 0 else if b then some 1 else none

/-- A grant to a packet of the RECIRC column. -/
def State.grantRecirc (s : State) (k : Nat) : Option State :=
  s.recircQueue.bind fun q =>
    let l := if q = 0 then s.sched.recirc0 else s.sched.recirc1
    match l with
    | [] => none
    | e :: r =>
      let b := s.entBytes e
      let s := s.schedM fun x => if q = 0 then { x with recirc0 := r } else { x with recirc1 := r }
      let s := ((s.readOut e).ingM fun i => { i with recircLast := q }).bwmAdd 65 (b.length + 4)
      let s := s.nodeM 65 fun n => { n with selections := sat32 n.selections }
      some ((s.give 9 k { e.copy.pkt with bytes := b } true).perf 43 0x11 1)

/-- A grant to the head of any other source. -/
def State.grantHead (s : State) (src k : Nat) : Option State :=
  if 4096 ≤ (nth s.ing.sources src {}).window.length then none
  else if src < 8 then
    match (nth s.ing.groups src {}).queue with
    | [] => none
    | f :: r =>
      let s := s.ingM fun i => { i with groups := updAt i.groups src fun x => { x with queue := r } }
      some ((s.fcUpdate f.port).give src k f.pkt false)
  else if src = 8 then
    match s.ing.hostQ with
    | [] => none
    | p :: r => some ((s.ingM fun i => { i with hostQ := r }).give 8 k p false)
  else
    match s.ing.twinQ with
    | [] => none
    | p :: r => some (((s.ingM fun i => { i with twinQ := r }).twinM fun t => { t with
        creditBack := t.creditBack + ceilDiv p.rxLen 256 }).give 10 k p false)

/-- Offer a slice to a source; the slices left. -/
def State.offer (a : State × List Nat) (src : Nat) : State × List Nat :=
  match a.2 with
  | [] => a
  | k :: r =>
    match (if src = 9 then a.1.grantRecirc k else a.1.grantHead src k) with
    | some s => (s, r)
    | none => a

/-- DISTRIBUTION_ROUND: one round. `held` says that the counter-update queue is full, so a round of a statistics copy grants nothing (R541). -/
def distributionRound (held : Bool) (s : State) : State :=
  let first := s.ing.ptr
  let s := s.ingM fun i => { i with ptr := (i.ptr + 1) % 11 }
  if !s.mode.mode.forwards && s.mode.mode != .drain && s.mode.mode != .diagnostic && s.mode.mode != .factoryTest then s
  else if held && s.cnt.snap == .copying then (s.cntM fun c => { c with withheld := c.withheld + 1 }).perf 43 0x12 1
  else if !s.distAwake then s
  else
    let order := (List.range 11).flatMap fun i =>
      let src := (first + i) % 11
      if src = 9 then [9, 9] else [src]
    (order.foldl State.offer (s, s.openSlices)).1

/-! ## Slices (R130, R131, R275) -/

/-- The packet a slice has held longest ends its pass; one that has timed out is discarded. -/
def State.passFirst (s : State) (k : Nat) : State :=
  match (s.slice k).held with
  | [] => s
  | (p, late) :: r =>
    let s := s.sliceM k fun x => { x with held := r }
    let s := if late then s.sliceM k fun x => { x with late := sat32 x.late }
      else (s.pass p).slotM p.slot fun x => { x with pass := x.pass - 1 }
    s.sliceDone k

/-- SLICE_PASS. A planted parity error is met at a stage the manual leaves open, and the packet stays where it is (R562, R579). -/
def slicePass (k : Nat) (s : State) : State :=
  if (s.slice k).held.isEmpty then s
  else
    let (bad, t) := s.takePlanted [0x18 + k]
    if bad = 0 then s.passFirst k else t.drawn.fault (0x18 + k) (0x30 + k) 0 (Config.freeValue s.free % 192) 0

/-- The meter and counter updates a pass made before its slice timed out stand (R268). Whether the packet had reached its action by then is a free value, as the spec does not say where a slow pass spends its time; the late packet itself updates nothing more. -/
def State.updatesStand (s : State) (p : Pkt) : State :=
  if Config.freeValue s.free % 2 = 0 then s.drawn
  else
    let t := s.pass p
    let kept := (List.range s.act.counts.length).map fun i => nth (if 5 ≤ i then t.act.counts else s.act.counts) i 0
    ((s.drawn.actM fun a => { a with meters := t.act.meters, counts := kept }).cntM fun _ => t.cnt).ddrM fun _ => t.ddr

/-- SLICE_TIMEOUT: the oldest packet of a slice that has not timed out leaves a hole; a retiring slice that holds no other is done. -/
def sliceTimeout (k : Nat) (s : State) : State :=
  match (s.slice k).held.find? fun h => !h.2 with
  | none => s
  | some (p, _) =>
    let s := s.sliceM k fun x => { x with
      timeouts := satAdd 16 x.timeouts 1
      held := x.held.map fun h => if h.1.source == p.source && h.1.seq == p.seq then (h.1, true) else h }
    let s := ((s.updatesStand p).reorder p (.hole p.seq)).sourceM p.source fun z => { z with holeTimeout := sat32 z.holeTimeout }
    let s := s.slotM p.slot fun x => { x with pass := x.pass - 1 }
    let s := match s.fragOwn p with
      | some i => s.fragRemove i
      | none => s
    (s.sliceDone k).fault (0x10 + k) (0x30 + k) 0 p.distTag 0

/-! ## Reorder and residue (R129, R331, R332) -/

/-- Release up to `n` complete entries of a source. -/
def State.releaseHeads (s : State) (src : Nat) : Nat → State
  | 0 => s
  | n + 1 =>
    let pop (s : State) : State := s.sourceM src fun z => { z with window := z.window.drop 1 }
    match (nth s.ing.sources src {}).window with
    | .hole _ :: _ => State.releaseHeads ((pop s).perf 44 0x11 1) src n
    | .ready _ cs :: _ =>
      (match s.releaseSet src cs with
      | (some t, _) => State.releaseHeads ((pop t).perf 44 0x10 1) src n
      | (none, t) => t)
    | _ => s

/-- REORDER_RELEASE. -/
def reorderRelease (src : Nat) (s : State) : State := s.releaseHeads src 4

/-- The head of a residue list is taken off. -/
def State.popResidue (s : State) (src col : Nat) : State := s.xpM src col fun x => { x with residue := x.residue.drop 1 }

/-- RESIDUE_WRITE: the head of a residue list is written when its test passes. -/
def residueWrite (src col : Nat) (s : State) : State :=
  match s.residueAt src col with
  | [] => s
  | r :: _ =>
    match s.writeCopy src r.copy false false with
    | (.waits, s) => s
    | (_, s) => (s.popResidue src col).endResidue src r

/-- RESIDUE_AGED: the head of a residue list has waited 100 µs. It is dropped, unless its crosspoint passes the credit test in the same tick: then it is written, or waits for its column grant alone (R332, R340). -/
def residueAged (src col : Nat) (s : State) : State :=
  match s.residueAt src col with
  | [] => s
  | r :: _ =>
    if s.time.record.t < r.at_ + 6553600000 then s
    else if s.ready src col then residueWrite src col s
    else ((s.popResidue src col).xpM src col fun x => { x with aged := sat32 x.aged }).endResidue src r

/-! ## Fragment timers (R157, R158) -/

/-- A held fragment leaves the hold: its buffer and its slot are let go. -/
def State.endHeld (s : State) (h : FragHeld) : State :=
  (s.slotM h.pkt.slot fun x => { x with hold := x.hold - 1 }).dropRef 9 h.handle h.owner h.pool 9

/-- The copy of an orphan that goes to the host, with reason 0x19. -/
def State.orphanCopy (s : State) (h : FragHeld) : Copy :=
  let b := (Tbl.lookD (s.col 9).bufs h.handle { owner := 15, pool := 0, refs := 0 }).bytes
  { bytes := b, port := 64, queue := s.frag.orphanQueue, reason := 0x19, pkt := { h.pkt with bytes := b } }

/-- FRAG_HOLD_TIMEOUT: the fragment held longest takes the orphan action once hold_timeout has passed. -/
def fragHoldTimeout (s : State) : State :=
  match s.frag.held with
  | [] => s
  | h :: r =>
    if s.time.record.t < h.at_ + s.frag.timeoutUs * 65536000 then s
    else
      let gone (s : State) : State := ((s.fragM fun f => { f with held := r }).endHeld h).fragCount 5
      if s.frag.orphanHost then
        if !(s.residueAt h.pkt.source 8).isEmpty then s
        else
          match s.writeCopy h.pkt.source (s.orphanCopy h) true false with
          | (.waits, s) => s
          | (_, s) => (gone s).hostReason 0x19
      else (gone s).dropReason 0x19

/-- hold_timeout as the two limits of R158 take it, in ns times 2^16. -/
def Frag.limit (f : Frag) : Nat := (if f.timeoutUs = 0 then 1000 else f.timeoutUs) * 65536000

/-- FRAG_ENTRY_REMOVAL: the entry at a place of the table falls due. -/
def fragEntryRemoval (i : Nat) (s : State) : State :=
  match Tbl.look s.frag.table i with
  | none => s
  | some e =>
    if e.lastUse + s.frag.limit ≤ s.time.record.t then (s.fragRemove i).fragCount 8
    else if e.created + 4 * s.frag.limit ≤ s.time.record.t then (s.fragRemove i).fragCount 9
    else s

/-! ## Commands -/

/-- INGRESS_CIPHER. -/
def execIngressCipher (g : Nat) (s : State) : Host.Outcome State Fault Refusal := (ingressCipher g s).done
/-- SA_FETCH_DONE. -/
def execSaFetchDone (sa : Nat) (s : State) : Host.Outcome State Fault Refusal := (saFetchDone sa s).done
/-- SA_FETCH_RETRY. -/
def execSaFetchRetry (s : State) : Host.Outcome State Fault Refusal := (saFetchRetry s).done
/-- DISTRIBUTION_ROUND. -/
def execDistributionRound (held : Bool) (s : State) : Host.Outcome State Fault Refusal := (distributionRound held s).done
/-- SLICE_PASS. -/
def execSlicePass (k : Nat) (s : State) : Host.Outcome State Fault Refusal := (slicePass k s).done
/-- SLICE_TIMEOUT. -/
def execSliceTimeout (k : Nat) (s : State) : Host.Outcome State Fault Refusal := (sliceTimeout k s).done
/-- REORDER_RELEASE. -/
def execReorderRelease (src : Nat) (s : State) : Host.Outcome State Fault Refusal := (reorderRelease src s).done
/-- RESIDUE_WRITE. -/
def execResidueWrite (src col : Nat) (s : State) : Host.Outcome State Fault Refusal := (residueWrite src col s).done
/-- RESIDUE_AGED. -/
def execResidueAged (src col : Nat) (s : State) : Host.Outcome State Fault Refusal := (residueAged src col s).done
/-- FRAG_HOLD_TIMEOUT. -/
def execFragHoldTimeout (s : State) : Host.Outcome State Fault Refusal := (fragHoldTimeout s).done
/-- FRAG_ENTRY_REMOVAL. -/
def execFragEntryRemoval (i : Nat) (s : State) : Host.Outcome State Fault Refusal := (fragEntryRemoval i s).done

end Sys2Proof.Machine
end

