-- ==== Sys2Proof/Machine/VinEvents.lean ====
section
/-!
DEFINITION. The occurrences of the versioned rule set: epochs retire, commit cycles, the sweep, rebasing passes, and the scrubbing and repair of the associative search banks (R216, R217, R238, R242 to R244).
-/
namespace Sys2Proof.Machine

/-- EPOCH_RETIRE: the epoch of a slot retires, and a commit that waits for a slot goes on. -/
def epochRetire (i : Nat) (s : State) : State :=
  let t := s.retireSlot i
  match t.vin.vint with
  | some v => if v.state == .waitSlot then t.commitWake false else t
  | none => t

/-- Entries of the versioned lookup tables. -/
def State.ruleCount (s : State) : Nat := s.lookup.slots.length + s.lookup.pfx.length + s.tcam.ents.length

/-- SWEEP: the sweeper clears the entries of epochs before the oldest live one. -/
def sweep (s : State) : State :=
  let t := s.sweepAll
  t.perfLookup 0x14 (s.ruleCount - t.ruleCount)

/-- EPOCH_RETIRE. -/
def execEpochRetire (slot : Nat) (s : State) : Host.Outcome State Fault Refusal := (epochRetire slot s).done
/-- COMMIT_CYCLE: the vintage whose cycle is due commits (R238, R240). -/
def execCommitCycle (s : State) : Host.Outcome State Fault Refusal := (s.commitWake false).done
/-- SWEEP. -/
def execSweep (s : State) : Host.Outcome State Fault Refusal := (sweep s).done
/-- REBASING_PASS. -/
def execRebasingPass (s : State) : Host.Outcome State Fault Refusal := s.rebaseAll.done
/-- TCAM_SCRUB. -/
def execTcamScrub (s : State) : Host.Outcome State Fault Refusal := s.tcamScrub.done
/-- TCAM_REPAIR: replica B, or A. -/
def execTcamRepair (b : Bool) (s : State) : Host.Outcome State Fault Refusal := (s.tcamRepair b).done

end Sys2Proof.Machine
end

