-- ==== Sys2Proof/Machine/TwinOwn.lean ====
section
/-!
DEFINITION. Ownership of the cipher side, takeover and the leap, planned handover, and what the loss of Trellis does (R462, R463, R469 to R474).
-/
namespace Sys2Proof.Machine

/-! ## MODE_SET's later replies (R32) -/

/-- Detail of a MODE_SET that has succeeded: previous mode, new mode and the history count. -/
def State.modeDetail (s : State) : Nat := s.mode.prev.code + 16 * s.mode.mode.code + 256 * (s.mode.history % 16777216)

/-- End the pending MODE_SET. -/
def State.modeEnd (s : State) (st : Status) (detail : Nat) : State :=
  (s.modeM fun m => { m with pendingTarget := none }).completePended (fun t => t.opcode == 0x0003) st detail []

/-- Count one in TWIN_STATUS. -/
def State.twinCount (s : State) (i : Nat) : State := s.twinM fun t => { t with counts := updAt t.counts i sat32 }

/-! ## Relayed mailboxes (R476) -/

/-- Send MBX: mailbox number and message. -/
def State.sendMbx (s : State) (m : Nat) : State :=
  s.twinSend 2 0x30 ([by8 m, 0#8, 0#8, 0#8] ++ wordsBytes (nth s.mbx m {}).msg)

/-- Code of a mailbox state (R64). -/
def MbxState.code : MbxState → Nat
  | .empty => 0 | .posted => 1 | .waiting => 2 | .accepted => 3 | .acked => 4

/-- Send MBX_STATE: mailbox, state, MBX_ACK and what is said: 0 report, 1 withdraw, 2 release, 3 withdraw failed, 4 withdrawn. -/
def State.sendMbxState (s : State) (m kind : Nat) : State :=
  let b := nth s.mbx m {}
  s.twinSend 2 0x31 ([by8 m, by8 b.state.code] ++ leBytes 2 b.ack ++ [by8 kind, 0#8, 0#8, 0#8])

/-- An enrolled partner is authenticated: undelivered messages go out, and the receiving side's states are reported. -/
def State.onPaired (s : State) : State :=
  let s := [12, 13].foldl (fun s m => if (nth s.mbx m {}).state == .waiting then s.sendMbx m else s) s
  ([14, 15].foldl (fun s m => s.sendMbxState m 0) s).tryLeave 66

/-! ## Takeover (R470, R471) -/

/-- Enter TAKEOVER: ownership is claimed, the leap sweep starts, and the relayed vintage is settled. -/
def State.takeOver (s : State) (cause : Nat) : State :=
  let s := if s.run.handoverOut then (s.runM fun r => { r with handoverOut := false }).modeEnd .aborted 0 else s
  let s := ((s.goMode .takeover cause).twinCount 5).wakePgs
  let s := s.runM fun r => { r with
    cause := cause, leaping := true, leapt := [], leapSeal := some s.cip.sealCount, leapStale := s.twin.stale, leapWait := none }
  s.claimOwn.takeoverVint

/-- A takeover trigger on a standby that samples OWN_IN deasserted. -/
def State.takeTrigger (s : State) (cause : Nat) : State :=
  if s.mode.mode == .twinStandby && !s.pins.ownIn then s.takeOver cause else s

/-- The engine leaves TWIN_ACTIVE: commands waiting for an ACK complete standalone, and so does a vintage that waits for the twin (R246, R474). -/
def State.leaveActive (s : State) : State :=
  let ws := s.twin.waits
  let s := s.twinM fun t => { t with waits := [], m := [], sent := [] }
  let s := ws.foldl (fun s w => s.ackDone w) s
  let s := if s.cmds.landing then s.noBatch.completePended (fun t => t.opcode == 0x0005) .aborted 0 [] else s
  match s.vin.vint with
  | some v => if v.state == .waitTwin then s.commitAlone else s
  | none => s

/-- TAKEOVER ends in TWIN_ACTIVE or in FORWARD (R472, R473, R481). -/
def State.takeoverEnd (s : State) (active : Bool) : State :=
  let s := s.goMode (if active then .twinActive else .forward) 0x0C
  let s := if active then s.twinGo .inSync 6 else if s.twin.up then s.twinGo .paired 0 else s
  let s := if s.run.handoverIn then s.twinSend 0 0x09 (leBytes 4 (b2n (!active))) else s
  let s := s.runM fun r => { r with leapWait := none, handoverIn := false, askedHandover := false }
  s.completePended (fun t => t.opcode == 0x0C02) .ok 0 []

/-- Leap every resident SA no frame has reached yet; the numbers leapt and closed count outbound SAs. -/
def State.leapRest (s : State) : State :=
  (s.cip.sas.filter fun (e : Nat × SaRes) => !s.run.leapt.contains e.1).foldl (fun s e =>
    match s.ctx e.1 with
    | some a =>
      let (a, s) := s.leapCtx e.1 a
      s.ctxM e.1 fun _ => a
    | none => s) s

/-- Inbound SAs with the replay check on, whose contexts are resident. -/
def State.replaySas (s : State) : List (Nat × Sa) :=
  s.cip.sas.filterMap fun e => match e.2.ctx with
    | some a => if !e.2.outbound && !a.replayOff then some (e.1, a) else none
    | none => none

/-- LEAP_COMPLETE: the sweep ends, cipher-side ports may leave FLUSH, and the engine mirrors every leapt value or enters FORWARD. -/
def leapComplete (s : State) : State :=
  if s.mode.mode != .takeover || !s.run.leaping then s
  else
    let s := s.leapRest
    let n := s.outSas.length
    let (leapt, closed) := if s.run.leapStale then (0, n) else (n, 0)
    let w0 := s.twin.st.code + 256 * s.twin.partnerMode + 65536 * b2n s.twin.stale + 131072 * b2n s.pins.ownIn
    let s := (s.setCause 6).postEvent 0x0C01 s.twin.st.code [wd w0, wd 8, wd leapt, wd closed]
    let s := (s.runM fun r => { r with leaping := false, leapt := [] }).releaseCipher
    if s.twin.up && s.twin.partnerMode == 6 then
      let s := s.outSas.foldl (fun s e => s.sendNumber e.1 e.2) s
      let s := s.replaySas.foldl (fun s e => s.sendWindow e.1 e.2) s
      if s.twin.mirrorSent ≤ s.twin.acked then s.takeoverEnd true
      else s.runM fun r => { r with leapWait := some s.twin.mirrorSent }
    else s.takeoverEnd false

/-! ## Pins and the claim window (R462, R463, R470) -/

/-- OWN_IN rises: while OWN_OUT is high, the frames on cipher-side ports are cut. -/
def State.ownInHigh (s : State) (cutting : List Nat) : State :=
  let s := s.pinsM fun p => { p with ownIn := true }
  if s.pins.ownOut then (cutting.filter fun p => (s.mport p).cipher).foldl (fun s p => (s.cutFrame p).2) s
  else s

/-- OWN_IN_ASSERT: `cutting` names cipher-side ports with a frame in transmission. -/
def ownInAssert (cutting : List Nat) (s : State) : State :=
  if s.pins.ownIn then s
  else
    let s := s.ownInHigh cutting
    if s.run.claim then
      if s.pins.twinId then s.dropOwn.runM fun r => { r with wantOwn := true } else s
    else if s.run.owner && s.pins.ownOut then ((s.fault 0xE0 0xFF 0 0 0).twinCount 9).flushCipher
    else s

/-- OWN_IN_DEASSERT. -/
def ownInDeassert (s : State) : State :=
  if !s.pins.ownIn then s
  else
    let s := s.pinsM fun p => { p with ownIn := false }
    if s.mode.mode == .twinStandby then
      if !s.pins.takeN then s.takeOver 0x0A
      else if s.run.handoverIn || s.run.wantOwn then s.takeOver 0x0B
      else if s.twin.stale && !s.twin.up then s.takeOver 0x09
      else s
    else if s.run.wantOwn then s.claimOwn
    else if s.run.owner then s.releaseCipher
    else s

/-- CLAIM_WINDOW_END: with OWN_IN deasserted throughout, the engine owns the cipher side. -/
def claimWindowEnd (s : State) : State :=
  if s.run.claim && s.pins.ownOut && !s.pins.ownIn then
    (s.runM fun r => { r with claim := false, owner := true }).releaseCipher
  else s

/-- TAKE_N: the level it takes, asserted when low. -/
def takeN (asserted : Bool) (s : State) : State :=
  let s := s.pinsM fun p => { p with takeN := !asserted }
  if asserted then s.takeTrigger 0x0A else s

/-! ## Planned handover (R473) -/

/-- HANDOVER: on a standby a takeover trigger; in TAKEOVER the trigger is ignored (R34), and only the answer at its end is owed (R473); on the active engine the partner's request for one; elsewhere refused. -/
def handover (s : State) : State :=
  if s.mode.mode == .twinActive && s.twin.st == .inSync then s.startHandover
  else if s.mode.mode == .twinStandby then (s.runM fun r => { r with handoverIn := true }).takeTrigger 0x0B
  else if s.mode.mode == .takeover then s.runM fun r => { r with handoverIn := true }
  else s.twinSend 0 0x09 (leBytes 4 1)

/-- HANDOVER_TIMEOUT: OWN_IN has stayed asserted for 1 ms. -/
def handoverTimeout (s : State) : State :=
  if s.run.handoverIn && s.mode.mode == .twinStandby then
    (s.runM fun r => { r with handoverIn := false }).twinSend 0 0x09 (leBytes 4 1)
  else s

/-- The handover this engine started is refused: its MODE_SET ends, and it regains ownership through TAKEOVER, the path R25 gives. -/
def State.handoverRefused (s : State) : State :=
  let s := (s.runM fun r => { r with handoverOut := false, wantOwn := true }).modeEnd .twinRefused 2
  if s.pins.ownIn then s else s.takeTrigger 0x0B

/-- HANDOVER_DONE: the partner has entered TWIN_ACTIVE, or refuses. -/
def handoverDone (ok : Bool) (s : State) : State :=
  if s.run.handoverOut then
    if ok then ((s.runM fun r => { r with handoverOut := false }).twinCount 6).modeEnd .ok s.modeDetail
    else s.handoverRefused
  else if s.run.askedHandover && !ok then
    (s.runM fun r => { r with askedHandover := false }).completePended (fun t => t.opcode == 0x0C02) .twinRefused 2 []
  else s

/-! ## The loss of Trellis (R246, R461, R469, R474, R476, R477) -/

/-- Relayed mailboxes whose message the partner has accepted show WAITING again. -/
def State.mbxCut (s : State) : State :=
  [12, 13].foldl (fun s m => if (nth s.mbx m {}).state == .accepted then s.mbxGo m .waiting 4 else s) s

/-- A SYNC under way, or a standby request, ends with ABORTED. -/
def State.syncCut (s : State) : State :=
  let s := if s.syncing then s.undoVint else s
  let s := s.runM fun r => { r with syncActive := false, syncEnded := false, syncFail := none }
  match s.mode.pendingTarget with
  | some _ => if s.run.handoverOut then s else s.modeEnd .aborted 0
  | none => s

/-- What the mode makes of the loss. -/
def State.lossByMode (s : State) : State :=
  match s.mode.mode with
  | .twinActive => (s.goMode .forward 0x0D).leaveActive
  | .twinStandby =>
    let s := if s.run.handoverOut then (s.runM fun r => { r with handoverOut := false }).modeEnd .twinRefused 2 else s
    let s := s.runM fun r => { r with handoverIn := false }
    if !s.pins.ownIn then s.takeOver 0x09
    else
      let s := s.completePended (fun t => t.opcode == 0x0C02) .twinRefused 2 []
      ((s.twinM fun t => { t with stale := true }).runM fun r => { r with askedHandover := false }).postEvent 0x0C03 0 [1#32]
  | .takeover => if s.run.leapWait.isSome then s.takeoverEnd false else s
  | _ => s

/-- Trellis is lost, with a cause of R461. -/
def State.trellisLost (s : State) (cause : Nat) : State :=
  match s.twin.st with
  | .disabled | .linkDown => s.twinM fun t => { t with linkUp := false }
  | _ =>
    let s := (s.runM fun r => { r with lockWait := [] }).completePended (fun t => t.opcode == 0x0C04) .twinRefused 1 []
    (s.syncCut.mbxCut.twinCut cause false).lossByMode

/-! ## Meanings -/

/-- LEAP_COMPLETE. -/
def execLeapComplete (s : State) : Host.Outcome State Fault Refusal := (leapComplete s).done
/-- OWN_IN_ASSERT. -/
def execOwnInAssert (cutting : List Nat) (s : State) : Host.Outcome State Fault Refusal := (ownInAssert cutting s).done
/-- OWN_IN_DEASSERT. -/
def execOwnInDeassert (s : State) : Host.Outcome State Fault Refusal := (ownInDeassert s).done
/-- CLAIM_WINDOW_END. -/
def execClaimWindowEnd (s : State) : Host.Outcome State Fault Refusal := (claimWindowEnd s).done
/-- TAKE_N. -/
def execTakeN (asserted : Bool) (s : State) : Host.Outcome State Fault Refusal := (takeN asserted s).done
/-- HANDOVER. -/
def execHandover (s : State) : Host.Outcome State Fault Refusal := (handover s).done
/-- HANDOVER_TIMEOUT. -/
def execHandoverTimeout (s : State) : Host.Outcome State Fault Refusal := (handoverTimeout s).done
/-- HANDOVER_DONE. -/
def execHandoverDone (ok : Bool) (s : State) : Host.Outcome State Fault Refusal := (handoverDone ok s).done

end Sys2Proof.Machine
end

