-- ==== Sys2Proof/Machine/TwinLink.lean ====
section
/-!
DEFINITION. The Trellis link, the handshake of two identities, enrolment and heartbeats (R455 to R461, R469, R480).
-/
namespace Sys2Proof.Machine

/-! ## HELLO and PROOF (R459) -/

/-- A message: header and body (R458). -/
def twinMsg (typ : Nat) (body : Bytes) : Bytes := [by8 typ, 0#8] ++ leBytes 2 (4 + body.length) ++ body

/-- What HELLO carries. -/
structure Hello where
  /-- TWIN_ID strap. -/
  twinId : Nat
  /-- Logarithm of its stride. -/
  strideLog2 : Nat
  /-- MICROCODE_ID. -/
  microcode : Nat
  /-- Identity public key. -/
  idX : Nat
  idY : Nat
  /-- Ephemeral public key. -/
  ephX : Nat
  ephY : Nat
  /-- Nonce, 32 bytes. -/
  nonce : Bytes
deriving DecidableEq, Repr

/-- The body of HELLO, 232 bytes. -/
def Hello.body (h : Hello) : Bytes :=
  [by8 h.twinId, by8 h.strideLog2, 0#8, 0#8] ++ leBytes 4 h.microcode ++ beBytes 48 h.idX ++ beBytes 48 h.idY
    ++ beBytes 48 h.ephX ++ beBytes 48 h.ephY ++ bytesAt h.nonce 0 32

/-- HELLO from its body. -/
def Hello.ofBody (b : Bytes) : Hello :=
  { twinId := byteAt b 0, strideLog2 := byteAt b 1, microcode := leNat (bytesAt b 4 4), idX := beAt b 8 48, idY := beAt b 56 48
    ephX := beAt b 104 48, ephY := beAt b 152 48, nonce := bytesAt b 200 32 }

/-- This engine's identity private key. -/
def identityScalar : Nat := P384.scalar Config.identityKey

/-- Start a handshake with a cause: state AUTH, a fresh ephemeral key and nonce, and HELLO. -/
def State.beginAuth (s : State) (cause : Nat) : State :=
  let n := s.twin.shakes
  let e := P384.scalar (Config.ephemeralDraw n)
  let idk := P384.pub identityScalar
  let epk := P384.pub e
  let h : Hello := { twinId := b2n s.pins.twinId, strideLog2 := s.twin.strideLog2, microcode := Config.microcodeId, idX := idk.1, idY := idk.2
                     ephX := epk.1, ephY := epk.2, nonce := Config.nonceDraw n }
  let msg := twinMsg 1 h.body
  let s := s.twinM fun t => { t with shakes := n + 1, ephemeral := e, myHello := msg, partnerHello := none, keys := none }
  (s.twinGo .auth cause).emit (.trellis msg (trellisClear msg))

/-- The handshake fails. -/
def State.authFail (s : State) : State :=
  let s := (s.twinCount 7).twinM fun t => { t with partnerHello := none, keys := none, ephemeral := 0 }
  (s.fault 0xE1 0x22 0 0 0).twinGo .authFailed 4

/-- The transcript T, once both HELLO messages are known. -/
def Twin.transcript (t : Twin) (high : Bool) : Bytes :=
  let other := t.partnerHello.getD []
  Sha.sha384 (if high then other ++ t.myHello else t.myHello ++ other)

/-- A HELLO that is well formed and does not come from an engine with the same TWIN_ID. -/
def helloOk (mine : Bool) (b : Bytes) : Bool :=
  let h := Hello.ofBody b
  b.length == 232 && h.twinId == b2n (!mine) && decide (9 ≤ h.strideLog2) && decide (h.strideLog2 ≤ 16)
    && P384.onCurve h.idX h.idY && P384.onCurve h.ephX h.ephY

/-- HELLO received: PROOF is sent, or the handshake fails. -/
def hello (b : Bytes) (s : State) : State :=
  if s.twin.st != .auth then s
  else if !helloOk s.pins.twinId b then s.authFail
  else
    let s := s.twinM fun t => { t with partnerHello := some (twinMsg 1 b), partnerStride := (Hello.ofBody b).strideLog2 }
    let m := s.twin.transcript s.pins.twinId ++ [by8 (b2n s.pins.twinId)]
    let (r, v) := P384.sign identityScalar (P384.scalar (Config.ecdsaNonce s.free)) m
    let msg := twinMsg 2 (beBytes 48 r ++ beBytes 48 v)
    s.drawn.emit (.trellis msg (trellisClear msg))

/-- Session keys for directions 0 and 1, from the shared secret and the transcript. -/
def sessionKeys (z t : Bytes) : Bytes × Bytes :=
  let okm := Sha.hkdf z t [0x47#8, 0x58#8, 0x39#8, 0x36#8, 0x30#8, 0x2D#8, 0x54#8, 0x52#8, 0x45#8, 0x4C#8, 0x4C#8, 0x49#8, 0x53#8] 64
  (okm.take 32, okm.drop 32)

/-- PROOF received: verified, the session keys are derived and the enrolment is checked (R459, R460). -/
def proof (b : Bytes) (s : State) : State :=
  if s.twin.st != .auth then s
  else
    match s.twin.partnerHello with
    | none => s.authFail
    | some ph =>
      let h := Hello.ofBody (ph.drop 4)
      let t := s.twin.transcript s.pins.twinId
      if b.length = 96 ∧ P384.verify h.idX h.idY (t ++ [by8 h.twinId]) (beAt b 0 48) (beAt b 48 48) then
        let z := P384.ecdh s.twin.ephemeral h.ephX h.ephY
        let f := P384.fingerprint h.idX h.idY
        let s := s.twinM fun k => { k with
          keys := some (sessionKeys z t), fingerprint := some f, ephemeral := 0, txCounter := 0, rxCounter := 0, mirrorSent := 0
          acked := 0, applied := 0, sent := [], credits := 1024, creditBack := 0, misses := 0, hbRx := none, hbSent := [] }
        if s.book.marker.fingerprint = some f then (s.twinGo .paired 1).onPaired
        else (s.twinGo .stranger 1).postEvent 0x0C02 0 (bytesWords f)
      else s.authFail

/-- HANDSHAKE_RETRY: 100 ms after a failed handshake. -/
def handshakeRetry (s : State) : State := if s.twin.st == .authFailed && s.twin.linkUp then s.beginAuth 1 else s

/-- HANDSHAKE_TIMEOUT: HELLO or PROOF is missing. -/
def handshakeTimeout (s : State) : State := if s.twin.st == .auth then s.authFail else s

/-! ## The link (R455, R457) -/

/-- TRELLIS_LINK_UP. -/
def trellisLinkUp (s : State) : State :=
  if !s.twin.en || s.twin.linkUp || !s.mode.mode.isUp || s.mode.mode == .safe then s
  else
    let s := s.twinM fun t => { t with linkUp := true }
    if s.twin.st == .linkDown then s.beginAuth 1 else s

/-- TRELLIS_LINK_DOWN. -/
def trellisLinkDown (s : State) : State := if s.twin.linkUp then s.trellisLost 2 else s

/-- TRELLIS_FRAME: channel, counter and credit of its header, and whether its FCS and its tag hold. -/
def trellisFrame (counter credit : Nat) (fcsOk tagOk : Bool) (s : State) : State :=
  if !s.twin.linkUp then s
  else if fcsOk && counter == 0 then s
  else if fcsOk && tagOk && s.twin.keys.isSome && counter == s.twin.rxCounter + 1 && decide (counter < 2 ^ 63) then
    (s.twinM fun t => { t with rxCounter := counter, credits := t.credits + credit }).perfTrellis 0x11 1
  else ((s.twinCount 8).fault 0xE2 0x22 0 counter 0).trellisLost 5

/-! ## Heartbeats (R469) -/

/-- The body of a heartbeat. -/
def State.heartbeatBody (s : State) : Bytes :=
  let t := s.twin
  let req := s.mode.pendingTarget == some Mode.twinStandby && s.mode.mode == .config
  let (q, ns) := match t.hbRx with
    | some (q, at_) => (q, (s.time.record.t - at_) / 65536)
    | none => (0, 0)
  leBytes 4 t.hbSeq
    ++ [by8 (s.mode.mode.code + 16 * b2n s.pins.ownOut + 32 * b2n t.stale + 64 * b2n req + 128 * b2n t.hairpin), by8 t.st.code, 0#8, 0#8]
    ++ leBytes 4 q ++ leBytes 4 ns ++ leBytes 8 t.applied ++ leBytes 8 s.ns

/-- HEARTBEAT_SEND. -/
def heartbeatSend (s : State) : State :=
  if s.twin.keys.isNone then s
  else
    let s := s.twinM fun t => { t with hbSeq := (t.hbSeq + 1) % 4294967296 }
    let s := s.twinSend 0 0x03 s.heartbeatBody
    s.twinM fun t => { t with hbSent := ((t.hbSeq, s.time.record.t) :: t.hbSent).take 16 }

/-- HEARTBEAT received: the partner's mode and settings, and the round trip. A partner no longer in TWIN_STANDBY ends TWIN_ACTIVE (R30), and a takeover that waits for its ACK (R25, R472). -/
def heartbeat (b : Bytes) (s : State) : State :=
  if s.twin.keys.isNone then s
  else
    let f := byteAt b 4
    let q := leNat (bytesAt b 8 4)
    let now := s.time.record.t
    let rtt := match s.twin.hbSent.find? fun e => e.1 == q with
      | some (_, t0) => (now - t0) / 65536 - leNat (bytesAt b 12 4)
      | none => s.twin.rtt
    let was := s.twin.partnerHairpin
    let s := s.twinM fun t => { t with
      hbRx := some (leNat (bytesAt b 0 4), now), misses := 0, rtt := rtt
      partnerMode := f % 16, partnerReq := nbit f 6, partnerHairpin := nbit f 7 }
    let s := if f % 16 = 6 then s
      else if s.mode.mode == .twinActive then ((s.goMode .forward 0x14).leaveActive).twinGo .paired 0
      else if s.mode.mode == .takeover && s.run.leapWait.isSome then s.takeoverEnd false
      else s
    if was = s.twin.partnerHairpin then s
    else if s.mayRun 66 then s.tryLeave 66 else s.enterFlush 66

/-- HEARTBEAT_MISSED: the third consecutive miss loses Trellis. -/
def heartbeatMissed (s : State) : State :=
  if s.twin.keys.isNone then s
  else
    let s := (s.twinCount 0).twinM fun t => { t with misses := t.misses + 1 }
    if 3 ≤ s.twin.misses then s.trellisLost 3 else s

/-! ## Meanings -/

/-- TRELLIS_LINK_UP. -/
def execTrellisLinkUp (s : State) : Host.Outcome State Fault Refusal := (trellisLinkUp s).done
/-- TRELLIS_LINK_DOWN. -/
def execTrellisLinkDown (s : State) : Host.Outcome State Fault Refusal := (trellisLinkDown s).done
/-- TRELLIS_FRAME. -/
def execTrellisFrame (counter credit : Nat) (fcsOk tagOk : Bool) (s : State) : Host.Outcome State Fault Refusal :=
  (trellisFrame counter credit fcsOk tagOk s).done
/-- HELLO. -/
def execHello (body : Bytes) (s : State) : Host.Outcome State Fault Refusal := (hello body s).done
/-- PROOF. -/
def execProof (body : Bytes) (s : State) : Host.Outcome State Fault Refusal := (proof body s).done
/-- HANDSHAKE_RETRY. -/
def execHandshakeRetry (s : State) : Host.Outcome State Fault Refusal := (handshakeRetry s).done
/-- HANDSHAKE_TIMEOUT. -/
def execHandshakeTimeout (s : State) : Host.Outcome State Fault Refusal := (handshakeTimeout s).done
/-- HEARTBEAT_SEND. -/
def execHeartbeatSend (s : State) : Host.Outcome State Fault Refusal := (heartbeatSend s).done
/-- HEARTBEAT. -/
def execHeartbeat (body : Bytes) (s : State) : Host.Outcome State Fault Refusal := (heartbeat body s).done
/-- HEARTBEAT_MISSED. -/
def execHeartbeatMissed (s : State) : Host.Outcome State Fault Refusal := (heartbeatMissed s).done

end Sys2Proof.Machine
end

