-- ==== Sys2Proof/Machine/TwinMirror.lean ====
section
/-!
DEFINITION. The mirror: numbers, windows, contexts, bindings, SCI entries, retirements and ports received, the full mirror and its result, and the relayed vintage (R245 to R247, R458, R464 to R468).
-/
namespace Sys2Proof.Machine

/-! ## Mirror messages received (R465 to R468) -/

/-- Mirror messages are applied: on a standby, and on the standby side of a full mirror. -/
def State.applies (s : State) : Bool := s.twin.keys.isSome && (s.mode.mode == .twinStandby || s.syncing)

/-- A mirror message with counter `k` is applied, or refused with a status and a detail: ACK goes back. -/
def State.acks (s : State) (k : Nat) (refused : Option (Nat × Nat)) : State :=
  let s := (s.twinCount 2).twinM fun t => { t with applied := max t.applied k }
  let s := match refused with
    | some x => if s.syncing && s.run.syncFail.isNone then s.runM fun r => { r with syncFail := some x } else s
    | none => s
  s.twinSend 0 0x04 (leBytes 8 s.twin.applied ++ match refused with
    | some (st, _) => leBytes 4 st
    | none => [])

/-- The SA is resident: at once, or fetched. -/
def State.resident (s : State) (i : Nat) : Bool × State :=
  match s.fetchSa i with
  | (.here, s) => (true, s)
  | (_, s) => (false, s)

/-- NUMBER: the SA's pn is the value carried. -/
def numberMsg (k : Nat) (b : Bytes) (s : State) : State :=
  if !s.applies then s
  else
    let i := leNat (bytesAt b 0 3) % 4194304
    let f := byteAt b 3
    let (ok, s) := s.resident i
    let s := if ok && ((s.ctx i).map Sa.outbound) == some true then
        s.ctxM i fun a => { a with pn := leNat (bytesAt b 4 8), thrRaised := nbit f 0, exhausted := nbit f 1, frozen := nbit f 2 }
      else s
    s.acks k none

/-- A window merged with a record's H and bits (R468). -/
def Sa.merge (a : Sa) (h bits : Nat) : Sa :=
  let w := 2 ^ a.windowBits
  let d := h - a.pn
  let win := if a.windowBits ≤ d then w - 1 else (a.window * 2 ^ d + (2 ^ d - 1)) % w
  let top := max h a.pn
  let rec_ := if a.windowBits ≤ top - h then 0 else bits * 2 ^ (top - h) % w
  { a with pn := top, window := win ||| rec_ }

/-- WINDOW: in every twin mode but TAKEOVER. -/
def windowMsg (k : Nat) (b : Bytes) (s : State) : State :=
  if !s.applies && !(s.twin.keys.isSome && s.mode.mode == .twinActive) then s
  else
    let i := leNat (bytesAt b 0 4)
    let (ok, s) := s.resident i
    let s := if ok && ((s.ctx i).map fun a => !a.outbound && !a.replayOff) == some true then
        s.ctxM i fun a => a.merge (leNat (bytesAt b 4 8)) (leNat (b.drop 12))
      else s
    s.acks k none

/-- CONTEXT: an SA of the active engine, in the place of one with its index. -/
def contextMsg (k : Nat) (b : Bytes) (s : State) : State :=
  if !s.applies then s
  else
    let i := leNat (bytesAt b 0 4) % 4194304
    let a := Sa.ofBytes (bytesAt b 4 104) (leNat (bytesAt b 108 128))
    match s.sa i with
    | some _ =>
      let (ok, s) := s.resident i
      if ok then
        let s := (s.ctxM i fun _ => a).saM i fun r => { r with pin := a.pin, wasBound := a.wasBound, includeSci := a.includeSci }
        s.acks k none
      else s.acks k (some (7, 4))
    | none =>
      match s.placeSa i a with
      | .error d => s.acks k (some (7, d))
      | .ok (_, s) => s.acks k none

/-- BINDING: the entry, with the local generation of its SA; the SA the binding leaves is frozen. -/
def bindingMsg (k : Nat) (b : Bytes) (s : State) : State :=
  if !s.applies then s
  else
    let n := leNat (bytesAt b 0 4) % 65536
    let e := b.drop 4
    let x := leNat (bytesAt e 0 4)
    let i := x % 4194304
    let f := byteAt e 3
    let gen := ((s.sa i).map (·.generation)).getD 0
    let new : Binding := { sa := i, valid := nbit x 22, group := f % 8, esp := nbit f 3, tunnel := nbit f 4, udp := nbit f 5, generation := gen }
    let old := s.binding n
    let s := s.cipM fun c => { c with bindings := Tbl.put c.bindings n new }
    let s := if new.valid then (s.saM i fun r => { r with wasBound := true }).ctxM i fun a => { a with wasBound := true } else s
    let s := match old with
      | some o => if o.valid && (!new.valid || o.sa != i) then s.freezeSa o.sa else s
      | none => s
    s.acks k none

/-- SCI: the entry with its four slots, each with the local generation. -/
def sciMsg (k : Nat) (b : Bytes) (s : State) : State :=
  if !s.applies then s
  else
    let slot (j : Nat) : Option (Nat × Nat) :=
      let x := leNat (bytesAt b (12 + 4 * j) 4)
      let i := x % 4194304
      if nbit x 22 then some (i, ((s.sa i).map (·.generation)).getD 0) else none
    let e : SciEnt := { group := byteAt b 0 % 8, port := byteAt b 1 % 64, sci := beAt b 4 8, slots := (List.range 4).map slot }
    let s := s.cipM fun c =>
      let l := c.sci.filter fun x => !(x.group == e.group && x.port == e.port && x.sci == e.sci)
      { c with sci := if e.slots.any Option.isSome then l ++ [e] else l }
    s.acks k none

/-- RETIRE: the SA is retired here too (R307). -/
def retireMsg (k : Nat) (b : Bytes) (s : State) : State :=
  if !s.applies then s
  else
    let i := leNat (bytesAt b 0 4) % 4194304
    ((s.clearSci i).saM i fun r => { r with retiring := true }).acks k none

/-- PORT: the CIPHER_PORT_SET word of a port. -/
def portMsg (k : Nat) (b : Bytes) (s : State) : State :=
  if !s.applies then s
  else
    let p := leNat (bytesAt b 0 4) % 64
    let w := wd (leNat (bytesAt b 4 4))
    (s.cipM fun c => { c with ports := Tbl.put c.ports p { accept := w.fld 1 0, landUnprotected := w.bit 2 } }).acks k none

/-- ACK: highest counter applied; with a status when the message of that counter was refused. -/
def ackMsg (counter : Nat) (refused : Option Nat) (s : State) : State :=
  if s.twin.keys.isNone then s
  else
    let s := s.takeAck counter refused
    match s.run.leapWait with
    | some c => if s.mode.mode == .takeover && decide (c ≤ s.twin.acked) then s.takeoverEnd true else s
    | none => s

/-! ## The full mirror (R464) -/

/-- A packet the engine makes for a staged command. -/
def stagePkt (obj : Nat) (params : List Word) : Packet :=
  { path := .tunnel, flags := 0#8, format := 1#8, tag := 0#16, plen := BitVec.ofNat 16 params.length, objectId := wd obj
    handle := 0#32, params := params }

/-- Segment fields of a definition, two to a word, the length at bits [8 + :] of each half. -/
def segWords (segs : List (Nat × Nat)) (n : Nat) : List Word :=
  (List.range n).map fun i =>
    let (o0, l0) := nth segs (2 * i) (0, 0)
    let (o1, l1) := nth segs (2 * i + 1) (0, 0)
    wd (o0 + 256 * l0 + 65536 * o1 + 16777216 * l1)

/-- The command that defines an exact-match table. -/
def EmDef.words (d : EmDef) : List Word :=
  [wd (1 + 2 * b2n d.wide + 256 * d.keyLen), wd (d.base + 256 * d.k), d.seed0, d.seed1] ++ segWords d.segs 4

/-- The command that defines a search group. -/
def TcamGroup.words (g : TcamGroup) : List Word :=
  [wd (1 + 2 * b2n g.multi + 4 * g.width), wd g.banks, wd (g.banks / 4294967296)]
    ++ ((List.range 8).map fun i => wd (sumL ((List.range 8).map fun j => nth g.prio (8 * i + j) 0 * 16 ^ j))) ++ segWords g.segs 8

/-- Staged commands that recreate the register arrays of an epoch. -/
def Arrays.commands (a : Arrays) : List (Nat × Packet) :=
  (a.states.map fun e => (0x0201, stagePkt e.1 e.2)) ++ (a.trans.map fun e => (0x0202, stagePkt e.1 e.2))
    ++ [(0x0203, stagePkt 0 ((List.range 16).map fun i => nth a.except i 0#32))]
    ++ (a.em.map fun e => (0x0300, stagePkt e.1 e.2.words))
    ++ (a.realms.map fun e => (0x0310, stagePkt e.1 [wd (0x80000000 + e.2)]))
    ++ (a.profiles.map fun e => (0x0320, stagePkt e.1 e.2))
    ++ [(0x0321, stagePkt 0 ((List.range 16).map fun i => nth a.map i 0#32))]
    ++ (a.groups.map fun e => (0x0401, stagePkt e.1 e.2.words))
    ++ (a.tcamEn.map fun e => (0x0402, stagePkt e.1 [wd e.2]))
    ++ [(0x0608, stagePkt 0 [wd a.bypass])]

/-- Staged commands that recreate every entry visible in the current epoch. -/
def State.entryCommands (s : State) : List (Nat × Packet) :=
  let n := s.epoch
  let a := s.curSlot.arrays
  let ts := (s.act.tmpls.filter fun e => visible e.2.birth e.2.death e.2.deathSet n).map fun e =>
    (0x0603, stagePkt e.1 (wd e.2.len :: bytesWords (bytesAt e.2.data 0 128)))
  let hs := (s.act.hops.filter fun e => visible e.2.birth e.2.death e.2.deathSet n).map fun e => (0x0605, stagePkt e.1 e.2.words)
  let cs := (s.act.acts.filter fun e => visible e.2.birth e.2.death e.2.deathSet n).map fun e => (0x0600, stagePkt e.1 e.2.words)
  let ms := (List.range 16).filterMap fun i => (s.mirrorAt i n).map fun w => (0x0607, stagePkt i w)
  let em := a.em.flatMap fun (t : Nat × EmDef) =>
    ((s.emEntries t.2).filter fun e => visible e.2.birth e.2.death e.2.deathSet n).map fun e =>
      (0x0301, stagePkt t.1 (wd e.2.action :: bytesWords (bytesAt e.2.key 0 (if t.2.wide then 40 else 16))))
  let px := (s.lookup.pfx.filter fun x => visible x.birth x.death x.deathSet n).map fun x =>
    (0x0311, stagePkt x.realm ([wd (x.len + 256 * b2n x.v6), wd x.action] ++ bytesWords (bytesAt (beBytes (famBits x.v6 / 8) x.addr) 0 16)))
  let tc := (s.tcam.ents.filter fun e => visible e.2.birth e.2.death e.2.deathSet n).map fun e =>
    (0x0403, stagePkt (e.1 / 2048 * 65536 + e.1 % 2048) (wd e.2.action :: (bytesWords e.2.key ++ bytesWords e.2.mask)))
  ts ++ hs ++ cs ++ ms ++ em ++ px ++ tc

/-- A spilled SA opened for the mirror; a record older than a takeover leaps and is sealed again (R471). -/
def State.openMirror (s : State) (i : Nat) : Option Sa × State :=
  match s.openRec i with
  | (none, s) => (none, s)
  | (some (n, a), s) =>
    match s.run.leapSeal with
    | some k =>
      if n ≤ k then
        let (a, s) := s.leapCtx i a
        (some a, s.sealSa i a)
      else (some a, s)
    | none => (some a, s)

/-- Send every installed SA with its key and window; a spilled one is opened for it. -/
def State.sendSas (s : State) : State :=
  s.cip.sas.foldl (fun s e =>
    match e.2.ctx with
    | some a => s.sendContext e.1 a
    | none =>
      if e.2.lost then s
      else
        match s.openMirror e.1 with
        | (some a, s) => s.sendContext e.1 a
        | (none, s) => s.loseSpilled e.1) s

/-- MODE_SET to TWIN_ACTIVE: SYNC_BEGIN, and the full mirror after it. -/
def State.startSync (s : State) : State :=
  let s := (s.wakePgs.runM fun r => { r with syncActive := true, syncEnded := false, syncFail := none }).twinGo .sync 0
  let s := s.twinSend 0 0x05 (leBytes 4 s.epoch)
  let s := (s.curSlot.arrays.commands ++ s.entryCommands).foldl (fun s e => s.twinSend 0 0x11 (embedBytes e.1 e.2)) s
  let s := s.sendSas
  let s := (Tbl.keys s.cip.bindings).foldl (fun s b => s.sendBinding b) s
  let s := s.cip.sci.foldl (fun s (e : SciEnt) => s.sendSci e.group e.port e.sci) s
  (Tbl.keys s.cip.ports).foldl (fun s p => s.sendPort p) s

/-- FULL_MIRROR_SENT: SYNC_END. -/
def fullMirrorSent (s : State) : State :=
  if s.twin.st == .sync && s.run.syncActive && !s.run.syncEnded then
    (s.runM fun r => { r with syncEnded := true }).twinSend 0 0x06 []
  else s

/-- Everything the mirror replaces is cleared, and the mirrored epoch is opened for staging. -/
def State.syncEnter (s : State) (epoch : Nat) : State :=
  let s := s.wakePgs.lookupM fun k => { k with slots := [], reserved := [], pfx := [] }
  let s := s.tcamM fun t => { t with ents := [], diffA := [], diffB := [], shadowErr := [], commits := [], repairA := [], repairB := [] }
  let s := s.actM fun a => { a with
    acts := [], tmpls := [], hops := [], mirrors := [], bindRefs := []
    meters := Tbl.mapV a.meters fun _ m => { m with refs := 0 } }
  let s := s.cipM fun k => { k with sas := [], bindings := [], sci := [] }
  let s := s.vinM fun v => { v with vint := some { handle := epoch, n := epoch, state := .opened, arrays := {} }, regions := [] }
  let s := s.schedM fun k => { k with refDeath := [] }
  let s := s.schedM fun k => { k with refs := (Tbl.mapV k.refs fun q _ => s.trueQueueRefs q).filter fun e => e.2 != 0 }
  (s.runM fun r => { r with syncActive := false, syncEnded := false, syncFail := none }).twinGo .sync 0

/-- SYNC_RESULT sent. -/
def State.sendResult (s : State) (st detail : Nat) : State := s.twinSend 0 0x07 (leBytes 4 st ++ leBytes 4 detail)

/-- SYNC_BEGIN received, with the epoch to be mirrored. -/
def syncBegin (epoch : Nat) (s : State) : State :=
  if s.twin.keys.isNone then s
  else if s.twin.st == .sync && s.run.syncActive then
    if s.pins.twinId then
      (((s.runM fun r => { r with syncActive := false, syncEnded := false }).twinGo .paired 7).modeEnd .twinRefused 6).sendResult 14 2
    else s
  else if s.mode.mode == .config && s.mode.pendingTarget == some Mode.twinStandby && s.twin.st == .paired
      && decide (1 ≤ epoch) && decide (epoch ≤ 0xFFFF) then s.syncEnter epoch
  else s.sendResult 14 2

/-- What the standby finds when it checks the mirror: nothing, or a status and a detail. -/
def State.syncCheck (s : State) (v : Vintage) : Option (Nat × Nat) :=
  if v.diverged then some (10, 2)
  else
    match s.run.syncFail with
    | some x => some x
    | none => (s.commitCheck v).map fun e => (10, e.1 + 256 * e.2)

/-- The mirrored epoch is the one live epoch of the standby. -/
def State.syncAdopt (s : State) (v : Vintage) : State :=
  s.vinM fun k => { k with
    cur := 0, slots := [{ live := true, epoch := v.n, arrays := v.arrays, commitNs := s.ns32 }, {}, {}, {}]
    vint := none, regions := [] }

/-- A full mirror has completed: the stale flag clears (R469). -/
def State.mirrorDone (s : State) : State :=
  if s.twin.stale then (s.twinM fun t => { t with stale := false }).postEvent 0x0C03 0 [0#32] else s

/-- SYNC_END received: the standby checks what it holds and answers. -/
def syncEnd (s : State) : State :=
  if !s.syncing then s
  else
    match s.vin.vint with
    | none => s
    | some v =>
      match s.syncCheck v with
      | none =>
        let s := (((s.sendResult 0 0).syncAdopt v).goMode .twinStandby 0x12).twinGo .inSync 6
        (s.modeEnd .ok s.modeDetail).mirrorDone
      | some (st, d) =>
        (((s.sendResult st d).undoVint).twinGo .paired 7).modeEnd .twinRefused (4 + 256 * st + 65536 * (d % 65536))

/-- SYNC_RESULT received by the active-to-be. -/
def syncResult (st d : Nat) (s : State) : State :=
  if s.twin.st != .sync || !s.run.syncActive then s
  else
    let s := s.runM fun r => { r with syncActive := false, syncEnded := false }
    if st = 0 then
      let s := ((s.goMode .twinActive 0x12).twinGo .inSync 6).claimOwn
      (s.modeEnd .ok s.modeDetail).mirrorDone
    else
      let s := (s.twinGo .paired 7).modeEnd .twinRefused (4 + 256 * (st % 256) + 65536 * (d % 65536))
      s.twinM fun t => { t with m := [], sent := [] }

/-! ## The relayed vintage (R30, R245 to R247) -/

/-- A vintage message on an engine that is no standby is refused (R30). -/
def State.onStandby (s : State) (handle : Nat) (f : State → State) : State :=
  if s.twin.keys.isNone then s
  else if s.mode.mode == .twinStandby then f s
  else s.refuseVint handle 1 0

/-- VINTAGE_OPEN. -/
def vintageOpen (handle : Nat) (s : State) : State := s.onStandby handle fun s => s.standbyOpen handle

/-- VINTAGE_STAGE: the staged command as R250 embeds it. -/
def vintageStage (ws : List Word) (s : State) : State :=
  let (op, c) := embedded (stagePkt 0 []) ws
  if s.syncing then
    let t := s.standbyStage op c
    t.vintM fun v => { v with ops := 0 }
  else s.onStandby 0 fun s => s.standbyStage op c

/-- PREPARE. -/
def prepare (handle ops : Nat) (digest : Word) (at_ : Option Nat) (s : State) : State :=
  s.onStandby handle fun s => s.standbyPrepare handle ops digest at_

/-- VINTAGE_COMMIT. -/
def vintageCommit (handle : Nat) (s : State) : State := s.onStandby handle fun s => s.standbyCommit handle

/-- VINTAGE_ABORT. -/
def vintageAbort (handle : Nat) (s : State) : State := s.onStandby handle fun s => s.standbyAbort handle

/-! ## Meanings -/

/-- NUMBER. -/
def execNumber (k : Nat) (body : Bytes) (s : State) : Host.Outcome State Fault Refusal := (numberMsg k body s).done
/-- WINDOW. -/
def execWindow (k : Nat) (body : Bytes) (s : State) : Host.Outcome State Fault Refusal := (windowMsg k body s).done
/-- CONTEXT. -/
def execContext (k : Nat) (body : Bytes) (s : State) : Host.Outcome State Fault Refusal := (contextMsg k body s).done
/-- BINDING. -/
def execBinding (k : Nat) (body : Bytes) (s : State) : Host.Outcome State Fault Refusal := (bindingMsg k body s).done
/-- SCI. -/
def execSci (k : Nat) (body : Bytes) (s : State) : Host.Outcome State Fault Refusal := (sciMsg k body s).done
/-- RETIRE. -/
def execRetire (k : Nat) (body : Bytes) (s : State) : Host.Outcome State Fault Refusal := (retireMsg k body s).done
/-- PORT. -/
def execPort (k : Nat) (body : Bytes) (s : State) : Host.Outcome State Fault Refusal := (portMsg k body s).done
/-- SYNC_BEGIN. -/
def execSyncBegin (epoch : Nat) (s : State) : Host.Outcome State Fault Refusal := (syncBegin epoch s).done
/-- SYNC_END. -/
def execSyncEnd (s : State) : Host.Outcome State Fault Refusal := (syncEnd s).done
/-- SYNC_RESULT. -/
def execSyncResult (status detail : Nat) (s : State) : Host.Outcome State Fault Refusal := (syncResult status detail s).done
/-- FULL_MIRROR_SENT. -/
def execFullMirrorSent (s : State) : Host.Outcome State Fault Refusal := (fullMirrorSent s).done
/-- VINTAGE_OPEN. -/
def execVintageOpen (handle : Nat) (s : State) : Host.Outcome State Fault Refusal := (vintageOpen handle s).done
/-- VINTAGE_STAGE. -/
def execVintageStage (words : List Word) (s : State) : Host.Outcome State Fault Refusal := (vintageStage words s).done
/-- PREPARE. -/
def execPrepare (handle ops : Nat) (digest : Word) (at_ : Option Nat) (s : State) : Host.Outcome State Fault Refusal :=
  (prepare handle ops digest at_ s).done
/-- READY. -/
def execReady (handle : Nat) (s : State) : Host.Outcome State Fault Refusal := (s.activeReady handle).done
/-- REFUSE. -/
def execRefuse (handle detail index : Nat) (s : State) : Host.Outcome State Fault Refusal := (s.activeRefuse handle detail index).done
/-- VINTAGE_COMMIT. -/
def execVintageCommit (handle : Nat) (s : State) : Host.Outcome State Fault Refusal := (vintageCommit handle s).done
/-- VINTAGE_ABORT. -/
def execVintageAbort (handle : Nat) (s : State) : Host.Outcome State Fault Refusal := (vintageAbort handle s).done

end Sys2Proof.Machine
end

