-- ==== Sys2Proof/Machine/TwinCmds.lean ====
section
/-!
DEFINITION. Relayed mailboxes and locks, hairpin frames received, and the commands of class 0x0C (R71, R72, R475 to R484).
-/
namespace Sys2Proof.Machine

/-! ## Locks (R71, R72) -/

/-- An attempt to acquire a lock: RESULT, OWNER and the state. -/
def State.lockRead (s : State) (n master : Nat) : Nat × Nat × State :=
  match nth s.locks n none with
  | none => (1, master, s.locksM fun l => updAt l n fun _ => some master)
  | some o => if o = master then (3, o, s) else (2, o, s)

/-- A release without FORCE: only the holder's is heard. -/
def State.lockFree (s : State) (n master : Nat) : State :=
  if nth s.locks n none = some master then s.locksM fun l => updAt l n fun _ => none else s

/-- A partner that is authenticated and enrolled. -/
def State.partnered (s : State) : Bool := s.twin.up && s.twin.keys.isSome

/-- LOCK_REQ: op 0 acquires, 1 releases, as master 3. -/
def lockReq (lock op : Nat) (s : State) : State :=
  if !s.partnered || !decide (lock < 32) then s
  else if op = 0 then
    let (r, o, s) := s.lockRead lock 3
    s.twinSend 2 0x33 [by8 lock, 0#8, by8 r, by8 o]
  else (s.lockFree lock 3).twinSend 2 0x33 [by8 lock, 1#8, 0#8, 0#8]

/-- The oldest TWIN_LOCK that waits for this lock and operation. -/
def State.lockWaiter (s : State) (lock op : Nat) : Option Tag :=
  s.cmds.tags.find? fun t => t.begun && t.opcode == 0x0C04 && t.pkt.obj == lock && t.pkt.n 0 == op

/-- LOCK_RESULT. -/
def lockResult (lock op result owner : Nat) (s : State) : State :=
  match s.lockWaiter lock op with
  | some t =>
    let w := if op = 0 then wd (result % 4 + 256 * (owner % 4)) else 0#32
    (s.runM fun r => { r with lockWait := r.lockWait.erase (lock, op == 1) }).completePended (fun x => x == t) .ok 0 [w]
  | none => s

/-! ## Relayed mailboxes (R63 to R68, R476) -/

/-- A message is in an EMPTY mailbox: POSTED with its cause, or WAITING while its receiver cannot take it. -/
def State.mbxPost (s : State) (m : Nat) : State :=
  let r := s.waitReason m
  if r = 0 then
    let s := s.mbxGo m .posted 0
    if 8 ≤ m then s.setMbxCause m else s
  else s.mbxGo m .waiting r

/-- MBX: a message for the host, in the mailbox two above the sender's. -/
def mbxMsgIn (m : Nat) (msg : List Word) (s : State) : State :=
  if !s.partnered || (m != 12 && m != 13) then s
  else
    let n := m + 2
    if (nth s.mbx n {}).state == .empty then
      let s := s.mbxM fun l => updAt l n fun b => { b with msg := (List.range 12).map fun i => nth msg i 0#32, ack := 0 }
      (((s.wakeDom 32).wakeHost).mbxPost n).sendMbxState n 0
    else s.sendMbxState n 0

/-- The receiving cellar's answer to WITHDRAW and RELEASE of the twin host's mailbox. -/
def State.mbxServe (s : State) (n kind : Nat) : State :=
  let b := nth s.mbx n {}
  if kind = 1 then
    if b.state = .posted ∨ b.state = .waiting then (s.mbxGo n .empty 0).sendMbxState n 4 else s.sendMbxState n 3
  else if b.state = .acked then (s.mbxGo n .empty 0).sendMbxState n 0
  else s.sendMbxState n 0

/-- A report of the receiving cellar's state, as the sender shows it. -/
def State.mbxShow (s : State) (m code ack kind : Nat) : State :=
  let b := nth s.mbx m {}
  let s := if kind = 3 then s.mbxM fun l => updAt l m fun b => { b with withdrawFail := true } else s
  if kind = 4 then s.mbxGo m .empty 0
  else if code = 0 then (if b.state = .acked then s.mbxGo m .empty 0 else s)
  else if code = 3 then (if b.state = .accepted then s else s.mbxGo m .accepted 0)
  else if code = 4 then
    if b.state = .acked then s
    else ((s.mbxM fun l => updAt l m fun b => { b with ack := ack }).mbxGo m .acked 0).setMbxCause m
  else if b.state = .waiting then s
  else s.mbxGo m .waiting 6

/-- MBX_STATE: mailbox of the engine that sends it, its state code, MBX_ACK and the kind of message. -/
def mbxStateIn (m code ack kind : Nat) (s : State) : State :=
  if !s.partnered then s
  else if m = 12 ∨ m = 13 then s.mbxServe (m + 2) kind
  else if m = 14 ∨ m = 15 then s.mbxShow (m - 2) code ack kind
  else s

/-! ## Hairpin frames received (R475) -/

/-- HAIRPIN: a frame into the Trellis receive buffer, for source 10. -/
def hairpinIn (f : Bytes) (s : State) : State :=
  if s.twin.keys.isNone || !s.twin.hairpin then s
  else if s.mode.mode.forwards && s.mode.mode != .drain then
    let p : Pkt := { bytes := f, rxLen := f.length + 4, source := 10, origin := 10 }
    (s.ingM fun i => { i with twinQ := i.twinQ ++ [p] }).wakeChain
  else s.downDiscard 66 1

/-! ## Commands (R478 to R483) -/

/-- A next hop or mirror session names port 66 in a live epoch. -/
def State.names66 (s : State) : Bool :=
  s.liveSlots.any fun l =>
    (s.act.hops.any fun e => visible e.2.birth e.2.death e.2.deathSet l.2.epoch && hopPort e.2.words == 66)
      || (List.range 16).any fun i => match s.mirrorAt i l.2.epoch with
        | some w => mirDest w == 66
        | none => false

/-- Enable or disable the twin link. -/
def State.twinEnable (s : State) (en : Bool) : State :=
  if s.twin.en = en then s
  else if en then
    let s := (s.twinM fun t => { t with en := true }).twinDomain
    let s := s.twinGo .linkDown 0
    if s.twin.linkUp then s.beginAuth 1 else s
  else
    let s := (s.twinM fun t => { t with en := false }).trellisLost 0
    s.twinDomain.twinGo .disabled 0

/-- TWIN_CONFIG (R479). -/
def twinConfig (c : Packet) (s : State) : Res :=
  let w := c.w 0
  let k := w.fld 12 8
  let held := s.mode.mode.isTwin || s.twin.st == .sync
  checks [objZero c, reserved c 0 0x1F03, within c 0 12 8 9 16,
      (!(held && (!w.bit 0 || k != s.twin.strideLog2)), .conflict, s.mode.mode.code),
      (w.bit 1 || !s.names66, .conflict, 1)]
    (let s := (s.twinM fun t => { t with hairpin := w.bit 1, strideLog2 := k }).twinEnable (w.bit 0)
     .ok (if s.mayRun 66 then s.tryLeave 66 else if s.egress 66 = .flush then s else s.enterFlush 66))

/-- TWIN_ENROL (R480). -/
def twinEnrol (c : Packet) (s : State) : Res :=
  checks [objZero c]
    (match s.twin.fingerprint with
    | none => .fail .conflict 1
    | some f =>
      if c.bytes ≠ f then .fail .conflict 2
      else
        let s := (s.bookM fun b => { b with marker := { b.marker with fingerprint := some f } }).bookLog 0x14 f
        .ok (if s.twin.st = .stranger then (s.twinGo .paired 0).onPaired else s))

/-- TWIN_TAKEOVER (R481). -/
def twinTakeover (c : Packet) (s : State) : Res :=
  checks [objZero c, (s.mode.mode == .twinStandby, .badMode, s.mode.mode.code)]
    (if !s.pins.ownIn then .pend 0 (s.takeOver 0x0B)
    else if s.twin.up then .pend 0 ((s.twinSend 0 0x08 []).runM fun r => { r with askedHandover := true })
    else .fail .twinRefused 1)

/-- TWIN_STATUS (R482). -/
def twinStatus (c : Packet) (s : State) : Res :=
  let t := s.twin
  let n (i : Nat) : Nat := nth t.counts i 0
  checks [objZero c]
    (.data ([wd (t.st.code + 256 * t.partnerMode + 65536 * b2n t.stale + 131072 * b2n s.pins.ownOut + 262144 * b2n s.pins.ownIn
          + 524288 * b2n (s.mayRun 66) + 1048576 * t.strideLog2),
        wd t.rtt, wd (n 0), wd (n 1), wd (n 2), wd (n 3), wd (n 4), wd (min 65535 (n 5) + 65536 * min 65535 (n 6)), wd (n 7),
        wd t.credits, wd (n 8), wd (n 9)] ++ bytesWords (bytesAt (t.fingerprint.getD []) 0 48)) s)

/-- TWIN_LOCK (R483). -/
def twinLock (c : Packet) (s : State) : Res :=
  let op := b2n ((c.w 0).bit 0)
  checks [objBelow c 32, reserved c 0 1, (s.partnered, .twinRefused, 1)]
    (.hold 0 ((s.twinSend 2 0x32 [by8 c.obj, by8 op, 0#8, 0#8]).runM fun r => { r with lockWait := r.lockWait ++ [(c.obj, op == 1)] }))

/-! ## Meanings -/

/-- LOCK_REQ. -/
def execLockReq (lock op : Nat) (s : State) : Host.Outcome State Fault Refusal := (lockReq lock op s).done
/-- LOCK_RESULT. -/
def execLockResult (lock op result owner : Nat) (s : State) : Host.Outcome State Fault Refusal := (lockResult lock op result owner s).done
/-- MBX. -/
def execMbx (m : Nat) (msg : List Word) (s : State) : Host.Outcome State Fault Refusal := (mbxMsgIn m msg s).done
/-- MBX_STATE. -/
def execMbxState (m code ack kind : Nat) (s : State) : Host.Outcome State Fault Refusal := (mbxStateIn m code ack kind s).done
/-- HAIRPIN. -/
def execHairpin (frame : Bytes) (s : State) : Host.Outcome State Fault Refusal := (hairpinIn frame s).done

end Sys2Proof.Machine
end

