-- ==== Sys2Proof/Machine/Vintner.lean ====
section
/-!
DEFINITION. The Vintner's machine check and restart, and the control of its trace ring (R491 to R495).
-/
namespace Sys2Proof.Machine

/-- Cellar cycles in one second (R493). -/
def mcWindow : Nat := 6250000

/-- A vintage in OPEN, WAIT_SLOT or WAIT_TWIN is marked for undo at restart, with an abort message in twin modes (R247, R491). -/
def State.markAborted (s : State) : State :=
  match s.vin.vint with
  | some v =>
    if v.state == .opened || v.state == .waitSlot || v.state == .waitTwin then
      let s := s.vinM fun k => { k with vint := some { v with state := .aborted }, undoPending := true }
      if s.mode.mode.isTwin then s.twinSend 0 0x16 (leBytes 4 v.handle) else s
    else s
  | none => s

/-- What the halted Vintner was waiting for is given up: acknowledgements, locks of the partner, a synchronisation it was driving. -/
def State.dropWaits (s : State) : State :=
  let s := (s.twinM fun t => { t with waits := [] }).runM fun r => { r with lockWait := [] }
  let s := s.modeM fun m => { m with pendingTarget := none }
  if s.run.syncActive then
    (s.runM fun r => { r with syncActive := false, syncEnded := false, syncFail := none }).twinGo .paired 7
  else s

/-- The halt: the steps of R491, with the failing address, PERR, the context, and the tag and opcode it held. -/
def State.machineHalt (s : State) (addr perr ctx tag opcode : Nat) : State :=
  let repeated := match s.vnt.lastMc with
    | some t => decide (s.book.cycles - t ≤ mcWindow)
    | none => false
  let s := s.vntM fun v => { v with
    running := false, haltedMc := true, haltAddr := addr, perr := perr, mcCount := sat32 v.mcCount
    lastMc := some s.book.cycles, restarting := false
    planted := if v.planted = some addr then none else v.planted }
  let s := ((s.hifM fun h => { h with ready := false }).freeLocks 0).setAlert 0
  let s := s.trace true 4 (ctx % 8) addr tag opcode [by8 perr]
  let s := (s.completeAll (fun _ => true) .machineCheck).noBatch
  let s := s.markAborted.dropWaits
  let s := s.bookLog 0x12 (leBytes 2 addr ++ [by8 perr, by8 ctx] ++ leBytes 2 tag ++ leBytes 2 opcode ++ leBytes 4 s.vnt.mcCount)
  s.fault (if repeated then 2 else 1) (if ctx = 0xFF then 0xFF else 0x10 + ctx) 4 addr perr

/-- MACHINE_CHECK: the word read at an address fails its parity, at a fetch by a context or in the sweep of a restart (context 0xFF). A failure that FAULT_INJECT planted at the address fails P0. -/
def machineCheck (addr : Nat) (word : BitVec 136) (ctx tag opcode : Nat) (s : State) : State :=
  let a := addr % 16384
  let perr := if s.vnt.planted = some a then orBit (perrOf word) 0 else perrOf word
  let c := if ctx = 0xFF then 0xFF else ctx % 8
  let mayFail := if c = 0xFF then s.vnt.restarting else s.vnt.running
  if perr = 0 || !mayFail then s
  else if c = 0xFF ∨ c = 7 then s.machineHalt a perr c 0 0
  else s.machineHalt a perr c (tag % 4096) (opcode % 65536)

/-- VNT_CONTROL.RESTART: ignored unless the Vintner is halted by a machine check and no restart is under way. -/
def restart (s : State) : State :=
  if s.vnt.haltedMc && !s.vnt.restarting then s.vntM fun v => { v with restarting := true } else s

/-- VINTNER_RESTARTED: contexts, timers and scratch cleared, an aborted vintage undone, fetching resumed. -/
def vintnerRestarted (s : State) : State :=
  if !s.vnt.restarting then s
  else
    let s := s.vntM fun v => { v with
      restarting := false, running := true, haltedMc := false, ctx := List.replicate 8 {}, timers := List.replicate 16 0, scratch := [] }
    let s := if s.vin.undoPending then s.undoVint.vinM fun k => { k with undoPending := false } else s
    ((s.hifM fun h => { h with ready := true }).freeLocks 0).postEvent 0x0002 s.vnt.mcCount []

/-! ## Trace ring (R495) -/

/-- The trace ring may be enabled. -/
def State.traceRingOk (s : State) : Bool :=
  let v := s.vnt
  s.ddrReady && decide (10 ≤ v.trLog2) && decide (v.trLog2 ≤ 24) && v.trBase % 4096 == 0
    && !s.overlaps 2 v.trBase (32 * 2 ^ v.trLog2)
    && decide (v.trBase + 32 * 2 ^ v.trLog2 ≤ s.ddr.capacity)

/-- The fields a write of VNT_TRACE_CTRL sets besides the enable. -/
def State.traceSet (s : State) (v : Word) : State := s.vntM fun k => { k with
  trMicro := v.bit 1, trCmd := v.bit 2, trPkt := v.bit 3
  trLog2 := if k.trEnable then k.trLog2 else v.fld 12 8
  trErr := k.trErr && !v.bit 31 }

/-- A write of VNT_TRACE_CTRL. -/
def State.traceCtrl (s : State) (v : Word) : State :=
  let was := s.vnt.trEnable
  let s := s.traceSet v
  if was then s.vntM fun k => { k with trEnable := v.bit 0 }
  else if !v.bit 0 then s
  else if s.traceRingOk then s.vntM fun k => { k with trEnable := true, trSeq := 0, trPass := 0, trClock := none }
  else (s.vntM fun k => { k with trErr := true }).setHifErr 1

/-- MACHINE_CHECK. -/
def execMachineCheck (addr : Nat) (word : BitVec 136) (ctx tag opcode : Nat) (s : State) : Host.Outcome State Fault Refusal :=
  (machineCheck addr word ctx tag opcode s).done
/-- VINTNER_RESTARTED. -/
def execVintnerRestarted (s : State) : Host.Outcome State Fault Refusal := (vintnerRestarted s).done

end Sys2Proof.Machine
end

