-- ==== Sys2Proof/Machine/Book.lean ====
section
/-!
DEFINITION. The fault collector's commands, planted faults, the collector's own check, known-answer tests, and the cellar book: its commits, reads and clearing (R560 to R581).
-/
namespace Sys2Proof.Machine

/-! ## Commands of class 0x10 on faults (R575 to R577) -/

/-- Capture-pending bits of sources 32 i to 32 i + 31 (R576). -/
def State.pendingWord (s : State) (i : Nat) : Word :=
  wd (sumL ((List.range 32).map fun b => b2n (Tbl.lookD s.flt.src (32 * i + b) {}).capture.isSome * 2 ^ b))

/-- FAULT_STATUS. -/
def faultStatus (c : Packet) (s : State) : Res :=
  checks [objZero c]
    (.data (s.flt.classCount.map wd ++ (List.range 16).map s.pendingWord
      ++ [wd s.flt.taken, wd s.book.dropped, wd s.book.marker.headSeq, 1#32]) s)

/-- A source code that R560 lists. -/
def srcListed (c : Packet) : Bool × Status × Nat := ((faultClass c.obj).isSome, .notFound, 0)

/-- FAULT_READ. -/
def faultRead (c : Packet) (s : State) : Res :=
  let e := Tbl.lookD s.flt.src c.obj {}
  let cap := match e.capture with
    | some k => bytesWords k.bytes
    | none => List.replicate 8 0#32
  let r := s.flt.reaction c.obj ((faultClass c.obj).getD 0)
  checks [srcListed c]
    (.data (cap ++ [wd (b2n e.capture.isSome + 2 * r + 64 * b2n e.own.isSome), wd e.since, wd e.count, 0#32]) s)

/-- FAULT_CLEAR: empties a capture register, or all of them. -/
def faultClear (c : Packet) (s : State) : Res :=
  let clear (e : FSrc) : FSrc := { e with capture := none, since := 0 }
  if c.obj = 0xFFFFFFFF then .ok (s.fltM fun f => { f with src := Tbl.mapV f.src fun _ e => clear e })
  else checks [srcListed c] (.ok (s.fltM fun f => { f with src := Tbl.upd f.src c.obj {} clear }))

/-- FAULT_REACTION_SET (R577). -/
def faultReactionSet (c : Packet) (s : State) : Res :=
  let byClass := decide (0x80000000 ≤ c.obj)
  let k := c.obj - 0x80000000
  let dflt := (c.w 0).bit 8
  let r := (c.w 0).fld 4 0
  let fixed := c.obj = 0 ∨ c.obj = 2 ∨ c.obj = 9
  checks [(!byClass || decide (k < 4), .badParam, 8), (byClass || (faultClass c.obj).isSome, .notFound, 0),
      reserved c 0 0x11F, fieldIs 0 8 (!(byClass && dflt)), fieldIs 0 0 (!dflt || r == 0), (!decide fixed, .conflict, c.obj)]
    (.ok (s.fltM fun f =>
      if byClass then { f with defaults := updAt f.defaults k fun _ => r }
      else { f with src := Tbl.upd f.src c.obj {} fun e => { e with own := if dflt then none else some r } }))

/-! ## The book: commits and reads (R568 to R573) -/

/-- A record as the book holds it; unwritten ones are zero. -/
def State.record (s : State) (i : Nat) : Bytes := Tbl.lookD s.book.records i (List.replicate 256 0#8)

/-- SLOT of a record: 1 pending, 3 all zero, 2 its CRC fails, 0 committed (R573). -/
def State.slotState (s : State) (i : Nat) : Nat :=
  let r := s.record i
  if s.book.marker.pendingIdx = some i then 1
  else if r.all (· == 0#8) then 3
  else if leNat (bytesAt r 252 4) = crc32cF (r.take 252) then 0
  else 2

/-- BOOK_INFO. -/
def bookInfo (c : Packet) (s : State) : Res :=
  let m := s.book.marker
  let oldest := if m.ringCount = 0 then 0 else leNat (bytesAt (s.record m.oldest) 4 4)
  let framed := (s.flt.first.filter fun x => nbit x.reactions 0).length
  checks [objZero c]
    (.data [wd m.headSeq, wd oldest, wd s.mode.bootCount, wd s.mode.history, wd m.safeSeq,
      wd (framed + 256 * b2n s.book.fresh), wd s.book.dropped, wd s.book.committed] s)

/-- BOOK_READ. -/
def bookRead (c : Packet) (s : State) : Res :=
  checks [objBelow c 8192] (.data (wd (s.slotState c.obj) :: bytesWords (s.record c.obj)) s)

/-- The ring index the next ring record takes. -/
def Marker.nextIdx (m : Marker) : Nat := if m.ringCount = 0 then 0 else (m.headIdx + 1) % 6144

/-- The marker of the first write: the slot named as pending, and what a full ring holds there dropped. -/
def State.markPending (s : State) (ring : Bool) (i : Nat) : Marker :=
  let m := s.book.marker
  let full := ring && decide (6144 ≤ m.ringCount)
  { m with
    valid := true, mseq := wrapAdd 32 m.mseq 1, pendingIdx := some i, bootCount := s.mode.bootCount, history := s.mode.history
    oldest := if full then (m.oldest + 1) % 6144 else m.oldest
    ringCount := if full then m.ringCount - 1 else m.ringCount }

/-- The marker of the third write: the pending slot cleared and the head advanced. -/
def Marker.commit (m : Marker) (ring : Bool) (i seq typ boot : Nat) : Marker :=
  { m with
    mseq := wrapAdd 32 m.mseq 1, pendingIdx := none, headSeq := seq
    headIdx := if ring then i else m.headIdx
    oldest := if ring && m.ringCount == 0 then i else m.oldest
    ringCount := if ring then m.ringCount + 1 else m.ringCount
    safeSeq := if typ = 0x11 then seq else m.safeSeq
    safeBoot := if typ = 0x11 then boot else m.safeBoot }

/-- The 256 bytes of a record: the sequence and the boot count at the write, and the CRC. -/
def recordBytes (body : Bytes) (seq boot : Nat) : Bytes :=
  let b := bytesSet (bytesSet body 4 (leBytes 4 seq)) 8 (leBytes 4 boot)
  b ++ leBytes 4 (crc32cF b)

/-- BOOK_COMMIT: the next queued record, in three writes; `ok` is false when its read-back fails its CRC a second time (R571). -/
def bookCommit (ok : Bool) (s : State) : State :=
  match s.book.queue with
  | [] => s
  | r :: rest =>
    if s.book.clearing || s.mode.mode == .off then s
    else
      let ring := r.slot.isNone
      let i := r.slot.getD s.book.marker.nextIdx
      let p := s.markPending ring i
      let seq := wrapAdd 32 s.book.marker.headSeq 1
      if ok then
        let s := s.bookM fun k => { k with
          queue := rest, records := Tbl.put k.records i (recordBytes r.body seq s.mode.bootCount), otherMarker := p
          marker := p.commit ring i seq (byteAt r.body 0) s.mode.bootCount, committed := sat32 k.committed, justCleared := byteAt r.body 0 == 0x20 }
        if ring then s else s.setAlert 2
      else
        let junk := leBytes 256 (Config.freeValue s.free)
        let s := s.drawn.bookM fun k => { k with
          queue := rest, records := Tbl.put k.records i junk, otherMarker := k.marker, marker := p }
        s.fault 5 0xFF 2 i 0

/-- CEL_BOOK_SELECT: the record selected is copied into the read buffer. -/
def celBookSelect (i : Nat) (s : State) : State :=
  s.bookM fun k => { k with select := i % 8192, slot := s.slotState (i % 8192), buf := s.record (i % 8192) }

/-! ## Factory test commands (R578 to R581) -/

/-- Sources FAULT_INJECT mode 1 serves: corrected, uncorrectable and parity errors of a memory. -/
def plantable (src : Nat) : Bool :=
  decide ((0x18 ≤ src ∧ src ≤ 0x2B) ∨ (0x30 ≤ src ∧ src ≤ 0x3B) ∨ src = 0x44 ∨ src = 0x45 ∨ (0x70 ≤ src ∧ src ≤ 0x7A)
    ∨ (0x100 ≤ src ∧ src ≤ 0x107) ∨ (0x140 ≤ src ∧ src ≤ 0x17F))

/-- FAULT_INJECT. -/
def faultInject (c : Packet) (s : State) : Res :=
  let mode := (c.w 0).fld 1 0
  let addr := c.n 1 + 4294967296 * c.n 2
  let src := c.obj
  let fits := match mode with
    | 0 => true
    | 1 => plantable src
    | 2 => src == 1 || src == 2
    | _ => src == 0
  checks [srcListed c, reserved c 0 3, fieldIs 0 0 fits]
    (let s := s.bookLog 0x22 (leBytes 4 (c.n 0) ++ leBytes 8 addr)
     match mode with
     | 0 =>
       let s := s.fault src 0x20 7 addr 0
       .ok (if 0x80 ≤ src ∧ src ≤ 0x8A then s.listBroken (src - 0x80) addr else s)
     | 1 => .ok (s.fltM fun f => { f with planted := f.planted ++ [src] })
     | 2 => .ok (s.vntM fun v => { v with planted := some (addr % 16384) })
     | _ => .ok (s.fltM fun f => { f with collectorFlip := some addr }))

/-- GUARD_SET. -/
def guardSet (c : Packet) (s : State) : Res :=
  let off := (c.w 0).bit 0
  let gs := if c.obj = 8 then List.range 8 else [c.obj]
  checks [objBelow c 9, reserved c 0 1]
    (let s := s.bookLog 0x21 [by8 c.obj, by8 (b2n off)]
     let s := s.cipM fun k => { k with guardOff := gs.foldl (fun m g => setBit m g off) k.guardOff }
     .ok ((s.cipherPorts.filter fun p => gs.contains (p / 8)).foldl
       (fun s p => if s.mayRun p then s.tryLeave p else s.enterFlush p) s))

/-- BOOK_CLEAR. -/
def bookClear (c : Packet) (s : State) : Res :=
  checks [objZero c, fieldIs 0 0 (c.w 0 == 0xC1EA#32)] (.pend 0 (s.bookM fun k => { k with clearing := true }))

/-- BOOK_CLEAR_DONE: every record and both markers are zero, and BOOK_CLEARED is the first record. -/
def bookClearDone (s : State) : State :=
  if !s.book.clearing then s
  else
    let s := s.bookM fun k => { k with
      records := [], marker := {}, otherMarker := {}, queue := [], clearing := false, justCleared := true }
    let s := s.modeM fun m => { m with bootCount := 0, history := 0 }
    (s.bookLog 0x20 []).completePended (fun t => t.opcode == 0x1102) .ok 0 []

/-! ## Self-checks (R560, R567) -/

/-- The core's clocks run: every mode but OFF and DORMANT. -/
def State.coreUp (s : State) : Bool := s.mode.mode != .off && s.mode.mode != .dormant

/-- COLLECTOR_PARITY: a register of the collector fails its parity, found or planted; SAFE follows whatever its capture register holds. -/
def collectorParity (err : Option Nat) (s : State) : State :=
  let bad := match s.flt.collectorFlip with
    | some a => some a
    | none => err
  match bad with
  | some a =>
    if !s.coreUp then s
    else
      let full := (Tbl.lookD s.flt.src 0 {}).capture.isSome
      let s := s.fault 0 0xFF 7 a 0
      if full then s.fltM fun f => { f with due := f.due ++ [.safe 6 (Tbl.lookD f.src 0 {}).capture] } else s
  | none => s

/-- CIPHER_KAT: the known-answer vectors of a cipher unit; `bad` is the path that differs, 0 encrypt, 1 decrypt. -/
def cipherKat (g : Nat) (bad : Option Nat) (s : State) : State :=
  let g := g % 8
  match bad with
  | some p => if s.coreUp && nth s.pwr.doms (2 + g) .run != .off then s.fault (0xC8 + g) (0x40 + g) 7 (p % 2) 0 else s
  | none => s

/-- BOOK_COMMIT. -/
def execBookCommit (ok : Bool) (s : State) : Host.Outcome State Fault Refusal := (bookCommit ok s).done
/-- BOOK_CLEAR_DONE. -/
def execBookClearDone (s : State) : Host.Outcome State Fault Refusal := (bookClearDone s).done
/-- COLLECTOR_PARITY. -/
def execCollectorParity (err : Option Nat) (s : State) : Host.Outcome State Fault Refusal := (collectorParity err s).done
/-- CIPHER_KAT. -/
def execCipherKat (g : Nat) (bad : Option Nat) (s : State) : Host.Outcome State Fault Refusal := (cipherKat g bad s).done

end Sys2Proof.Machine
end

