-- ==== Sys2Proof/Machine/Boot.lean ====
section
/-!
DEFINITION. Supplies, rails, reference clock, resets, BOOT, the end of a drain, and the junction sensors (R14, R15, R25 to R29, R508, R509, R591 to R602, R608, R609, R617).
-/
namespace Sys2Proof.Machine

/-! ## BOOT begins (R592, R595) -/

/-- HIF_STRAPS (R47). -/
def Pins.straps (p : Pins) : Nat := b2n p.twinId + 2 * (p.addrSel % 4) + 8 * b2n p.autoBoot + 16 * b2n p.testmodeSampled

/-- HIF_PART (R47). -/
def hifPart : Nat := 0x100960 + 65536 * (Config.orderFuse % 2)

/-- BOOT begins: the core is cleared, the boot is counted, and the mode is entered from DORMANT with the cause of its request, which ends a MODE_SET that waits for it (R32). A SAFE_REQ_N asserted while a reset held BOOT stays deferred. -/
def State.beginBoot (s : State) : State :=
  let asked := s.parked 0x0003
  let safe := s.mode.safeDeferred
  let s := s.rebooted
  let s := s.modeM fun m => { m with bootCount := (m.bootCount + 1) % 4294967296, safeDeferred := safe }
  let s := s.pinsM fun p => { p with bootRequest := false, pcieUp := p.perstN }
  if s.mode.mode == .dormant then
    let s := s.goMode .boot s.mode.bootCause
    match asked with
    | some t => s.complete 0x0003 t.pkt .ok s.modeDetail []
    | none => s
  else s

/-- A boot request comes to nothing: the engine stays in DORMANT, and a MODE_SET that waits for BOOT ends with ABORTED. -/
def State.bootFails (s : State) : State := s.completePended (fun t => t.opcode == 0x0003) .aborted 0 []

/-- A reset is asserted: outputs deasserted, Trellis lost, every tag ended with ABORTED, and BOOT entered with cause 0x03 (R592). -/
def State.assertReset (s : State) (kind : Nat) : State :=
  let s := s.blankEgress.pinsM fun p => { p with ownOut := false, safeN := false }
  let s := if s.twin.en then s.twinCut 2 false else s
  let s := s.completeAll (fun _ => true) .aborted
  (s.modeM fun m => { m with resetKind := kind, pendingTarget := none, safeDeferred := false }).goMode .boot 3

/-- A cold reset also restores disabled guards, and takes the test access port out of FACTORY_TEST (R594, R623). -/
def State.coldAssert (s : State) : State :=
  let factory := s.mode.mode == .factoryTest || (s.mode.mode == .safe && s.mode.safeFromFactory)
  let s := s.assertReset 1
  let s := s.cipM fun k => { k with guardOff := 0 }
  let s := if factory then s.tapM fun t => { trstN := t.trstN } else s
  s.modeM fun m => { m with resetHeld := true }

/-- FACTORY_TEST, or a SAFE entered from it: a warm reset does not leave it (R26, R591). -/
def State.warmLocked (s : State) : Bool :=
  s.mode.mode == .factoryTest || (s.mode.mode == .safe && s.mode.safeFromFactory)

/-- The PCIe endpoint and the ring state are reset; the configuration space stays for a HIF_RESET (R591, R593). -/
def State.resetRings (s : State) (keepCfg : Bool) : State :=
  let s := s.freeLocks 1
  s.hifM fun h => { h with
    rings := [{}, {}, {}, {}, {}, {}], streak := 0, waited := 0, holdRun := 0, holdDefer := 0, pba := 0
    bme := h.bme && keepCfg, msixEnable := h.msixEnable && keepCfg, funcMask := h.funcMask && keepCfg
    vecMask := if keepCfg then h.vecMask else 18446744073709551615 }

/-- A warm reset, asserted and released: BOOT begins at once. No reset takes effect without REFCLK25 (R15). -/
def State.warmReset (s : State) (kind : Nat) : State :=
  let keep := kind == 3
  if !s.coreUp || !s.pins.refclk || s.mode.resetHeld then s
  else if s.warmLocked then (s.resetRings keep).modeM fun m => { m with resetKind := kind }
  else
    let h := s.hif
    let s := (s.assertReset kind).beginBoot
    if keep then s.hifM fun x => { x with bme := h.bme, msixEnable := h.msixEnable, funcMask := h.funcMask } else s

/-! ## Rails (R27, R508, R509, R609) -/

/-- Rail step n: its PWR_REQ bit is asserted, and PG_IN is awaited. -/
def State.railGo (s : State) (n : Nat) : State :=
  (s.pinsM fun p => { p with pwrReq := orBit p.pwrReq (n - 1), pgIn := false }).pwrM fun p => { p with railStep := some n }

/-- Every rail is up and BOOT waits: for RESET_N, or for REFCLK25. -/
def State.railsWait (s : State) : Bool := s.mode.mode == .dormant && s.pwr.railStep.isNone && s.pins.pwrReq == 15

/-- A waiting boot request is served when REFCLK25 is there and RESET_N is high. -/
def State.tryBoot (s : State) : State :=
  if s.mode.mode == .dormant && s.pins.bootRequest && s.pins.refclk && s.pins.resetN && s.pwr.railStep.isNone then
    if s.railsWait then s.beginBoot
    else
      let s := s.pinsM fun p => { p with bootRequest := false }
      if s.pins.pgIn then (s.bookLog 0x15 [1#8, 2#8]).bootFails else s.railGo 1
  else s

/-- A boot request with its cause; one that is already under way goes on with its own. -/
def State.requestBoot (s : State) (cause : Nat) : State :=
  if s.mode.mode == .dormant && s.pwr.railStep.isNone then
    let cause := if s.pins.bootRequest then s.mode.bootCause else cause
    ((s.pinsM fun p => { p with bootRequest := true }).modeM fun m => { m with bootCause := cause }).tryBoot
  else s

/-- A boot request is under way. -/
def State.booting (s : State) : Bool := s.pins.bootRequest || s.pwr.railStep.isSome

/-- The rail step that PG_IN has confirmed is over: the next rail is requested, unless REFCLK25 is absent (R14); after step 4 BOOT begins, unless RESET_N is low or REFCLK25 absent. -/
def State.railNext (s : State) : State :=
  match s.pwr.railStep with
  | none => s
  | some n =>
    if !s.pins.pgIn then s
    else if n < 4 then (if s.pins.refclk then s.railGo (n + 1) else s)
    else ((s.pwrM fun p => { p with railStep := none }).pinsM fun p => { p with bootRequest := true }).tryBoot

/-- PG_IN_CONFIRM: PG_IN is high. -/
def pgInConfirm (s : State) : State := if !s.pins.auxVin then s else (s.pinsM fun p => { p with pgIn := true }).railNext

/-- RAIL_TIMEOUT: PG_IN has not come; every rail is released. -/
def railTimeout (s : State) : State :=
  match s.pwr.railStep with
  | some n =>
    if s.pins.pgIn then s
    else
      let s := s.bookLog 0x15 [by8 n, 1#8]
      ((s.pwrM fun p => { p with railStep := none }).pinsM fun p => { p with pwrReq := 0 }).bootFails
  | none => s

/-- PG_IN_LOST: DORMANT from BOOT or any later mode; the rails are released. -/
def pgInLost (s : State) : State :=
  let s := s.pinsM fun p => { p with pgIn := false }
  if s.coreUp then
    let s := s.bookLog 0x15 [4#8, 3#8]
    let was := s.mode.mode.code
    let s := s.goMode .dormant 4
    let h := s.mode.history
    (s.loseRails 4).modeM fun m => { m with pgLost := some (was, h) }
  else if s.railsWait then ((s.bookLog 0x15 [4#8, 3#8]).pinsM fun p => { p with pwrReq := 0, bootRequest := false }).bootFails
  else s

/-! ## Auxiliary supply (R25, R27, R62, R571, R595) -/

/-- AUX_VIN_LOST: OFF at once; only the MRAM keeps its contents. -/
def auxVinLost (s : State) : State :=
  let p := s.pins
  { mode := { mode := .off, prev := s.mode.mode, cause := 0x13, bootCount := s.mode.bootCount, history := s.mode.history }
    pins := { auxVin := false, refclk := p.refclk, resetN := p.resetN, perstN := p.perstN, safeReqN := p.safeReqN, takeN := p.takeN
              ownIn := p.ownIn, pgIn := false, pwrReq := 0, pcieUp := false, testmode := p.testmode }
    book := { records := s.book.records, marker := s.book.marker, otherMarker := s.book.otherMarker, fresh := s.book.fresh
              queue := [], justCleared := s.book.justCleared, mounted := false }
    pwr := { doms := List.replicate 33 .off }
    twin := { shakes := s.twin.shakes }
    out := s.out, free := s.free, pending := s.pending }

/-- AUX_VIN_UP: the straps are sampled, the cellar mounts the book and enters DORMANT; a high auto-boot strap requests the rails. -/
def auxVinUp (autoBoot : Bool) (addrSel : Nat) (s : State) : State :=
  if s.mode.mode != .off then s
  else
    let m := s.book.marker
    let cleared := s.book.justCleared || !m.valid
    let was := s.mode.prev.code
    let s := s.pinsM fun p => { p with auxVin := true, autoBoot := autoBoot, addrSel := addrSel % 4 }
    let s := s.bookM fun b => { b with mounted := true, fresh := !m.valid, cycles := 0 }
    let s := s.modeM fun k => { k with
      bootCount := m.bootCount, history := if cleared then m.history else (m.history + 1) % 4294967296, resetKind := 0 }
    let s := if cleared then s else s.bookLog 0x02 ([by8 was, 0#8, 0x13#8, 0#8] ++ leBytes 4 s.mode.history)
    let s := s.bookLog 0x01 (leBytes 4 s.pins.straps ++ [by8 (b2n s.pins.refclk)])
    let s := (s.pwrM fun p => { p with doms := railsOff }).goMode .dormant 0
    if autoBoot && s.pins.resetN then s.requestBoot 0x11 else s

/-! ## RESET_N, PERST_N and REFCLK25 -/

/-- RESET_N_ASSERT. -/
def resetNAssert (s : State) : State :=
  let s := s.pinsM fun p => { p with resetN := false }
  if s.coreUp && s.pins.refclk && !s.mode.resetHeld then s.coldAssert else s

/-- RESET_N_DEASSERT: the straps are sampled; a held reset ends in BOOT, and in DORMANT the edge is a boot request. -/
def resetNDeassert (twinId testmode : Bool) (s : State) : State :=
  if !s.pins.auxVin || s.pins.resetN then s.pinsM fun p => { p with resetN := true }
  else
    let s := s.pinsM fun p => { p with resetN := true, twinId := twinId, testmodeSampled := testmode, testmode := testmode }
    if !s.pins.refclk then s
    else if s.mode.resetHeld then s.beginBoot
    else s.requestBoot 3

/-- PERST_N_ASSERT: the link goes down, and a warm reset starts. -/
def perstNAssert (s : State) : State :=
  let s := s.pinsM fun p => { p with perstN := false, pcieUp := false }
  (s.hifM fun h => { h with bme := false }).warmReset 2

/-- PERST_N_DEASSERT: with the rails up, the link trains. -/
def perstNDeassert (s : State) : State := s.pinsM fun p => { p with perstN := true, pcieUp := s.coreUp }

/-- HIF_RESET: the key and WARM start a warm reset; any other write is refused. -/
def hifReset (v : Word) (s : State) : State :=
  if v.fld 31 16 = 0xB007 && v.bit 0 then s.warmReset 3 else s.setHifErr 3

/-- REFCLK_LOST. The reaction to SAFE is fixed: it comes though the capture register of the fault is full (R15). -/
def refclkLost (s : State) : State :=
  if !s.pins.refclk then s
  else
    let s := s.pinsM fun p => { p with refclk := false }
    let s := if s.mode.mode == .off then s else s.bookLog 0x16 [0#8]
    if s.coreUp then
      let due := s.flt.due.length
      let s := s.fault 9 0xFF 0 0 0
      if s.flt.due.length = due then s.fltM fun f => { f with due := f.due ++ [.safe 5 none] } else s
    else s

/-- REFCLK_RETURN: what waited for the reference goes on. -/
def refclkReturn (s : State) : State :=
  if s.pins.refclk then s
  else
    let s := s.pinsM fun p => { p with refclk := true }
    let s := if s.mode.mode == .off then s else s.bookLog 0x16 [1#8]
    if s.coreUp && !s.pins.resetN then s.coldAssert else s.railNext.tryBoot

/-- SAFE_REQ_N: the level it takes. In BOOT the trigger waits for BOOT's end (R596). -/
def safeReqN (asserted : Bool) (s : State) : State :=
  let s := s.pinsM fun p => { p with safeReqN := !asserted }
  if !asserted then s
  else if s.mode.mode == .boot then s.modeM fun m => { m with safeDeferred := true }
  else s.enterSafe 7 none

/-! ## BOOT ends (R147, R232, R308, R386, R429, R595, R596) -/

/-- CONFIG or FACTORY_TEST is entered: every block at its values for CONFIG. -/
def State.enterConfig (s : State) (dimms : List (Option DimmInfo)) : State :=
  let s := { s with vin := vinConfig initialArrays }
  let s := (List.range 8).foldl (fun s g => s.setLayout g 0x1E#32) s
  let s := s.coreM fun k => { k with cols := coreColumns, ports := Tbl.put k.ports 64 { egress := .enabled } }
  let s := s.cipM fun k => { k with sealKey := some (bytesAt (Config.sealKeyDraw s.free) 0 32) }
  let s := s.drawn.ddrDetect dimms
  let s := s.pinsM fun p => { p with safeN := true }
  let s := (s.vntM fun v => { v with running := true }).hifM fun h => { h with ready := true }
  let s := s.cmdsM fun c => { c with eventSeq := 1 }
  let s := match s.mode.pgLost with
    | some (was, h) => s.postEvent 0x0001 1 [wd (was + 256 * 4 + 65536 * (h % 65536))]
    | none => s
  let s := s.modeM fun m => { m with pgLost := none }
  let s := (s.goMode (if s.pins.testmodeSampled then .factoryTest else .config) 2).twinDomain
  if s.mode.safeDeferred then s.enterSafe 7 none else s

/-- BOOT_COMPLETE: every check passed, or the first that failed with its position. -/
def bootComplete (fail : Option (Nat × Nat)) (dimms : List (Option DimmInfo)) (s : State) : State :=
  if s.mode.mode != .boot || s.mode.resetHeld then s
  else
    let passed := match fail with
      | some (k, _) => 2 ^ ((k - 1) % 5) - 1
      | none => 31
    let s := s.bookLog 0x03 (leBytes 4 hifPart ++ leBytes 4 Config.microcodeId ++ [by8 passed])
    match fail with
    | some (k, pos) => s.fault 8 0xFF 7 (((k - 1) % 5 + 1) * 2 ^ 56 + pos % 2 ^ 56) 0
    | none => s.enterConfig dimms

/-! ## The end of a drain (R25, R28, R29, R232, R474) -/

/-- Nothing is left inside: landing buffers, slices, reorder windows and residue, holds, queues, frames at the MACs and toward the host. -/
def State.drained (s : State) : Bool :=
  s.ing.groups.all (·.frames.isEmpty) && s.ing.slices.all (·.held.all (·.2))
    && s.ing.sources.all (·.window.isEmpty) && s.ing.hostQ.isEmpty && s.ing.twinQ.isEmpty && s.frag.held.isEmpty
    && s.core.xps.all (·.2.residue.isEmpty) && s.sched.queues.all (·.2.q.isEmpty) && s.sched.recirc0.isEmpty && s.sched.recirc1.isEmpty
    && s.mac.ports.all (·.2.tx.isEmpty) && s.cip.egress.all (·.2.isEmpty) && s.hst.sel.isEmpty && s.hst.pieces.isEmpty

/-- CONFIG from DRAIN: the fragment table is emptied, ownership released, and a twin goes back to PAIRED. -/
def State.endDrain (s : State) (cause : Nat) : State :=
  let s := (s.fragM fun f => { f with table := [] }).ingM fun i => { i with sources := i.sources.map fun z => { z with nextSeq := 0 } }
  let s := s.vinM fun v => { v with slots := v.slots.map fun x => { x with frag := 0 } }
  let s := if s.mode.drainFrom == .twinActive then s.leaveActive else s
  let s := s.dropOwn.goMode .config cause
  let s := s.modeM fun m => { m with drainTimeout := 0 }
  if s.twin.st == .inSync then s.twinGo .paired 0 else s

/-- DRAIN_COMPLETE. -/
def drainComplete (s : State) : State := if s.mode.mode == .drain && s.drained then s.endDrain 0x0E else s

/-- DRAIN_TIMEOUT. The landing buffers are empty: a port with XOFF in force sends the release (R120). -/
def drainTimeout (s : State) : State :=
  if s.mode.mode == .drain then
    let s := s.dropAllPackets true
    let s := (Tbl.keys s.mac.ports).foldl (fun s p => s.fcUpdate p) s
    (s.snapAbort 3).endDrain 0x0F
  else s

/-! ## Junction sensors (R617) -/

/-- THERMAL_READ: the hottest reading. -/
def thermalRead (t : Int) (s : State) : State :=
  if !s.coreUp then s
  else
    let was := s.diag.temp
    let hot := s.pins.thermN
    let s := s.diagM fun d => { d with temp := t }
    let s := s.pinsM fun p => { p with thermN := decide (110 ≤ t) || (p.thermN && decide (105 ≤ t)) }
    let s := if decide (110 ≤ t) && !hot then s.fault 6 0xFF 0 t.toNat 0 else s
    if 125 ≤ t ∧ was < 125 then s.fault 7 0xFF 0 t.toNat 0 else s

/-! ## Meanings -/

/-- AUX_VIN_UP. -/
def execAuxVinUp (autoBoot : Bool) (addrSel : Nat) (s : State) : Host.Outcome State Fault Refusal := (auxVinUp autoBoot addrSel s).done
/-- AUX_VIN_LOST. -/
def execAuxVinLost (s : State) : Host.Outcome State Fault Refusal := (auxVinLost s).done
/-- RESET_N_ASSERT. -/
def execResetNAssert (s : State) : Host.Outcome State Fault Refusal := (resetNAssert s).done
/-- RESET_N_DEASSERT. -/
def execResetNDeassert (twinId testmode : Bool) (s : State) : Host.Outcome State Fault Refusal := (resetNDeassert twinId testmode s).done
/-- PERST_N_ASSERT. -/
def execPerstNAssert (s : State) : Host.Outcome State Fault Refusal := (perstNAssert s).done
/-- PERST_N_DEASSERT. -/
def execPerstNDeassert (s : State) : Host.Outcome State Fault Refusal := (perstNDeassert s).done
/-- PG_IN_CONFIRM. -/
def execPgInConfirm (s : State) : Host.Outcome State Fault Refusal := (pgInConfirm s).done
/-- RAIL_TIMEOUT. -/
def execRailTimeout (s : State) : Host.Outcome State Fault Refusal := (railTimeout s).done
/-- PG_IN_LOST. -/
def execPgInLost (s : State) : Host.Outcome State Fault Refusal := (pgInLost s).done
/-- BOOT_COMPLETE. -/
def execBootComplete (fail : Option (Nat × Nat)) (dimms : List (Option DimmInfo)) (s : State) : Host.Outcome State Fault Refusal :=
  (bootComplete fail dimms s).done
/-- REFCLK_LOST. -/
def execRefclkLost (s : State) : Host.Outcome State Fault Refusal := (refclkLost s).done
/-- REFCLK_RETURN. -/
def execRefclkReturn (s : State) : Host.Outcome State Fault Refusal := (refclkReturn s).done
/-- SAFE_REQ_N. -/
def execSafeReqN (asserted : Bool) (s : State) : Host.Outcome State Fault Refusal := (safeReqN asserted s).done
/-- THERMAL_READ. -/
def execThermalRead (temp : Int) (s : State) : Host.Outcome State Fault Refusal := (thermalRead temp s).done
/-- DRAIN_COMPLETE. -/
def execDrainComplete (s : State) : Host.Outcome State Fault Refusal := (drainComplete s).done
/-- DRAIN_TIMEOUT. -/
def execDrainTimeout (s : State) : Host.Outcome State Fault Refusal := (drainTimeout s).done

end Sys2Proof.Machine
end

