-- ==== Sys2Proof/Machine/HostRings.lean ====
section
/-!
DEFINITION. Host traffic rings: transmit chains and segmentation, receive deliveries and stalls, and the commands of class 0x0B (R441 to R454).
-/
namespace Sys2Proof.Machine

/-! ## Index updates (R442) -/

/-- A host traffic ring's engine index has advanced: the write-back word, then the cause bit. -/
def State.hostAdvance (s : State) (rx : Bool) (k n : Nat) : State :=
  let adv (r : HRing) : HRing := { r with engine := (r.engine + n) % 65536 }
  let s := s.hstM fun h => if rx then { h with rx := Tbl.upd h.rx k {} adv } else { h with tx := Tbl.upd h.tx k {} adv }
  let r := Tbl.lookD (if rx then s.hst.rx else s.hst.tx) k {}
  let i := k + if rx then 16 else 0
  let s := if r.wbEn then (s.emit (.hostWriteBack (16 + i) r.wb (writeBackWord r.engine s.ns32))).perfHost 0x13 1 else s
  s.setRingCause i

/-! ## Segmentation (R445, R446) -/

/-- An IP header of a template agrees: version, length to the next offset, and next header. -/
def ipAgrees (b : Bytes) (o next : Nat) (v6 : Bool) (proto : Nat) : Bool :=
  if v6 then byteAt b o / 16 == 6 && o + 40 == next && byteAt b (o + 6) == proto
  else byteAt b o / 16 == 4 && o + 4 * (byteAt b o % 16) == next && byteAt b (o + 9) == proto

/-- A template agrees with its profile. -/
def SegProfile.agrees (r : SegProfile) (b : Bytes) : Bool :=
  ipAgrees b r.l3 r.l4 r.v6 (if r.tcp then 6 else 17) && (!r.outer || ipAgrees b r.ol3 r.ol4 r.ov6 17)

/-- An IP header with its lengths, and for IPv4 its identification and checksum, set for piece `i`. -/
def ipPiece (b : Bytes) (o hl : Nat) (v6 : Bool) (i : Nat) : Bytes :=
  if v6 then bytesSet b (o + 4) (beBytes 2 (b.length - o - 40))
  else
    let b := bytesSet (bytesSet b (o + 2) (beBytes 2 (b.length - o))) (o + 4) (beBytes 2 ((beAt b (o + 4) 2 + i) % 65536))
    let b := bytesSet b (o + 10) [0#8, 0#8]
    bytesSet b (o + 10) (beBytes 2 (inetSum (bytesAt b o hl)))

/-- The checksum of a TCP or UDP segment, its field zero. -/
def l4Sum (b : Bytes) (ip at_ : Nat) (v6 : Bool) (proto : Nat) : Nat :=
  let n := b.length - at_
  let pseudo := if v6 then bytesAt b (ip + 8) 32 ++ beBytes 4 n ++ [0#8, 0#8, 0#8, by8 proto]
    else bytesAt b (ip + 12) 8 ++ [0#8, by8 proto] ++ beBytes 2 n
  inetSum (pseudo ++ b.drop at_)

/-- TCP fields of piece `i` of `n`. -/
def tcpPiece (r : SegProfile) (b : Bytes) (i n : Nat) : Bytes :=
  let o := r.l4
  let f := byteAt b (o + 13)
  let f := if i + 1 = n then f else clrBit (clrBit f 0) 3
  let f := if i = 0 then f else clrBit f 7
  let b := bytesSet (bytesSet b (o + 4) (beBytes 4 ((beAt b (o + 4) 4 + i * r.mss) % 4294967296))) (o + 13) [by8 f]
  let b := bytesSet b (o + 16) [0#8, 0#8]
  bytesSet b (o + 16) (beBytes 2 (l4Sum b r.l3 o r.v6 6))

/-- UDP fields of a piece. -/
def udpPiece (r : SegProfile) (b : Bytes) : Bytes :=
  let o := r.l4
  let b := bytesSet (bytesSet b (o + 4) (beBytes 2 (b.length - o))) (o + 6) [0#8, 0#8]
  let c := l4Sum b r.l3 o r.v6 17
  bytesSet b (o + 6) (beBytes 2 (if c = 0 then 65535 else c))

/-- Frame `i` of `n` of a send. -/
def segFrame (r : SegProfile) (tmpl payload : Bytes) (n i : Nat) : Bytes :=
  let b := tmpl ++ (payload.drop (i * r.mss)).take r.mss
  let b := ipPiece b r.l3 (r.l4 - r.l3) r.v6 i
  let b := if r.tcp then tcpPiece r b i n else udpPiece r b
  if r.outer then udpFix (ipPiece b r.ol3 (r.ol4 - r.ol3) r.ov6 i) r.ol3 r.ov6 r.ol4 else b

/-- The frames of a send. -/
def segFrames (r : SegProfile) (b : Bytes) : List Bytes :=
  let tmpl := b.take r.hdrLen
  let pay := b.drop r.hdrLen
  let n := ceilDiv pay.length r.mss
  (List.range n).map fun i => segFrame r tmpl pay n i

/-! ## Transmit chains (R443, R444) -/

/-- Length of a descriptor. -/
def descLen (d : Bytes) : Nat := leNat (bytesAt d 8 2)
/-- sop. -/
def descSop (d : Bytes) : Bool := nbit (byteAt d 10) 0
/-- eop. -/
def descEop (d : Bytes) : Bool := nbit (byteAt d 10) 1
/-- seg. -/
def descSeg (d : Bytes) : Bool := nbit (byteAt d 10) 2
/-- profile. -/
def descProfile (d : Bytes) : Nat := byteAt d 12 % 64
/-- Reserved bits set, or a profile without a send. -/
def descBad (d : Bytes) : Bool :=
  8 ≤ byteAt d 10 || byteAt d 11 != 0 || 64 ≤ byteAt d 12 || byteAt d 13 != 0 || byteAt d 14 != 0 || byteAt d 15 != 0
    || (!(descSop d && descSeg d) && descProfile d != 0)

/-- The descriptors of the next chain: up to and including the first one of nonzero length with eop; none when it is not there. -/
def chainOf : List (Bytes × Bytes) → Option (List (Bytes × Bytes))
  | [] => none
  | d :: r => if descLen d.1 != 0 && descEop d.1 then some [d] else (chainOf r).map (d :: ·)

/-- Transmit ring. -/
def State.txRing (s : State) (t : Nat) : HRing := Tbl.lookD s.hst.tx t {}

/-- Change a transmit ring. -/
def State.txM (s : State) (t : Nat) (f : HRing → HRing) : State := s.hstM fun h => { h with tx := Tbl.upd h.tx t {} f }

/-- Count one event of a transmit ring. -/
def State.txCount (s : State) (t i n : Nat) : State := s.txM t fun r => { r with counts := updAt r.counts i fun x => satAdd 32 x n }

/-- A fetched frame enters the staging buffer, as source 8 sees it. Its length is its bytes and 4 for the FCS: a host frame below 60 bytes is not padded, so its tag shows less than the 64 that R128 gives as the least. DESIGN CHOICE. -/
def State.stage (s : State) (t : Nat) (b : Bytes) : State :=
  let p : Pkt := { bytes := b, rxLen := b.length + 4, source := 8, origin := 8 }
  let s := s.ingM fun i => { i with hostQ := i.hostQ ++ [p] }
  ((s.txCount t 0 1).txM t fun r => { r with counts := updAt r.counts 1 fun x => wrapAdd 32 x b.length }).wakeChain

/-- Bytes in the staging buffer. -/
def State.stagedBytes (s : State) : Nat := sumL (s.ing.hostQ.map fun p => p.bytes.length)

/-- The engine fetches host frames: forwarding traffic, or taking test frames. -/
def State.fetchesHost (s : State) : Bool :=
  s.hif.bme && match s.mode.mode with
    | .forward | .twinActive | .twinStandby | .takeover | .diagnostic | .factoryTest => true
    | _ => false

/-- Every frame of a send is staged: the engine index passes its `n` descriptors; none remain of a ring that was disabled meanwhile (R451). -/
def State.chainPassed (s : State) (t n : Nat) : State :=
  let s := s.hstM fun h => { h with pieces := Tbl.del h.pieces t }
  if n = 0 then s else s.hostAdvance false t n

/-- The staging buffer has room for the first of these frames (R444). -/
def State.stagingRoom (s : State) (fs : List Bytes) : Bool := decide (s.stagedBytes + (fs.headD []).length ≤ 131072)

/-- The next frame of a send goes to source 8; after the last, the engine index passes the chain. -/
def State.nextPiece (s : State) (t n : Nat) : List Bytes → State
  | [] => s.chainPassed t n
  | b :: r =>
    let s := (s.stage t b).txCount t 5 1
    if r.isEmpty then s.chainPassed t n
    else s.hstM fun h => { h with pieces := Tbl.put h.pieces t (n, r) }

/-- A transmit ring has something for its turn: a send in progress, or posted descriptors. -/
def State.txWork (s : State) (t : Nat) : Bool :=
  let r := s.txRing t
  (Tbl.look s.hst.pieces t).isSome || (r.size != 0 && r.host != r.engine)

/-- The transmit ring whose turn it is: the first one after the ring served last that has something for it (R444). -/
def State.txTurn (s : State) : Option Nat := ((List.range 16).map fun i => (s.hst.txPtr + 1 + i) % 16).find? s.txWork

/-- A transmit ring has had its turn. -/
def State.turned (s : State) (t : Nat) : State := s.hstM fun h => { h with txPtr := t }

/-- A whole chain. -/
def State.runChain (s : State) (t : Nat) (ch : List (Bytes × Bytes)) : State :=
  let n := ch.length
  let live := ch.filter fun d => descLen d.1 != 0
  let zero := n - live.length
  let data := live.flatMap fun d => bytesAt d.2 0 (descLen d.1)
  let drop (s : State) (i : Nat) : State := (((s.turned t).txCount t 3 zero).txCount t i 1).hostAdvance false t n
  match live with
  | [] => drop s 2
  | d :: _ =>
    let seg := descSop d.1 && descSeg d.1
    if (ch.any fun d => descBad d.1) || !descSop d.1 || decide ((if seg then 512 else 64) < n) then drop s 2
    else if seg then
      match Tbl.look s.hst.seg (descProfile d.1) with
      | none => drop s 4
      | some r =>
        if data.length < r.hdrLen || !r.agrees (data.take r.hdrLen) then drop s 4
        else if r.hdrLen + 262144 < data.length then drop s 4
        else if !s.stagingRoom (segFrames r data) then s
        else ((s.turned t).txCount t 3 zero).nextPiece t n (segFrames r data)
    else if 16384 < data.length + 4 then drop s 3
    else if !s.stagingRoom [data] then s
    else (((s.turned t).txCount t 3 zero).stage t data).hostAdvance false t n

/-- HOST_TX_FETCH: the turn of a transmit ring; `descs` are the descriptors at the engine index, each with the bytes of its buffer. A ring whose chain has not been posted to its end lets its turn pass, and a turn without room in the staging buffer waits. -/
def hostTxFetch (t : Nat) (descs : List (Bytes × Bytes)) (s : State) : State :=
  let r := s.txRing t
  if s.txTurn != some t || !s.fetchesHost then s
  else
    match Tbl.look s.hst.pieces t with
    | some (n, fs) => if s.stagingRoom fs then (s.turned t).nextPiece t n fs else s
    | none =>
      let avail := (r.host + 65536 - r.engine) % 65536
      let s := s.perfHost 0x12 1
      let ds := descs.take avail
      match chainOf ds with
      | some ch => s.runChain t ch
      | none =>
        if avail = r.size ∧ ds.length = avail then ((s.turned t).txCount t 2 1).hostAdvance false t avail else s.turned t

/-! ## Receive (R448 to R450) -/

/-- One completion descriptor of a delivery: descriptor `i` of `n` for `len` bytes. -/
def rxDesc (s : State) (x : HostSel) (i n len : Nat) : Bytes :=
  let p := x.ent.copy.pkt
  let ts := if i = 0 then p.stamp else none
  let flags := b2n (i == 0) + 2 * b2n (i + 1 == n) + 4 * b2n ts.isSome + 8 * b2n x.ent.trunc
  let w := if i = 0 then p.port % 64 + 64 * (p.origin % 16) + 1024 * b2n p.decrypted + 65536 * x.queue else 0
  leBytes 2 len ++ [by8 flags, by8 x.ent.copy.reason] ++ leBytes 4 w
    ++ match ts with
      | some t => leBytes 4 (t / 65536 / 1000000000 % 4294967296) ++ leBytes 4 (t / 65536 % 1000000000)
      | none => leBytes 8 0

/-- A frame selected at node 64 is written into its reserved descriptors. -/
def State.deliver (s : State) (x : HostSel) : State :=
  let k := x.ring
  let r := s.rxRing k
  let b := s.rxBytes x.ent
  let s := (List.range x.descs).foldl (fun s i =>
    let d := (b.drop (i * r.bufSize)).take r.bufSize
    (s.emit (.hostRx k ((r.engine + i) % 65536) (rxDesc s x i x.descs d.length) d)).perfHost 0x13 1) s
  let s := s.rxM k fun r => { r with
    reserved := r.reserved - x.descs
    counts := updAt (updAt r.counts 0 sat32) 1 fun v => wrapAdd 32 v b.length }
  ((s.hostAdvance true k x.descs).readOut x.ent).bwmAdd 64 b.length

/-- HOST_RX_DELIVERY: the oldest frame selected at node 64 is delivered. -/
def hostRxDelivery (s : State) : State :=
  if !s.hif.bme then s
  else
    match s.hst.sel with
    | [] => s
    | x :: rest => (s.hstM fun h => { h with sel := rest }).deliver x

/-- The frames that a disabled receive ring still holds descriptors for complete into them (R451). -/
def State.deliverOld (s : State) (k : Nat) : State :=
  if !s.hif.bme then s
  else
    let (mine, rest) := s.hst.sel.partition fun x => x.ring == k
    mine.foldl (fun s x => s.deliver x) (s.hstM fun h => { h with sel := rest })

/-- HOST_RING_STALLED: the waiter of a ring has waited its time; it goes, and the ring is stalled. -/
def hostRingStalled (k : Nat) (s : State) : State :=
  let s := s.setWaiters
  let r := s.rxRing k
  match r.waiter with
  | none => s
  | some q =>
    match s.headOf q with
    | none => s.rxM k fun r => { r with waiter := none }
    | some e =>
      if s.rxFit q e = .wait then
        let s := s.postEvent 0x0B01 k [wd (s.rxNeed r e), wd r.freeDescs]
        (s.discardHead q e).rxM k fun r => { r with
          stalled := true, waiter := none, stallDrops := 1
          counts := updAt (updAt r.counts 3 sat32) 5 sat32 }
      else s

/-- Descriptors posted to a ring that stalls end the stall (R450). -/
def State.rxPosted (s : State) (k idx : Nat) : State :=
  let r := s.rxRing k
  let s := s.rxM k fun r => { r with host := idx }
  if r.stalled && idx != r.host then
    (s.rxM k fun r => { r with stalled := false, stallDrops := 0 }).postEvent 0x0B02 k [wd r.stallDrops]
  else s

/-! ## Ring commands (R453) -/

/-- HTX_RING_SET and HRX_RING_SET: `rx` says which. -/
def hostRingSet (rx : Bool) (c : Packet) (s : State) : Res :=
  let k := c.obj
  let size := (c.w 0).fld 15 0
  let base := c.n 1 + 4294967296 * c.n 2
  let wb := c.n 3 + 4294967296 * c.n 4
  let buf := (c.w 5).fld 15 0
  let hold := (c.w 5).fld 31 16
  let stall := c.n 6
  let old := Tbl.lookD (if rx then s.hst.rx else s.hst.tx) k {}
  let put (s : State) (r : HRing) : State :=
    s.hstM fun h => if rx then { h with rx := Tbl.put h.rx k r } else { h with tx := Tbl.put h.tx k r }
  let first := [objBelow c 16, reserved c 0 0x1FFFF]
  if size = 0 then
    checks first
      (.ok ((put s { old with size := 0, waiter := none, stalled := false, stallDrops := 0 }).hstM fun h =>
        if rx then h else { h with pieces := h.pieces.mapV fun t e => if t = k then (0, e.2) else e }))
  else
    let same := size == old.size && (c.w 0).bit 16 == old.wbEn && base == old.base && wb == old.wb && (!rx || buf == old.bufSize)
    checks (first ++ (if rx then [nonZero c 5 15 0, nonZero c 6 31 0] else [])
        ++ [fieldIs 0 0 (decide (16 ≤ size) && decide (size ≤ 32768) && popCnt 16 size == 1),
          fieldIs 1 0 (base % 4096 == 0), fieldIs 3 0 (wb % 8 == 0),
          fieldIs 5 0 (if rx then decide (64 ≤ buf) && decide (buf ≤ 16384) && buf % 64 == 0 else buf == 0)]
        ++ (if rx then [within c 6 31 0 1000 1000000] else [])
        ++ [(old.size == 0 || same, .conflict, 1)])
      (if old.size = 0 then
        let s := if rx then s.deliverOld k else s
        let old := Tbl.lookD (if rx then s.hst.rx else s.hst.tx) k {}
        .ok (put s { old with
          size := size, wbEn := (c.w 0).bit 16, base := base, wb := wb, bufSize := buf, holdoff := hold
          stallUs := if rx then stall else old.stallUs, host := 0, engine := 0 })
       else .ok (put s { old with holdoff := hold, stallUs := if rx then stall else old.stallUs }))

/-- HTX_RING_SET. -/
def htxRingSet : Packet → State → Res := hostRingSet false

/-- HRX_RING_SET. -/
def hrxRingSet : Packet → State → Res := hostRingSet true

/-- SEG_PROFILE_SET (R447). -/
def segProfileSet (c : Packet) (s : State) : Res :=
  let w := c.w 2
  let mss := (c.w 0).fld 13 0
  let hdr := (c.w 0).fld 23 16
  let l3 := (c.w 1).fld 7 0
  let l4 := (c.w 1).fld 15 8
  let ol3 := (c.w 1).fld 23 16
  let ol4 := (c.w 1).fld 31 24
  let outer := w.bit 3
  let l4p := w.fld 2 1
  checks [objBelow c 64, reserved c 0 0x00FF3FFF, reserved c 2 0x1F, nonZero c 0 13 0,
      fieldIs 0 0 (decide (64 ≤ mss) && decide (mss + hdr ≤ 16380)), fieldIs 0 16 (decide (14 ≤ hdr)),
      fieldIs 1 0 (decide (l3 < l4) && (!outer || decide (ol4 < l3))), fieldIs 1 8 (decide (l4 < hdr)),
      fieldIs 1 16 (if outer then decide (ol3 < ol4) else ol3 == 0), fieldIs 1 24 (outer || ol4 == 0),
      fieldIs 2 1 (l4p == 1 || l4p == 2)]
    (let r : SegProfile :=
      { mss := mss, hdrLen := hdr, l3 := l3, l4 := l4, ol3 := ol3, ol4 := ol4, v6 := w.bit 0, tcp := l4p == 1, outer := outer, ov6 := w.bit 4 }
     .ok (s.hstM fun h => { h with seg := Tbl.put h.seg c.obj r }))

/-- HRING_STATUS (R454). -/
def hringStatus (c : Packet) (s : State) : Res :=
  let rx := nbit c.obj 4
  let r := Tbl.lookD (if rx then s.hst.rx else s.hst.tx) (c.obj % 16) {}
  let k (i : Nat) : Word := wd (nth r.counts i 0)
  checks [(decide (c.obj < 32), .badParam, 8)]
    (.data [wd (r.engine + 65536 * r.host), wd (b2n (r.size != 0) + 2 * b2n r.stalled + 4 * b2n r.waiter.isSome + 65536 * r.reserved),
      k 0, k 1, k 2, k 3, k 4, k 5] s)

/-! ## Meanings -/

/-- HOST_TX_FETCH. -/
def execHostTxFetch (t : Nat) (descs : List (Bytes × Bytes)) (s : State) : Host.Outcome State Fault Refusal := (hostTxFetch t descs s).done
/-- HOST_RX_DELIVERY. -/
def execHostRxDelivery (s : State) : Host.Outcome State Fault Refusal := (hostRxDelivery s).done
/-- HOST_RING_STALLED. -/
def execHostRingStalled (r : Nat) (s : State) : Host.Outcome State Fault Refusal := (hostRingStalled r s).done

end Sys2Proof.Machine
end

