-- ==== Sys2Proof/Machine/Registers.lean ====
section
/-!
DEFINITION. The BAR0 registers: what each reads as and what a write does to it (R9, R45 to R64, R71, R441, R495, R573, R593).
-/
namespace Sys2Proof.Machine

/-- BAR0 answers accesses: the link is up and the mode is CONFIG or later (R43, R593). -/
def State.barUp (s : State) : Bool := s.pins.pcieUp && s.mode.mode.isUp

/-- The SMBus target answers in every mode but OFF. -/
def State.smbUp (s : State) : Bool := s.mode.mode != .off

/-- A master's accesses reach the cellar: the host's while BAR0 answers, the twin's over an authenticated Trellis with an enrolled partner, another's while the chip is powered. -/
def State.masterUp (s : State) (master : Nat) : Bool :=
  if master = 1 then s.barUp else if master = 3 then s.partnered && s.smbUp else s.smbUp

/-! ## What an SMBus read puts out (R74, R75) -/

/-- The 7-bit SMBus address (R74). -/
def State.smbAddress (s : State) : Nat := 0x58 + s.pins.addrSel % 4

/-- The packet error code of a transfer's bytes: CRC-8 with polynomial 0x07, its register starting at zero. -/
def pecOf (b : Bytes) : Byte :=
  b.foldl (fun (c x : Byte) => (List.range 8).foldl (fun (c : Byte) _ => if c.msb then (c <<< 1) ^^^ 0x07#8 else c <<< 1) (c ^^^ x)) 0#8

/-- The answer to a read of a command code, its PEC byte after the data; a block read has a count byte first. -/
def State.smbAnswer (s : State) (code : Nat) (block : Bool) (data : Bytes) : State :=
  let a := 2 * s.smbAddress
  let b := if block then by8 data.length :: data else data
  s.emit (.smbusData (b ++ [pecOf ([by8 a, by8 code, by8 (a + 1)] ++ b)]))

/-- A control ring. -/
def State.ring (s : State) (r : Nat) : CRing := nth s.hif.rings r {}

/-- Change a control ring. -/
def State.ringM (s : State) (r : Nat) (f : CRing → CRing) : State := s.hifM fun h => { h with rings := updAt h.rings r f }

/-! ## Control rings (R50 to R53) -/

/-- Least number of slots of a ring. -/
def ringMin (r : Nat) : Nat := if r < 4 then 64 else if r = 4 then 256 else 16

/-- SLOTS is one a ring may have. -/
def slotsOk (r n : Nat) : Bool := decide (ringMin r ≤ n) && decide (n ≤ 32768) && (List.range 16).any fun k => n == 2 ^ k

/-- The fields a write of HIF_RING_CTRL sets. -/
def State.ringSet (s : State) (r : Nat) (v : Word) : State :=
  s.ringM r fun g => { g with enable := v.bit 0, wbEn := v.bit 1, holdoff := v.fld 31 16 }

/-- A write of HIF_RING_CTRL. -/
def State.ringCtrl (s : State) (r : Nat) (v : Word) : State :=
  let was := (s.ring r).enable
  let s := s.ringSet r v
  if !was && v.bit 0 then
    if slotsOk r (s.ring r).slots then s.ringM r fun g => { g with active := true, host := 0, engine := 0 }
    else (s.ringM r fun g => { g with cfgErr := true }).setHifErr 1
  else if was && !v.bit 0 then s.ringM r fun g => { g with active := false }
  else s

/-- A write of a control ring's doorbell. -/
def State.ringDoorbell (s : State) (r : Nat) (v : Word) : State :=
  let g := s.ring r
  let i := v.fld 15 0
  let d := if r < 4 then (i + 65536 - g.engine % 65536) % 65536 else (g.engine + 65536 - i) % 65536
  if d ≤ g.slots then (s.ringM r fun g => { g with host := i }).wakeHost
  else (s.ringM r fun g => { g with dbErr := true }).setHifErr 0

/-- A write of a ring's configuration block. -/
def State.ringWrite (s : State) (r off : Nat) (v : Word) : State :=
  let open_ (f : CRing → CRing) : State := if (s.ring r).enable then s else s.ringM r f
  match off with
  | 0x00 => open_ fun g => { g with base := g.base / 4294967296 * 4294967296 + v.toNat / 4096 * 4096 }
  | 0x04 => open_ fun g => { g with base := v.toNat * 4294967296 + g.base % 4294967296 }
  | 0x08 => open_ fun g => { g with slots := v.fld 15 0 }
  | 0x0C => s.ringCtrl r v
  | 0x14 => open_ fun g => { g with wb := g.wb / 4294967296 * 4294967296 + v.toNat / 8 * 8 }
  | 0x18 => open_ fun g => { g with wb := v.toNat * 4294967296 + g.wb % 4294967296 }
  | 0x1C => s.ringM r fun g => { g with cfgErr := g.cfgErr && !v.bit 1, dbErr := g.dbErr && !v.bit 2, dmaErr := g.dmaErr && !v.bit 3 }
  | _ => s

/-- What a ring's configuration block reads as. -/
def CRing.read (g : CRing) (off : Nat) : Nat :=
  match off with
  | 0x00 => g.base % 4294967296
  | 0x04 => g.base / 4294967296
  | 0x08 => g.slots
  | 0x0C => b2n g.enable + 2 * b2n g.wbEn + 65536 * g.holdoff
  | 0x10 => g.engine
  | 0x14 => g.wb % 4294967296
  | 0x18 => g.wb / 4294967296
  | 0x1C => b2n g.active + 2 * b2n g.cfgErr + 4 * b2n g.dbErr + 8 * b2n g.dmaErr
  | _ => 0

/-! ## Doorbells of host traffic rings (R441) -/

/-- A write of HIF_TXDB. -/
def State.txDoorbell (s : State) (t : Nat) (v : Word) : State :=
  let r := s.txRing t
  let i := v.fld 15 0
  if (i + 65536 - r.engine % 65536) % 65536 ≤ r.size then (s.txM t fun r => { r with host := i }).wakeHost else s.setHifErr 0

/-- A write of HIF_RXDB. -/
def State.rxDoorbell (s : State) (k : Nat) (v : Word) : State :=
  let r := s.rxRing k
  let i := v.fld 15 0
  if (i + 65536 - r.engine % 65536) % 65536 ≤ r.size then (s.rxPosted k i).wakeHost else s.setHifErr 0

/-! ## Mailboxes (R63 to R68, R476) -/

/-- The master number of a mailbox's sender, 3 for the twin host. -/
def mbxSender (m : Nat) : Nat := if m < 8 then 1 else if m < 12 then 0 else if m < 14 then 1 else 3

/-- The master number of its receiver on this engine; a relayed mailbox 12 or 13 has its receiver on the twin. -/
def mbxReceiver (m : Nat) : Nat := if m < 8 then 0 else if m < 12 then 1 else if m < 14 then 3 else 1

/-- A refused write (R64). -/
def State.mbxRefuse (s : State) (m : Nat) : State :=
  (s.mbxM fun l => updAt l m fun b => { b with writeErr := true }).setHifErr 4

/-- A write of word k of a message. -/
def State.mbxWord (s : State) (m k : Nat) (v : Word) (master : Nat) : State :=
  if master = mbxSender m ∧ master ≠ 3 ∧ (nth s.mbx m {}).state = .empty then
    s.mbxM fun l => updAt l m fun b => { b with msg := updAt b.msg k fun _ => v }
  else s.mbxRefuse m

/-- SEND: from EMPTY the message is posted or waits, and its receiver's domain wakes; a relayed one goes to the partner. -/
def State.mbxSend (s : State) (m master : Nat) : State :=
  if master ≠ mbxSender m ∨ master = 3 then s.mbxRefuse m
  else if (nth s.mbx m {}).state ≠ .empty then s
  else
    let s := (if m < 12 then s.wakeHost else s.wakeDom 32).mbxPost m
    if (m == 12 || m == 13) && s.partnered then s.sendMbx m else s

/-- WITHDRAW; `accepting` is whether ACCEPT reaches the cellar in the same cycle (R66). -/
def State.mbxWithdraw (s : State) (m master : Nat) (accepting : Bool) : State :=
  let b := nth s.mbx m {}
  let failed (s : State) : State := s.mbxM fun l => updAt l m fun b => { b with withdrawFail := true }
  if master ≠ mbxSender m ∨ master = 3 then s.mbxRefuse m
  else
    match b.state with
    | .empty => s
    | .accepted | .acked => failed s
    | .waiting => if (m == 12 || m == 13) && s.partnered then s.sendMbxState m 1 else s.mbxGo m .empty 0
    | .posted => if accepting then failed (s.mbxGo m .accepted 0) else s.mbxGo m .empty 0

/-- RELEASE, by the sender; mailbox 8 also by the host, which R70 has release it. -/
def State.mbxRelease (s : State) (m master : Nat) : State :=
  if (master ≠ mbxSender m ∧ ¬(m = 8 ∧ master = 1)) ∨ master = 3 then s.mbxRefuse m
  else if (nth s.mbx m {}).state ≠ .acked then s
  else
    let s := if (m == 12 || m == 13) && s.partnered then s.sendMbxState m 2 else s
    s.mbxGo m .empty 0

/-- ACCEPT. -/
def State.mbxAccept (s : State) (m master : Nat) : State :=
  if master ≠ mbxReceiver m ∨ master = 3 then s.mbxRefuse m
  else if (nth s.mbx m {}).state ≠ .posted then s
  else
    let s := s.mbxGo m .accepted 0
    if 14 ≤ m then s.sendMbxState m 0 else s

/-- The receiver's write of MBX_ACK. In EMPTY, WAITING and ACKED it changes nothing, CODE included: the manual does not say (DESIGN CHOICE). -/
def State.mbxAck (s : State) (m code master : Nat) : State :=
  let st := (nth s.mbx m {}).state
  if master ≠ mbxReceiver m ∨ master = 3 then s.mbxRefuse m
  else if st ≠ .posted ∧ st ≠ .accepted then s
  else
    let s := (s.mbxM fun l => updAt l m fun b => { b with ack := code % 65536 }).mbxGo m .acked 0
    if m < 8 then s.setMbxCause m else if 14 ≤ m then s.sendMbxState m 0 else s

/-- A host write of MBX_CTRL: each bit set acts as the party it belongs to, in the order ACCEPT, WITHDRAW, RELEASE, SEND, for which the manual gives none (DESIGN CHOICE). -/
def State.mbxCtrl (s : State) (m : Nat) (v : Word) : State :=
  let s := if v.bit 3 then s.mbxAccept m 1 else s
  let s := if v.bit 1 then s.mbxWithdraw m 1 false else s
  let s := if v.bit 2 then s.mbxRelease m 1 else s
  if v.bit 0 then s.mbxSend m 1 else s

/-- A host write of a mailbox register. -/
def State.mbxWrite (s : State) (m off : Nat) (v : Word) : State :=
  if off < 0x30 then s.mbxWord m (off / 4) v 1
  else if off = 0x30 then s.mbxCtrl m v
  else if off = 0x34 then
    s.mbxM fun l => updAt l m fun b => { b with writeErr := b.writeErr && !v.bit 3, withdrawFail := b.withdrawFail && !v.bit 4 }
  else if off = 0x38 then s.mbxAck m (v.fld 15 0) 1
  else s

/-- What a mailbox register reads as. -/
def Mbx.read (b : Mbx) (off : Nat) : Nat :=
  if off < 0x30 then (nth b.msg (off / 4) 0#32).toNat
  else if off = 0x34 then b.state.code + 8 * b2n b.writeErr + 16 * b2n b.withdrawFail + 256 * b.reason
  else if off = 0x38 then b.ack
  else if off = 0x3C then b.time
  else 0

/-! ## Locks (R71, R72) -/

/-- A write of LCK_LOCK[n] by a master: RELEASE, with or without FORCE. FORCE on a free lock does nothing: no alert and no record, which the manual leaves open (DESIGN CHOICE). -/
def State.lockWrite (s : State) (n master : Nat) (release force : Bool) : State :=
  if !release then s
  else if force && master == 1 then
    match nth s.locks n none with
    | some o => ((s.locksM fun l => updAt l n fun _ => none).setAlert 3).bookLog 0x13 [by8 n, by8 o]
    | none => s
  else if force then s
  else s.lockFree n master

/-- LCK_HELD. -/
def State.lockHeld (s : State) : Nat := sumL ((List.range 32).map fun n => if (nth s.locks n none).isSome then 2 ^ n else 0)

/-- LCK_OWNERS of locks `a` to `a + 15`. -/
def State.lockOwners (s : State) (a : Nat) : Nat := sumL ((List.range 16).map fun n => (nth s.locks (a + n) none).getD 0 * 4 ^ n)

/-! ## Interrupt registers (R59) -/

/-- Every vector whose cause a register of the block feeds. -/
def allVectors : List Nat := List.range 7 ++ (List.range 32).map (· + 8)

/-- A mask has been changed from `old` to `new`: some set cause bit has come free of it. -/
def unmasks (cause old new : Nat) : Bool := clrMask (clrMask cause new) (clrMask cause old) != 0

/-- A write of a cause or mask register; a mask bit cleared under a set cause sends its message. -/
def State.irqWrite (s : State) (off : Nat) (v : Word) : State :=
  let n := v.toNat
  let t :=
    if off = 0x00 then s.hifM fun h => { h with cause := clrMask h.cause (n &&& 0x55) }
    else if off = 0x04 then s.hifM fun h => { h with mask := n % 128 }
    else if off = 0x10 then s.hifM fun h => { h with ringCause := clrMask h.ringCause n }
    else if off = 0x14 then s.hifM fun h => { h with ringMask := n }
    else if off = 0x20 then s.hifM fun h => { h with mbxCause := clrMask h.mbxCause (n % 65536) }
    else if off = 0x24 then s.hifM fun h => { h with mbxMask := n % 65536 }
    else if off = 0x30 then s.hifM fun h => { h with err := clrMask h.err (n % 32) }
    else if off = 0x34 then s.hifM fun h => { h with errMask := n % 32 }
    else s
  if off = 0x24 then (if unmasks t.hif.mbxCause s.hif.mbxMask t.hif.mbxMask then t.signalUnless 3 3 else t)
  else if off = 0x34 then (if unmasks t.hif.err s.hif.errMask t.hif.errMask then t.signalUnless 5 5 else t)
  else t.signalNew s allVectors

/-- What an interrupt register reads as. -/
def State.irqRead (s : State) (off : Nat) : Nat :=
  match off with
  | 0x00 => s.irqCause
  | 0x04 => s.hif.mask
  | 0x10 => s.hif.ringCause
  | 0x14 => s.hif.ringMask
  | 0x20 => s.hif.mbxCause
  | 0x24 => s.hif.mbxMask
  | 0x30 => s.hif.err
  | 0x34 => s.hif.errMask
  | _ => 0

/-! ## Vintner and cellar registers (R60 to R62, R495, R573) -/

/-- A write of a Vintner control register. An access there wakes HOST (R499). -/
def State.vntWrite (s : State) (off : Nat) (v : Word) : State :=
  let s := s.wakeHost
  let place (f : Vintner → Vintner) : State := if s.vnt.trEnable then s else s.vntM f
  match off with
  | 0x00 => if v.bit 0 then restart s else s
  | 0x10 => s.traceCtrl v
  | 0x14 => place fun k => { k with trBase := k.trBase / 4294967296 * 4294967296 + v.toNat }
  | 0x18 => place fun k => { k with trBase := v.toNat * 4294967296 + k.trBase % 4294967296 }
  | 0x20 => s.vntM fun k => { k with trSample := v.fld 15 0 }
  | _ => s

/-- What a Vintner control register reads as; VNT_TRACE_LOST is cleared by the read that VNT_TRACE_LOST's row makes. -/
def State.vntRead (s : State) (off : Nat) : Nat :=
  let v := s.vnt
  match off with
  | 0x04 => b2n v.running + 2 * b2n v.haltedMc + 4 * v.haltAddr + 65536 * v.perr
  | 0x08 => v.mcCount
  | 0x10 => b2n v.trEnable + 2 * b2n v.trMicro + 4 * b2n v.trCmd + 8 * b2n v.trPkt + 256 * v.trLog2 + 2147483648 * b2n v.trErr
  | 0x14 => v.trBase % 4294967296
  | 0x18 => v.trBase / 4294967296
  | 0x1C => v.trSeq
  | 0x20 => v.trSample
  | 0x24 => v.trLost
  | _ => 0

/-- A write in the cellar window. -/
def State.celWrite (s : State) (off : Nat) (v : Word) : State :=
  match off with
  | 0x04 => s.bookM fun b => { b with alert := clrMask b.alert (v.fld 3 0) }
  | 0x08 =>
    let t := s.bookM fun b => { b with alertMask := v.fld 3 0 }
    if unmasks t.book.alert s.book.alertMask t.book.alertMask then
      (t.smbM fun m => { m with alertReleased := false }).signalUnless 1 1
    else t
  | 0x100 => celBookSelect (v.fld 12 0) s
  | _ => s

/-- What a register of the cellar window reads as. -/
def State.celRead (s : State) (off : Nat) : Nat :=
  let b := s.book
  if 0x200 ≤ off ∧ off < 0x300 then leNat (bytesAt b.buf (off - 0x200) 4)
  else
    match off with
    | 0x00 => b2n s.pins.refclk + 2 * b2n (!s.pins.refclk) + 4 * b2n b.mounted
    | 0x04 => b.alert
    | 0x08 => b.alertMask
    | 0x100 => b.select
    | 0x104 => 2 * b.slot + 8 * b2n b.fresh
    | 0x108 => b.marker.headSeq
    | 0x10C => b.marker.headIdx
    | 0x110 => b.marker.safeSeq
    | 0x114 => b.dropped
    | _ => 0

/-! ## The map -/

/-- Offsets of registers that stand alone. -/
def singleRegs : List Nat :=
  [0x0000, 0x0004, 0x0008, 0x000C, 0x0010, 0x0014, 0x0018, 0x001C, 0x0020, 0x0024, 0x0028, 0x3080, 0x3084, 0x3088,
   0x4000, 0x4004, 0x4010, 0x4014, 0x4020, 0x4024, 0x4030, 0x4034, 0x5000, 0x5004, 0x5008, 0x5010, 0x5014, 0x5018, 0x501C, 0x5020,
   0x5024, 0x6000, 0x6004, 0x8000, 0x8004, 0x8008, 0x8100, 0x8104, 0x8108, 0x810C, 0x8110, 0x8114]

/-- An offset the BAR0 map lists, naturally aligned (R45). -/
def regListed (off : Nat) : Bool :=
  off % 4 == 0 &&
    (singleRegs.contains off || (decide (0x100 ≤ off) && decide (off < 0x118)) || (decide (0x140 ≤ off) && decide (off < 0x1C0))
      || (decide (0x1000 ≤ off) && decide (off < 0x10C0)) || (decide (0x2000 ≤ off) && decide (off < 0x2400))
      || (decide (0x3000 ≤ off) && decide (off < 0x3080)) || (decide (0x8200 ≤ off) && decide (off < 0x8300)))

/-- What a write of a register does. -/
def State.regWrite (s : State) (off : Nat) (v : Word) : State :=
  if !regListed off then s
  else if off = 0x20 then s.hifM fun h => { h with scratch := v }
  else if off = 0x24 then hifReset v s
  else if off < 0x100 then s
  else if off < 0x140 then s.ringDoorbell ((off - 0x100) / 4) v
  else if off < 0x180 then s.txDoorbell ((off - 0x140) / 4) v
  else if off < 0x1000 then s.rxDoorbell ((off - 0x180) / 4) v
  else if off < 0x2000 then s.ringWrite ((off - 0x1000) / 32) ((off - 0x1000) % 32) v
  else if off < 0x3000 then s.mbxWrite ((off - 0x2000) / 64) ((off - 0x2000) % 64) v
  else if off < 0x3080 then s.lockWrite ((off - 0x3000) / 4) 1 (v.bit 0) (v.bit 31)
  else if off < 0x4000 then s
  else if off < 0x5000 then s.irqWrite (off - 0x4000) v
  else if off < 0x6000 then s.vntWrite (off - 0x5000) v
  else if off = 0x6000 then s.hifM fun h => { h with prfUserEn := h.prfUserEn / 4294967296 * 4294967296 + v.toNat }
  else if off = 0x6004 then s.hifM fun h => { h with prfUserEn := v.toNat * 4294967296 + h.prfUserEn % 4294967296 }
  else s.celWrite (off - 0x8000) v

/-- What a register reads as; a read that also acts (a lock, VNT_TRACE_LOST) is a command of its own. -/
def State.regRead (s : State) (off : Nat) : Nat :=
  if !regListed off then 0
  else if off < 0x100 then
    match off with
    | 0x00 => hifPart
    | 0x04 => s.hifMode
    | 0x08 => Config.microcodeId
    | 0x0C => s.mode.bootCount
    | 0x10 => s.hifStatus
    | 0x14 => s.pins.straps
    | 0x18 => Config.serialFuse % 4294967296
    | 0x1C => Config.serialFuse / 4294967296 % 4294967296
    | 0x20 => s.hif.scratch.toNat
    | 0x28 => s.mode.resetKind
    | _ => 0
  else if off < 0x140 then (s.ring ((off - 0x100) / 4)).host
  else if off < 0x180 then (s.txRing ((off - 0x140) / 4)).host
  else if off < 0x1000 then (s.rxRing ((off - 0x180) / 4)).host
  else if off < 0x2000 then (s.ring ((off - 0x1000) / 32)).read ((off - 0x1000) % 32)
  else if off < 0x3000 then (nth s.mbx ((off - 0x2000) / 64) {}).read ((off - 0x2000) % 64)
  else if off = 0x3080 then s.lockHeld
  else if off = 0x3084 then s.lockOwners 0
  else if off = 0x3088 then s.lockOwners 16
  else if off < 0x4000 then 0
  else if off < 0x5000 then s.irqRead (off - 0x4000)
  else if off < 0x6000 then s.vntRead (off - 0x5000)
  else if off = 0x6000 then s.hif.prfUserEn % 4294967296
  else if off = 0x6004 then s.hif.prfUserEn / 4294967296
  else s.celRead (off - 0x8000)

end Sys2Proof.Machine
end

