-- ==== Sys2Proof/Machine/HostLink.lean ====
section
/-!
DEFINITION. Accesses of the host and of the SMBus, and what the host interface does by itself: doorbells, interrupts, mailboxes, locks, the SMBus target, Bus Master Enable and memory errors (R42 to R78).
-/
namespace Sys2Proof.Machine

/-- A BAR0 access reaches its register only while BAR0 answers. -/
def State.overBar (s : State) (t : State) : State := if s.barUp then t else s

/-! ## Interrupts (R59) -/

/-- Send the messages the pending-bit array holds for vectors no mask keeps back. -/
def State.flushPba (s : State) : State :=
  (setBits 64 s.hif.pba).foldl (fun s v =>
    if s.msixOpen v then (s.hifM fun h => { h with pba := clrBit h.pba v }).sendMsix v else s) s

/-- MSIX_VECTOR_UNMASK: a vector's mask bit, or the function mask, is cleared, where requests are completed normally (R43). -/
def msixVectorUnmask (vector : Option Nat) (s : State) : State :=
  if !s.barUp then s else
  (match vector with
   | some v => s.hifM fun h => { h with vecMask := clrBit h.vecMask (v % 64) }
   | none => s.hifM fun h => { h with funcMask := false, msixEnable := true }).flushPba

/-- HOLDOFF_EXPIRE: one message for all deferred, if the vector's cause still stands unmasked. -/
def holdoffExpire (v : Nat) (s : State) : State :=
  if !nbit s.hif.holdRun v then s
  else
    let deferred := nbit s.hif.holdDefer v
    let s := s.hifM fun h => { h with holdRun := clrBit h.holdRun v, holdDefer := clrBit h.holdDefer v }
    if deferred && s.vectorDue v then s.sendMsix v else s

/-! ## Bus Master Enable, replies and memory errors (R44, R54, R57) -/

/-- Write held replies, oldest first, while they fit. -/
def writeAllHeld : Nat → State → State
  | 0, s => s
  | n + 1, s =>
    match s.cmds.held with
    | [] => s
    | (r, _) :: _ => if s.replyFits r then writeAllHeld n s.writeHeld else s

/-- BUS_MASTER_ENABLE, from CONFIG on (R43): what was held is written in order when it is set. -/
def busMasterEnable (on : Bool) (s : State) : State :=
  if !s.barUp then s
  else
    let s := s.hifM fun h => { h with bme := on }
    if !on then s
    else
      let es := s.cmds.heldEvents
      let s := s.cmdsM fun c => { c with heldEvents := [] }
      let s := es.foldl (fun s e => s.writeEvent e) s
      (writeAllHeld s.cmds.held.length s).flushPba

/-- DMA_ERROR: a memory request for a ring fails; host traffic rings are 16 + t and 32 + r, as the capture names them. -/
def dmaError (ring : Nat) (s : State) : State :=
  let raise (s : State) : State := (s.setHifErr 2).fault 4 0x20 (if ring < 4 ∨ (16 ≤ ring ∧ ring < 32) then 1 else 2) ring 0
  if ring < 6 then
    if (s.ring ring).active then raise (s.ringM ring fun g => { g with active := false, dmaErr := true }) else s
  else if 16 ≤ ring ∧ ring < 32 then
    if (s.txRing (ring - 16)).size = 0 then s
    else raise ((s.txM (ring - 16) fun r => { r with size := 0 }).hstM fun h => { h with pieces := Tbl.del h.pieces (ring - 16) })
  else if 32 ≤ ring ∧ ring < 48 then
    if (s.rxRing (ring - 32)).size = 0 then s
    else raise (s.rxM (ring - 32) fun r => { r with size := 0, waiter := none, stalled := false })
  else s

/-- BAR0_BAD_ACCESS: misaligned, of the wrong width, or to an offset that is not listed; zero is read and nothing is written (R45). -/
def bar0BadAccess (offset bytes : Nat) (write : Bool) (s : State) : State :=
  let listed := regListed (offset / 4 * 4)
  let bad := offset % 4 != 0 || bytes != 4
  if !bad && listed then s
  else
    let s := if listed then s.setHifErr 3 else s
    if write then s else s.emit (.readData 0)

/-! ## Mailbox service (R69, R70) -/

/-- Codes the Vintner's mailboxes carry. -/
def mbxCode (b : Mbx) : Nat := (nth b.msg 0 0#32).fld 15 0

/-- The Vintner accepts a posted message of a code that satisfies `p`, or finds one accepted already, acts on it and acknowledges it. -/
def State.mbxService (s : State) (m : Nat) (p : Nat → Bool) (act : State → State) : State :=
  let b := nth s.mbx m {}
  if m < 8 && s.vnt.running && (b.state == .posted || b.state == .accepted) && p (mbxCode b) then
    if (nth b.msg 0 0#32).fld 31 16 != 0 then s.mbxAck m 0xFFFE 0
    else (act s).mbxAck m (if mbxCode b < 4 then 0 else 0xFFFF) 0
  else s

/-- Every enabled write-back word is written. -/
def State.writeBacks (s : State) : State :=
  if !s.hif.bme then s
  else
    let s := (List.range 6).foldl (fun s r =>
      let g := s.ring r
      if g.active && g.wbEn then s.emit (.writeBack r g.wb (writeBackWord g.engine s.ns32)) else s) s
    let back (at_ : Nat) (s : State) (e : Nat × HRing) : State :=
      if e.2.size != 0 && e.2.wbEn then s.emit (.hostWriteBack (at_ + e.1) e.2.wb (writeBackWord e.2.engine s.ns32)) else s
    s.hst.rx.foldl (back 32) (s.hst.tx.foldl (back 16) s)

/-- OVERFLOW_NOTICE: the lost events are posted in mailbox 8 once it is empty. -/
def overflowNotice (s : State) : State :=
  if s.cmds.lost != 0 && (nth s.mbx 8 {}).state == .empty && s.vnt.running then
    let w := 1#32 :: w64 s.cmds.lost
    let s := s.mbxM fun l => updAt l 8 fun b => { b with msg := w ++ List.replicate 9 0#32 }
    (s.cmdsM fun c => { c with lost := 0 }).wakeHost.mbxPost 8
  else s

/-! ## Locks (R72) -/

/-- What a master's read of a lock answers: master 3 over Trellis, with LOCK_RESULT. -/
def State.lockAnswer (s : State) (n m : Nat) : State :=
  let (r, o, s) := s.lockRead n m
  if m = 2 then s.smbAnswer (0x40 + n) false [by8 (r + 16 * o)]
  else if m = 3 then s.twinSend 2 0x33 [by8 n, 0#8, by8 r, by8 o]
  else s.emit (.readData (r + 256 * o))

/-- LOCK_ACQUIRE: the masters whose reads reach the cellar in one cycle; the lowest is served first. -/
def lockAcquire (n : Nat) (masters : List Nat) (s : State) : State :=
  if 32 ≤ n then s
  else
    ([0, 1, 2, 3].filter fun m => masters.contains m && s.masterUp m).foldl (fun s m => s.lockAnswer n m) s

/-! ## SMBus (R74 to R78, R573) -/

/-- SMB_ALERT_N is asserted (R75). -/
def State.smbAlert (s : State) : Bool :=
  !s.smb.alertReleased && (s.smb.reply.isSome || s.celAlertN)

/-- The word STATUS reads as, code 0x30 (R76). -/
def State.smbStatus (s : State) : Nat := s.hifMode % 65536

/-- The byte ALERT reads as, code 0x31: CEL_ALERT (R76). -/
def State.smbAlertByte (s : State) : Nat := s.book.alert % 256

/-- ALERT_RESPONSE: the address, then the release of SMB_ALERT_N until a new cause. -/
def alertResponse (s : State) : State :=
  if !s.smbUp then s
  else if s.smbAlert then
    let b := by8 (2 * s.smbAddress)
    (s.emit (.smbusData [b, pecOf [0x19#8, b]])).smbM fun m => { m with alertReleased := true }
  else s.emit .smbusNack

/-- SMBUS_TIMEOUT: a partly assembled command goes. -/
def smbusTimeout (s : State) : State := s.smbM fun m => { m with assembly := none }

/-- TUNNEL_READ: the next part of the reply. -/
def tunnelRead (s : State) : State :=
  if !s.smbUp then s
  else
    match s.smb.reply with
    | none => s.smbAnswer 0x11 true [0x20#8]
    | some (b, k) =>
      let part := (b.drop k).take 254
      let last := decide (b.length ≤ k + part.length)
      let s := s.smbAnswer 0x11 true (by8 (128 * b2n (k == 0) + 64 * b2n last) :: part)
      s.smbM fun m => { m with reply := if last then none else some (b, k + part.length) }

/-- BOOK_SELECT: index, offset in units of 128 bytes, zeros elsewhere. -/
def bookSelect (data : Bytes) (pecOk : Bool) (s : State) : State :=
  let v := leNat data
  let off := nfld v 23 16
  if !s.smbUp then s
  else if !pecOk || data.length != 4 || nfld v 15 13 != 0 || nfld v 31 24 != 0 || decide (1 < off) then s.emit .smbusNack
  else s.smbM fun m => { m with bookIndex := v % 8192, bookOffset := 128 * off, bookBuf := s.record (v % 8192) }

/-- The record after one, as a read over SMBus goes on. -/
def nextRecord (i : Nat) : Nat := if i = 6143 then 0 else if i = 8191 then 6144 else i + 1

/-- BOOK_READ over SMBus: 128 bytes, and the position advances. -/
def smbusBookRead (s : State) : State :=
  if !s.smbUp then s
  else
    let m := s.smb
    let s := s.smbAnswer 0x21 true (bytesAt m.bookBuf m.bookOffset 128)
    if m.bookOffset = 0 then s.smbM fun m => { m with bookOffset := 128 }
    else
      let i := nextRecord m.bookIndex
      s.smbM fun m => { m with bookIndex := i, bookOffset := 0, bookBuf := s.record i }

/-- SMBUS_LOCK_ACQUIRE. -/
def smbusLockAcquire (n : Nat) (s : State) : State := if s.smbUp then lockAcquire n [2] s else s

/-- SMBUS_LOCK_RELEASE. -/
def smbusLockRelease (n : Nat) (data : Byte) (pecOk : Bool) (s : State) : State :=
  if !s.smbUp then s
  else if !pecOk then s.emit .smbusNack
  else if data = 1#8 then s.lockFree n 2
  else s

/-! ## Meanings -/

/-- HIF_DB. -/
def execHifDb (r : Nat) (value : Word) (s : State) : Host.Outcome State Fault Refusal :=
  (s.overBar (if r < 6 then s.ringDoorbell r value else s)).done
/-- HIF_TXDB. -/
def execHifTxdb (t : Nat) (value : Word) (s : State) : Host.Outcome State Fault Refusal :=
  (s.overBar (if t < 16 then s.txDoorbell t value else s)).done
/-- HIF_RXDB. -/
def execHifRxdb (r : Nat) (value : Word) (s : State) : Host.Outcome State Fault Refusal :=
  (s.overBar (if r < 16 then s.rxDoorbell r value else s)).done
/-- RING_ENABLE: a write of HIF_RING_CTRL. -/
def execRingEnable (r : Nat) (value : Word) (s : State) : Host.Outcome State Fault Refusal :=
  (s.overBar (if r < 6 then s.ringCtrl r value else s)).done
/-- RING_DISABLE: a write of HIF_RING_CTRL. -/
def execRingDisable (r : Nat) (value : Word) (s : State) : Host.Outcome State Fault Refusal :=
  (s.overBar (if r < 6 then s.ringWrite r 0x0C value else s)).done
/-- IRQ_MASK_WRITE: a write of the interrupt block, or of CEL_ALERT_MASK. -/
def execIrqMaskWrite (offset : Nat) (value : Word) (s : State) : Host.Outcome State Fault Refusal :=
  (s.overBar (if offset = 0x8008 then s.celWrite 8 value else if offset / 4096 = 4 then s.irqWrite (offset - 0x4000) value else s)).done
/-- REGISTER_WRITE. -/
def execRegisterWrite (offset : Nat) (value : Word) (s : State) : Host.Outcome State Fault Refusal := (s.overBar (s.regWrite offset value)).done
/-- HIF_RESET. -/
def execHifReset (value : Word) (s : State) : Host.Outcome State Fault Refusal := (s.overBar (hifReset value s)).done
/-- CEL_BOOK_SELECT. -/
def execCelBookSelect (value : Word) (s : State) : Host.Outcome State Fault Refusal := (s.overBar (celBookSelect (value.fld 12 0) s)).done
/-- RESTART: a write of VNT_CONTROL.RESTART. -/
def execRestart (s : State) : Host.Outcome State Fault Refusal := (s.overBar (restart s.wakeHost)).done
/-- TRACE_ENABLE: a write of VNT_TRACE_CTRL. -/
def execTraceEnable (value : Word) (s : State) : Host.Outcome State Fault Refusal := (s.overBar (s.wakeHost.traceCtrl value)).done
/-- VNT_TRACE_LOST: the read that clears the count. -/
def execVntTraceLost (s : State) : Host.Outcome State Fault Refusal :=
  (s.overBar ((s.wakeHost.emit (.readData s.vnt.trLost)).vntM fun v => { v with trLost := 0 })).done
/-- BAR0_BAD_ACCESS. -/
def execBar0BadAccess (offset bytes : Nat) (write : Bool) (s : State) : Host.Outcome State Fault Refusal :=
  (s.overBar (bar0BadAccess offset bytes write s)).done
/-- MBX_MSG: a write of word k of a message by a master. -/
def execMbxMsg (m k : Nat) (value : Word) (master : Nat) (s : State) : Host.Outcome State Fault Refusal :=
  (if s.masterUp master then if m < 16 ∧ k < 12 then s.mbxWord m k value master else s else s).done
/-- SEND. -/
def execSend (m master : Nat) (s : State) : Host.Outcome State Fault Refusal := (if s.masterUp master then if m < 16 then s.mbxSend m master else s else s).done
/-- WITHDRAW. -/
def execWithdraw (m master : Nat) (accepting : Bool) (s : State) : Host.Outcome State Fault Refusal :=
  (if s.masterUp master then if m < 16 then s.mbxWithdraw m master accepting else s else s).done
/-- RELEASE. -/
def execRelease (m master : Nat) (s : State) : Host.Outcome State Fault Refusal := (if s.masterUp master then if m < 16 then s.mbxRelease m master else s else s).done
/-- ACCEPT. -/
def execAccept (m master : Nat) (s : State) : Host.Outcome State Fault Refusal := (if s.masterUp master then if m < 16 then s.mbxAccept m master else s else s).done
/-- MBX_ACK. -/
def execMbxAck (m : Nat) (code : BitVec 16) (master : Nat) (s : State) : Host.Outcome State Fault Refusal :=
  (if s.masterUp master then if m < 16 then s.mbxAck m code.toNat master else s else s).done
/-- MBX_NOP: also a message of no defined code. -/
def execMbxNop (m : Nat) (s : State) : Host.Outcome State Fault Refusal := (s.mbxService m (fun c => c == 0 || decide (3 < c)) id).done
/-- RING_RESCAN. -/
def execRingRescan (m : Nat) (s : State) : Host.Outcome State Fault Refusal := (s.mbxService m (· == 1) State.writeBacks).done
/-- HOLD_HOST. -/
def execHoldHost (m : Nat) (s : State) : Host.Outcome State Fault Refusal :=
  (s.mbxService m (· == 2) fun s => (s.wakeHost).pwrM fun p => { p with holdHost := true }).done
/-- HOST_RELEASE. -/
def execHostRelease (m : Nat) (s : State) : Host.Outcome State Fault Refusal :=
  (s.mbxService m (· == 3) fun s => s.pwrM fun p => { p with holdHost := false }).done
/-- OVERFLOW_NOTICE. -/
def execOverflowNotice (s : State) : Host.Outcome State Fault Refusal := (overflowNotice s).done
/-- LOCK_ACQUIRE. -/
def execLockAcquire (n : Nat) (masters : List Nat) (s : State) : Host.Outcome State Fault Refusal := (lockAcquire n masters s).done
/-- LOCK_RELEASE. -/
def execLockRelease (n master : Nat) (s : State) : Host.Outcome State Fault Refusal := (if s.masterUp master then s.lockWrite n master true false else s).done
/-- FORCE: RELEASE with FORCE. -/
def execForce (n master : Nat) (s : State) : Host.Outcome State Fault Refusal := (if s.masterUp master then s.lockWrite n master true true else s).done
/-- BUS_MASTER_ENABLE. -/
def execBusMasterEnable (on : Bool) (s : State) : Host.Outcome State Fault Refusal := (busMasterEnable on s).done
/-- REPLY_WRITE. -/
def execReplyWrite (s : State) : Host.Outcome State Fault Refusal := s.writeHeld.done
/-- HOLDOFF_EXPIRE. -/
def execHoldoffExpire (v : Nat) (s : State) : Host.Outcome State Fault Refusal := (holdoffExpire v s).done
/-- DMA_ERROR. -/
def execDmaError (ring : Nat) (s : State) : Host.Outcome State Fault Refusal := (dmaError ring s).done
/-- MSIX_VECTOR_UNMASK. -/
def execMsixVectorUnmask (vector : Option Nat) (s : State) : Host.Outcome State Fault Refusal := (msixVectorUnmask vector s).done
/-- TUNNEL_READ. -/
def execTunnelRead (s : State) : Host.Outcome State Fault Refusal := (tunnelRead s).done
/-- BOOK_SELECT. -/
def execBookSelect (data : Bytes) (pecOk : Bool) (s : State) : Host.Outcome State Fault Refusal := (bookSelect data pecOk s).done
/-- SMBUS_BOOK_READ. -/
def execSmbusBookRead (s : State) : Host.Outcome State Fault Refusal := (smbusBookRead s).done
/-- SMBUS_LOCK_ACQUIRE. -/
def execSmbusLockAcquire (n : Nat) (s : State) : Host.Outcome State Fault Refusal := (smbusLockAcquire n s).done
/-- SMBUS_LOCK_RELEASE. -/
def execSmbusLockRelease (n : Nat) (data : Byte) (pecOk : Bool) (s : State) : Host.Outcome State Fault Refusal := (smbusLockRelease n data pecOk s).done
/-- ALERT_RESPONSE. -/
def execAlertResponse (s : State) : Host.Outcome State Fault Refusal := (alertResponse s).done
/-- SMBUS_TIMEOUT. -/
def execSmbusTimeout (s : State) : Host.Outcome State Fault Refusal := (smbusTimeout s).done

end Sys2Proof.Machine
end

