-- ==== Sys2Proof/Machine/Diag.lean ====
section
/-!
DEFINITION. Diagnostics: loopbacks, memory tests and the test access port (R603 to R605, R622, R623).
-/
namespace Sys2Proof.Machine

/-! ## Loopbacks and memory tests -/

/-- DIAG_LOOPBACK. -/
def diagLoopback (c : Packet) (s : State) : Res :=
  let m := (c.w 0).fld 1 0
  checks [objBelow c 64, (s.hasPort c.obj, .notFound, 0), reserved c 0 3,
      (!(m == 2 && (s.mport c.obj).cipher && s.mode.mode == .diagnostic), .conflict, 1)]
    (.ok (s.mportM c.obj fun p => { p with loopback := m }))

/-- DIAG_MEM_TEST. -/
def diagMemTest (c : Packet) (s : State) : Res := checks [objBelow c 13] (.pend 0 s)

/-- Size of a row of the SRAM table in MiB (R12). -/
def rowMiB (r : Nat) : Nat := nth [121, 8, 4, 32, 16, 24, 12, 16, 8, 6, 5, 3] r 0

/-- What a test of an SRAM row finds: corrected and uncorrectable errors, and the offset of the first uncorrectable one. -/
def State.testRow (s : State) (r : Nat) : Nat × Nat × Nat × State :=
  let (n, s) := s.takePlanted [0x20 + r, 0x30 + r]
  let at_ := 64 * (Config.freeValue s.free % (rowMiB r * 16384))
  if n = 0 then (0, 0, 18446744073709551615, s)
  else if n = 1 then (1, 0, 18446744073709551615, s.drawn.fault (0x20 + r) 0x50 7 at_ 0)
  else (0, 1, at_, s.drawn.fault (0x30 + r) 0x50 7 at_ 0)

/-- The shadow's own errors, as a test of row 10 meets them: single bits are corrected. -/
def State.testShadow (s : State) : Nat × Nat × State :=
  let ce := s.tcam.shadowErr.filter fun e => e.2 == 1
  let ue := s.tcam.shadowErr.filter fun e => e.2 != 1
  let s := ce.foldl (fun s e => s.fault 0x44 0x50 7 (e.1 / 2048 * 65536 + e.1 % 2048) 0) s
  let s := ue.foldl (fun s e => s.fault 0x45 0x50 7 (e.1 / 2048 * 65536 + e.1 % 2048) 0) s
  (ce.length, ue.length, s.tcamM fun t => { t with shadowErr := ue })

/-- Rows of either replica whose cells differ from the shadow. -/
def State.tcamDiffs (s : State) : List Nat :=
  (Tbl.keys s.tcam.diffA).filter (fun r => s.tcam.cells false r != s.tcam.shadowCells r)
    ++ (Tbl.keys s.tcam.diffB).filter (fun r => s.tcam.cells true r != s.tcam.shadowCells r)

/-- The six reply words. -/
def testWords (checked ce ue first : Nat) : List Word := w64 checked ++ [wd ce, wd ue] ++ w64 first

/-- DIAG_MEM_TEST_DONE: the oldest test in progress ends with its counts. -/
def diagMemTestDone (s : State) : State :=
  match s.parked 0x1111 with
  | none => s
  | some t =>
    let r := t.pkt.obj
    let (ws, s) :=
      if r = 12 then
        let ds := s.tcamDiffs
        let first := match ds with
          | d :: _ => d / 2048 * 65536 + d % 2048
          | [] => 18446744073709551615
        (testWords 262144 0 ds.length first, s)
      else
        let (ce, ue, first, s) := s.testRow r
        let (ce2, ue2, s) := if r = 10 then s.testShadow else (0, 0, s)
        (testWords (rowMiB r * 16384) (ce + ce2) (ue + ue2) (if ue = 0 ∧ ue2 ≠ 0 then 0 else first), s)
    s.completePended (fun x => x == t) .ok 0 ws

/-! ## Test access port (R622, R623) -/

/-- Cells of the boundary register. -/
def boundaryCells : Nat := 1402

/-- The next controller state of IEEE 1149.1. -/
def TapState.next (t : TapState) (tms : Bool) : TapState :=
  match t, tms with
  | .reset, true => .reset
  | .reset, false => .idle
  | .idle, true => .selectDr
  | .idle, false => .idle
  | .selectDr, true => .selectIr
  | .selectDr, false => .captureDr
  | .captureDr, true => .exit1Dr
  | .captureDr, false => .shiftDr
  | .shiftDr, true => .exit1Dr
  | .shiftDr, false => .shiftDr
  | .exit1Dr, true => .updateDr
  | .exit1Dr, false => .pauseDr
  | .pauseDr, true => .exit2Dr
  | .pauseDr, false => .pauseDr
  | .exit2Dr, true => .updateDr
  | .exit2Dr, false => .shiftDr
  | .updateDr, true => .selectDr
  | .updateDr, false => .idle
  | .selectIr, true => .reset
  | .selectIr, false => .captureIr
  | .captureIr, true => .exit1Ir
  | .captureIr, false => .shiftIr
  | .shiftIr, true => .exit1Ir
  | .shiftIr, false => .shiftIr
  | .exit1Ir, true => .updateIr
  | .exit1Ir, false => .pauseIr
  | .pauseIr, true => .exit2Ir
  | .pauseIr, false => .pauseIr
  | .exit2Ir, true => .updateIr
  | .exit2Ir, false => .shiftIr
  | .updateIr, true => .selectDr
  | .updateIr, false => .idle

/-- The data registers an instruction selects. -/
inductive TapReg
  | idcode | boundary | bypass
deriving DecidableEq, Repr

/-- The data register in force: EXTEST, EXTEST_PULSE and EXTEST_TRAIN select the boundary register only in FACTORY_TEST (R623). -/
def State.tapReg (s : State) : TapReg :=
  let factory := s.mode.mode == .factoryTest
  match s.tap.ir with
  | 0x01 => .idcode
  | 0x02 => .boundary
  | 0x00 | 0x09 | 0x0A => if factory then .boundary else .bypass
  | _ => .bypass

/-- Length of a data register. -/
def TapReg.len : TapReg → Nat
  | .idcode => 32 | .boundary => boundaryCells | .bypass => 1

/-- A rising edge of TCK: capture and shift in the present state, then the next state. -/
def State.tckRise (s : State) (tms tdi : Bool) : State :=
  let t := s.tap
  let r := s.tapReg
  let shiftIn (v len : Nat) : Nat := v / 2 + b2n tdi * 2 ^ (len - 1)
  let s := match t.st with
    | .captureIr => s.drawn.tapM fun t => { t with irShift := Config.freeValue s.free % 64 * 4 + 1 }
    | .shiftIr => s.tapM fun t => { t with irShift := shiftIn t.irShift 8 }
    | .captureDr =>
      match r with
      | .idcode => s.tapM fun t => { t with drShift := 0x10960E5B }
      | .bypass => s.tapM fun t => { t with drShift := 0 }
      | .boundary => s.drawn.tapM fun t => { t with drShift := Config.freeValue s.free % 2 ^ boundaryCells }
    | .shiftDr => s.tapM fun t => { t with drShift := shiftIn t.drShift r.len }
    | _ => s
  s.tapM fun t => { t with st := t.st.next tms }

/-- A falling edge of TCK: updates take effect, and TDO changes. -/
def State.tckFall (s : State) : State :=
  let r := s.tapReg
  s.tapM fun t =>
    match t.st with
    | .reset => { t with ir := 1, tdo := none }
    | .shiftIr => { t with tdo := some (nbit t.irShift 0) }
    | .shiftDr => { t with tdo := some (nbit t.drShift 0) }
    | .updateIr => { t with ir := t.irShift % 256, tdo := none }
    | .updateDr => { t with boundary := if r == TapReg.boundary then t.drShift else t.boundary, tdo := none }
    | _ => { t with tdo := none }

/-- TEST_ACCESS_PORT: TRST_N low (0) or high (1), or TCK rising (2) or falling (3), with the levels on TMS and TDI. The port works while the rails are up. -/
def testAccessPort (edge : Nat) (tms tdi : Bool) (s : State) : State :=
  if !s.coreUp then s
  else
    match edge with
    | 0 => s.tapM fun t => { t with trstN := false, st := .reset, ir := 1, tdo := none }
    | 1 => s.tapM fun t => { t with trstN := true }
    | 2 => if s.tap.trstN then s.tckRise tms tdi else s
    | _ => if s.tap.trstN then s.tckFall else s

/-- DIAG_MEM_TEST_DONE. -/
def execDiagMemTestDone (s : State) : Host.Outcome State Fault Refusal := (diagMemTestDone s).done
/-- TEST_ACCESS_PORT. -/
def execTestAccessPort (edge : Nat) (tms tdi : Bool) (s : State) : Host.Outcome State Fault Refusal := (testAccessPort edge tms tdi s).done

end Sys2Proof.Machine
end

