-- ==== Sys2Proof/Machine/System.lean ====
section
/-!
DEFINITION. The system class: NOP, SYNC_SUMMARY, DEVICE_IDENTITY, KWK_ESTABLISH and MODE_SET (R25 to R33, R101, R107 to R114, R464, R484).
-/
namespace Sys2Proof.Machine

/-! ## NOP -/

/-- NOP (R101). -/
def nop (c : Packet) (s : State) : Res := checks [objZero c] (.ok s)

/-! ## SYNC_SUMMARY (R107 to R110) -/

/-- The mode block; HIF_STATUS is zero in the reduced form. -/
def State.sumMode (s : State) (hifStatus : Nat) : Bytes :=
  leBytes 4 (s.hifMode % 65536) ++ leBytes 4 s.mode.history ++ leBytes 4 s.mode.bootCount ++ leBytes 4 hifStatus

/-- State of a ring tag: 0 free, 1 waiting to start, 2 executing, 3 PENDING written; then its ring and waiting on FENCE. -/
def Tag.summary (t : Tag) : Nat :=
  let ring := match t.pkt.path with
    | .ring r => r
    | .tunnel => 0
  let phase := match t.phase with
    | .waiting => 1
    | .pended => 3
    | .running => 2
    | .done => 2
  phase + 4 * (ring % 4) + 16 * b2n (t.phase == .waiting && (t.pkt.fence || t.opcode == 6))

/-- The tag a number names among the ring tags. -/
def State.ringTag (s : State) (n : Nat) : Option Tag :=
  s.cmds.tags.find? fun t => t.pkt.path != .tunnel && t.pkt.tagNo == n

/-- The tag map: bit t mod 8 of byte t / 8. -/
def State.sumTagMap (s : State) : Bytes :=
  (List.range 512).map fun i => by8 (sumL ((List.range 8).map fun j => b2n (s.ringTag (8 * i + j)).isSome * 2 ^ j))

/-- The tag states, a byte each. -/
def State.sumTags (s : State) : Bytes := (List.range 4096).map fun n => by8 ((s.ringTag n).map Tag.summary |>.getD 0)

/-- The ring block. -/
def State.sumRings (s : State) : Bytes :=
  (List.range 6).flatMap fun r =>
    leBytes 2 (s.ring r).engine ++ leBytes 2 (s.ring r).host ++ leBytes 4 ((s.ring r).read 0x1C)

/-- The vintage block. -/
def State.sumVint (s : State) : Bytes :=
  let v := s.vin
  let h := (v.vint.map fun (x : Vintage) => x.handle).getD 0
  let ops := (v.vint.map fun (x : Vintage) => x.ops).getD 0
  let waiting := (v.vint.map fun (x : Vintage) => b2n (x.state == .waitSlot)).getD 0
  v.slots.flatMap (fun x => leBytes 2 (if x.live then x.epoch else 0))
    ++ [by8 (sumL ((List.range 4).map fun i => b2n (nth v.slots i {}).live * 2 ^ i)), by8 v.cur, 0#8, 0#8]
    ++ leBytes 4 h ++ leBytes 4 ops ++ leBytes 4 waiting ++ List.replicate 8 0#8

/-- Parameter bytes of staged commands. -/
def batchBytes (l : List Staged) : Nat := sumL (l.map fun x => 4 * x.pkt.params.length)

/-- The batch block. -/
def State.sumBatch (s : State) : Bytes :=
  leBytes 4 (b2n s.cmds.batchOpen) ++ leBytes 4 s.cmds.staged.length ++ leBytes 4 (batchBytes s.cmds.staged) ++ leBytes 4 0

/-- The mailbox block. -/
def State.sumMbx (s : State) : Bytes :=
  (List.range 16).flatMap fun m =>
    let b := nth s.mbx m {}
    [by8 b.state.code, by8 b.reason] ++ leBytes 2 b.ack

/-- The lock block. -/
def State.sumLocks (s : State) : Bytes :=
  leBytes 4 s.lockHeld ++ leBytes 4 (s.lockOwners 0) ++ leBytes 4 (s.lockOwners 16) ++ leBytes 4 0

/-- The fault block. -/
def State.sumFaults (s : State) : Bytes :=
  let caps := s.flt.first.flatMap Capture.bytes
  s.flt.classCount.flatMap (leBytes 4) ++ wordsBytes ((List.range 16).map s.pendingWord) ++ bytesAt caps 0 256

/-- The twin block. -/
def State.sumTwin (s : State) : Bytes :=
  let t := s.twin
  let auth := decide (3 ≤ t.st.code) && t.st != .authFailed
  [by8 t.st.code, by8 (b2n t.linkUp + 2 * b2n auth + 4 * b2n (decide (5 ≤ t.st.code)) + 8 * b2n t.stale), by8 t.partnerMode]
    ++ List.replicate 13 0#8 ++ bytesAt (t.fingerprint.getD []) 0 48

/-- The power block. -/
def State.sumPower (s : State) : Bytes := s.domBytes ++ [by8 (s.sliceMask .inService), 0#8, 0#8, 0#8]

/-- The DDR5 block. -/
def State.sumDdr (s : State) : Bytes :=
  (List.range 4).flatMap fun i =>
    let c := nth s.ddr.chans i {}
    [by8 c.st.code, by8 c.ranks] ++ leBytes 2 c.gib ++ leBytes 4 (nth c.counts 0 0)

/-- The time block. -/
def State.sumTime (s : State) : Bytes :=
  let t := s.time
  time12 t.record.t ++ [by8 (b2n t.recordSet), by8 s.lineSource, by8 t.domA.servo.code, by8 t.domB.servo.code]
    ++ time12 t.line.t ++ List.replicate 36 0#8

/-- The sixteen bytes of a port. -/
def State.sumPort (s : State) (p : Nat) : Bytes :=
  let m := s.mport p
  let b := s.lb p
  let paused := m.pause != 0 || m.pfc.any (· != 0)
  [by8 (b2n m.cipher), by8 (b2n m.up), by8 (s.egress p).code,
   by8 (b2n paused + 2 * b2n (b.xoffOn || b.pfcOn != 0) + 4 * b2n m.tripped)]
    ++ leBytes 4 (if s.hasPort p then s.portMbps p else 0) ++ leBytes 8 (s.cport p).downDiscards

/-- The SA block. -/
def State.sumSas (s : State) : Bytes :=
  let k := s.cip
  leBytes 8 k.installs ++ leBytes 8 k.retirements ++ leBytes 8 k.exhaustions ++ leBytes 8 k.thresholds
    ++ leBytes 4 (k.sas.filter fun e => e.2.ctx.isSome || e.2.lost).length ++ leBytes 4 s.spilled ++ List.replicate 24 0#8

/-- The full form, 2,044 words (R109). -/
def State.summary (s : State) : Bytes :=
  s.sumMode s.hifStatus ++ s.sumTagMap ++ s.sumTags ++ s.sumRings ++ s.sumVint ++ s.sumBatch ++ s.sumMbx ++ s.sumLocks
    ++ s.sumFaults ++ s.sumTwin ++ s.sumPower ++ s.sumDdr ++ s.sumTime ++ (List.range 64).flatMap s.sumPort
    ++ s.sumSas ++ leBytes 8 s.cnt.snapId ++ List.replicate 8 0#8 ++ List.replicate 1760 0#8

/-- The reduced form, 30 words (R110). -/
def State.summaryReduced (s : State) : Bytes :=
  s.sumMode 0 ++ leBytes 4 (s.celRead 0) ++ leBytes 4 s.book.alert ++ s.sumMbx ++ s.sumLocks
    ++ leBytes 4 s.book.marker.safeSeq ++ leBytes 4 s.book.marker.safeBoot ++ List.replicate 8 0#8

/-- SYNC_SUMMARY. -/
def syncSummary (c : Packet) (s : State) : Res :=
  checks [objZero c] (.data (bytesWords (if s.mode.mode.isUp then s.summary else s.summaryReduced)) s)

/-! ## DEVICE_IDENTITY (R111, R112) -/

/-- Bytes 0x00 to 0xC7 of the reply: what the signature covers. -/
def State.identityBody (s : State) (nonce : Bytes) : Bytes :=
  let q := P384.pub (P384.scalar Config.identityKey)
  leBytes 4 hifPart ++ leBytes 4 (if s.mode.mode.isUp then Config.microcodeId else 0) ++ leBytes 8 Config.serialFuse
    ++ leBytes 4 s.mode.bootCount ++ leBytes 4 s.hifMode ++ nonce
    ++ beBytes 48 q.1 ++ beBytes 48 q.2 ++ P384.fingerprint q.1 q.2

/-- DEVICE_IDENTITY. -/
def deviceIdentity (c : Packet) (s : State) : Res :=
  checks [objZero c]
    (let b := s.identityBody (bytesAt c.bytes 0 32)
     let g := P384.sign (P384.scalar Config.identityKey) (P384.scalar (Config.ecdsaNonce s.free)) b
     .data (bytesWords (b ++ beBytes 48 g.1 ++ beBytes 48 g.2)) s.drawn)

/-! ## KWK_ESTABLISH (R113, R114) -/

/-- Key-wrap key and confirm value of a generation. -/
def State.kwkDerive (s : State) (gen : Nat) (b : Bytes) : Bytes × Bytes :=
  let x := bytesAt b 0 48
  let y := bytesAt b 48 48
  let z := P384.ecdh (P384.scalar Config.identityKey) (beNat x) (beNat y)
  let info := [0x47#8, 0x58#8, 0x39#8, 0x36#8, 0x30#8, 0x2D#8, 0x4B#8, 0x57#8, 0x4B#8]
    ++ leBytes 8 Config.serialFuse ++ leBytes 4 s.mode.bootCount ++ leBytes 4 gen
  let okm := Sha.hkdf z (bytesAt b 96 32) info 64
  (okm.take 32, (Sha.hmac (okm.drop 32) (x ++ y)).take 16)

/-- KWK_ESTABLISH. The point at infinity has no coordinates, so it is no point a packet can carry. -/
def kwkEstablish (c : Packet) (s : State) : Res :=
  checks [objZero c, (P384.onCurve (beAt c.bytes 0 48) (beAt c.bytes 48 48), .badParam, 16)]
    (let gen := (s.cmds.kwkGen + 1) % 4294967296
     let k := s.kwkDerive gen c.bytes
     .done .ok gen (bytesWords k.2) (s.cmdsM fun m => { m with kwkGen := gen, kwk := some k.1 }))

/-! ## MODE_SET (R25 to R32) -/

/-- The mode of a code. -/
def modeOf (n : Nat) : Mode :=
  nth [Mode.off, .dormant, .boot, .config, .forward, .twinActive, .twinStandby, .takeover, .drain, .safe, .diagnostic, .factoryTest] n .off

/-- The transitions MODE_SET may name (R25). -/
def modeAllowed (cur tgt : Mode) : Bool :=
  match cur, tgt with
  | .dormant, .boot => true
  | .config, .dormant => true
  | .config, .forward => true
  | .config, .twinStandby => true
  | .config, .twinActive => true
  | .config, .diagnostic => true
  | .forward, .twinActive => true
  | .forward, .drain => true
  | .twinActive, .forward => true
  | .twinActive, .twinStandby => true
  | .twinActive, .drain => true
  | .twinStandby, .drain => true
  | .diagnostic, .config => true
  | m, .safe => m.isUp
  | _, _ => false

/-- Why the twin cannot go on to a mode: the detail of R484, in its order. -/
def State.twinLacks (s : State) (tgt : Mode) : Option Nat :=
  let pair := s.twin.st == .paired || s.twin.st == .inSync
  match tgt with
  | .twinActive =>
    if !pair then some 1
    else if s.twin.partnerMode != 6 && !s.twin.partnerReq then some 2
    else if s.pins.ownIn then some 3
    else if s.twin.partnerStride != s.twin.strideLog2 then some 5
    else none
  | .twinStandby =>
    if !pair then some 1
    else if s.mode.mode == .twinActive && (s.twin.st != .inSync || s.twin.partnerMode != 6) then some 2
    else if s.twin.partnerStride != s.twin.strideLog2 then some 5
    else none
  | _ => none

/-- The detail of a transition that follows the reply: from, to, and the history count it brings. -/
def State.nextDetail (s : State) (tgt : Mode) : Nat :=
  s.mode.mode.code + 16 * tgt.code + 256 * ((s.mode.history + 1) % 16777216)

/-- Every domain in RUN but the isolated ones (R37). -/
def State.runAll (s : State) : State :=
  s.pwrM fun p => { p with
    waking := [], doms := (List.range 33).map fun d => if p.isolated.contains d then .off else .run }

/-- CONFIG from DIAGNOSTIC: loopbacks go, and TWIN is OFF unless enabled (R25, R497). -/
def State.leaveDiagnostic (s : State) : State :=
  let s := s.macM fun m => { m with ports := Tbl.mapV m.ports fun _ p => { p with loopback := 0 } }
  (s.goMode .config 1).twinDomain

/-- DRAIN begins: its timeout and where it came from; a standby leaves the pair as R30 says. -/
def State.startDrain (s : State) (ms : Nat) : State :=
  let from_ := s.mode.mode
  let s := ((s.modeM fun m => { m with drainFrom := from_, drainTimeout := ms }).goMode .drain 1).runM fun r => { r with wantOwn := false }
  if from_ == .twinStandby then
    let s := s.completePended (fun t => t.opcode == 0x0C02) .aborted 0 []
    let s := (s.runM fun r => { r with handoverIn := false, handoverOut := false, askedHandover := false }).abortVint
    if s.twin.up then s.twinGo .paired 0 else s
  else s

/-- The transition a MODE_SET that passed its checks names. -/
def State.modeChange (s : State) (tgt : Mode) (ms : Nat) : Res :=
  let ends (t : State) : Res := .done .ok t.modeDetail [] t
  match tgt with
  | .boot =>
    let t := s.requestBoot 1
    if t.mode.mode == .boot then ends t else if t.booting then .hold 0 t else .done .aborted 0 [] t
  | .dormant => .done .ok (s.nextDetail .dormant) [] (s.fltM fun f => { f with due := f.due ++ [.dormant] })
  | .safe => .done .ok (s.nextDetail .safe) [] (s.fltM fun f => { f with due := f.due ++ [.safe 1 none] })
  | .forward =>
    if s.mode.mode == .twinActive then
      let t := (s.goMode .forward 1).leaveActive
      ends (if t.twin.up then t.twinGo .paired 0 else t)
    else ends (s.goMode .forward 1).claimOwn
  | .twinActive => .pend 0 (s.modeM fun m => { m with pendingTarget := some .twinActive }).startSync
  | .twinStandby =>
    let t := s.modeM fun m => { m with pendingTarget := some .twinStandby }
    .pend 0 (if s.mode.mode == .twinActive then t.startHandover else t)
  | .drain => ends (s.startDrain ms)
  | .diagnostic => ends (s.goMode .diagnostic 1).runAll
  | .config => ends s.leaveDiagnostic
  | _ => .fail .badMode s.mode.mode.code

/-- MODE_SET. With the target equal to the current mode, both modes of the detail are the current one. -/
def modeSet (c : Packet) (s : State) : Res :=
  let w := c.w 0
  let n := w.fld 3 0
  let ms := w.fld 31 16
  let cur := s.mode.mode
  let tgt := modeOf n
  let twin := tgt == .twinActive || tgt == .twinStandby
  checks [objZero c, reserved c 0 0xFFFF000F, fieldIs 0 0 (n != 0 && decide (n < 12)), fieldIs 0 16 (n == 8 || ms == 0),
      (n != 8 || ms != 0, .badZero, 18), (n != 11, .badMode, cur.code), (!s.cmds.batchOpen, .conflict, 0),
      (s.mode.pendingTarget.isNone, .busy, 0)]
    (if tgt == cur then .done .ok (cur.code + 16 * cur.code + 256 * (s.mode.history % 16777216)) [] s
     else if !modeAllowed cur tgt then .fail .badMode cur.code
     else if twin && s.vin.vint.isSome then .fail .conflict 0
     else
       match s.twinLacks tgt with
       | some d => .fail .twinRefused d
       | none => s.modeChange tgt ms)

end Sys2Proof.Machine
end

