-- ==== Sys2Proof/Machine/Cmd.lean ====
section
/-!
DEFINITION. How a host command comes in and runs: fetch and arbitration, the checks of R85, ordering, staging in a vintage or a batch, completion, and the tunnel's writes (R24, R77, R79 to R92, R104 to R106).
-/
namespace Sys2Proof.Machine

/-! ## The configuration batch (R105, R106) -/

/-- The batchable commands and their effects. -/
def batchBody (op : Nat) : Option (Packet → State → Res) :=
  match op with
  | 0x0101 => some portSet
  | 0x0120 => some lbPortSet
  | 0x0210 => some fragConfig
  | 0x0609 => some meterProfileSet
  | 0x060A => some meterSet
  | 0x060C => some actionConfig
  | 0x0702 => some saSwitch
  | 0x0705 => some cipherPortSet
  | 0x0800 => some coreXpSet
  | 0x0801 => some coreColumnSet
  | 0x0811 => some poolColumnSet
  | 0x0813 => some poolQuotaSet
  | 0x0900 => some schedPortSet
  | 0x0901 => some schedGroupSet
  | 0x0902 => some schedQueueSet
  | 0x0A04 => some ptpPortSet
  | 0x0A10 => some pulseSet
  | 0x0A20 => some gateListSet
  | 0x0B02 => some segProfileSet
  | 0x0D00 => some powerPolicySet
  | 0x0E01 => some ddrConfig
  | 0x1003 => some faultReactionSet
  | _ => none

/-- The effect of one staged command on a state; none when it is inconsistent. -/
def applyStaged (x : Staged) (s : State) : Option State :=
  match batchBody x.opcode with
  | none => none
  | some f =>
    match f x.pkt s with
    | .done .ok _ _ t => some t
    | .done .okAdjusted _ _ t => some t
    | .hold _ t => some t
    | .pend _ t => some t
    | _ => none

/-- The objects as they would be with the staged commands in force: what a command staged after them is checked against. -/
def State.batchView (s : State) : State := s.cmds.staged.foldl (fun s x => (applyStaged x s).getD s) s

/-- Apply the staged commands in order; the tag of the first inconsistent one, or the state. -/
def applyBatch : List Staged → State → Except Nat State
  | [], s => .ok s
  | x :: l, s =>
    match applyStaged x s with
    | some t => applyBatch l t
    | none => .error x.pkt.tagNo

/-- Stage a command in the batch, after its full check. -/
def stageCmd (op : Nat) (body : Packet → State → Res) (c : Packet) (s : State) : Res :=
  let stage : Res :=
    if 1024 ≤ s.cmds.staged.length ∨ 262144 < batchBytes s.cmds.staged + 4 * c.params.length then .fail .noResource 0
    else .ok (s.cmdsM fun k => { k with staged := k.staged ++ [{ opcode := op, pkt := c }] })
  match body c s.batchView with
  | .fail st d => .fail st d
  | .failData st d ws => .failData st d ws
  | .done st d _ _ => if st = .ok ∨ st = .okAdjusted then stage else .fail st d
  | .pend _ _ => stage
  | .hold _ _ => stage

/-- CFG_BATCH_BEGIN. -/
def cfgBatchBegin (c : Packet) (s : State) : Res :=
  checks [objZero c, (!s.cmds.batchOpen, .conflict, 0)]
    (.ok (s.cmdsM fun k => { k with batchOpen := true, staged := [] }))

/-- The staged commands applied in order, under the path and tag of the CFG_BATCH_END that asks for it. -/
def State.batchDone (s : State) (c : Packet) : Except Nat State :=
  applyBatch (s.cmds.staged.map fun x => { x with pkt := { x.pkt with path := c.path, tag := c.tag } })
    s.noBatch

/-- Send the class 0x07 changes of a batch, as `t` holds them, under the tag of the CFG_BATCH_END: it waits for the standby's ACKs, and nothing is applied before them. -/
def State.mirrorBatch (s t : State) (c : Packet) : State :=
  let own (w : AckWait) : Bool := samePath w.path c.path && w.tag == c.tagNo
  let s := s.cmdsM fun k => { k with landing := true }
  (t.twin.waits.filter own).foldl (fun s w =>
    let s := s.sendOf t w.undo
    s.twinM fun k => { k with waits := k.waits ++ [{ w with counter := k.mirrorSent, undo := .batch }] }) s

/-- CFG_BATCH_END. Class 0x07 changes in TWIN_ACTIVE first go to the standby: refused there, the whole batch has no effect (R95, R465). DEDUCED: R465 has such a change applied and undone, R95 leaves every object of a failed command as it was. -/
def cfgBatchEnd (c : Packet) (s : State) : Res :=
  let n := s.cmds.staged.length
  let closed := s.noBatch
  let own (w : AckWait) : Bool := samePath w.path c.path && w.tag == c.tagNo
  checks [objZero c, reserved c 0 1, (s.cmds.batchOpen && !s.cmds.landing, .notFound, 0)]
    (if (c.w 0).bit 0 then .done .ok n [] closed
     else
       match s.batchDone c with
       | .error _ =>
         match applyBatch s.cmds.staged closed with
         | .error tag => .done .conflict tag [] closed
         | .ok _ => .done .conflict 0 [] closed
       | .ok t =>
         if t.twin.waits.any own then .hold 0 (s.mirrorBatch t c) else .done .ok n [] t)

/-- The standby has taken every change of the batch that waits for it: the batch is applied in one step, or found inconsistent with what has changed since. -/
def State.landBatch (s : State) : State :=
  if !s.cmds.landing || s.twin.waits.any (fun w => w.undo == .batch) then s
  else
    match s.parked 0x0005 with
    | none => s.noBatch
    | some t =>
      match applyBatch s.cmds.staged (s.noBatch.cmdsM fun k => { k with applying := true }) with
      | .ok u => u.noBatch.complete t.opcode t.pkt .ok s.cmds.staged.length []
      | .error tag => s.batchBack.complete t.opcode t.pkt .conflict tag []

/-- The commands that set something of a MAC port. PORT_SET is among them and may return the settings of the others to their defaults. -/
def portCmd (op : Nat) : Bool := [0x0101, 0x0120, 0x0705, 0x0900, 0x0A04, 0x0A20].contains op

/-- A staged command sets an object this one changes (R105 rule 6): the same object; a port that a new layout or a PORT_SET remakes; the minima, limits and quotas that a change of compatibility mode sets (R361, R364). -/
def Staged.meets (x : Staged) (op : Nat) (c : Packet) : Bool :=
  let samePort := portCmd x.opcode && decide (x.pkt.obj < 64) && x.pkt.obj == c.obj
  (x.opcode == op && x.pkt.obj == c.obj)
    || (samePort && (op == 0x0101 || (x.opcode == 0x0101 && portCmd op)))
    || (op == 0x0100 && portCmd x.opcode && decide (x.pkt.obj < 64) && x.pkt.obj / 8 == c.obj)
    || (op == 0x0812 && [0x0800, 0x0801, 0x0813].contains x.opcode)

/-! ## Ordering (R91, R107, R114) -/

/-- A command in flight that has neither completed nor written its PENDING reply. -/
def Tag.busy (t : Tag) : Bool := t.phase == .waiting || t.phase == .running

/-- A change of a prefix: those of all realms execute one at a time, in fetch order (R181). -/
def pfxChange (op : Nat) : Bool := op == 0x0311 || op == 0x0312 || op == 0x0313

/-- A command that names the open vintage. -/
def usesVintage (op : Nat) : Bool := (stagedBody op).isSome || op / 256 == 5

/-- An earlier command holds a later one of an opcode, as the three limits of R91, R181 and R237 say. The rules speak of rings and leave the tunnel open: here ring commands and tunnel commands neither order, fence nor hold one another, KWK_ESTABLISH among them. DESIGN CHOICE. -/
def Tag.holds (e : Tag) (op : Nat) (c : Packet) : Bool :=
  samePath e.pkt.path c.path
    && (if c.fence || op = 6 then e.phase != .done
        else if op = 1 then false
        else (e.busy && e.opcode != 1 && e.opcode / 256 == op / 256 && e.pkt.obj == c.obj)
          || (e.busy && pfxChange e.opcode && pfxChange op)
          || (e.busy && (op == 0x0502 || op == 0x0505) && usesVintage e.opcode && e.pkt.handle == c.handle)
          || (e.phase == .waiting && e.pkt.fence && e.pkt.path == c.path)
          || (e.busy && e.opcode == 6))

/-- Nothing fetched before it holds the command, and what executes it runs. -/
def State.mayStart (s : State) (op : Nat) (c : Packet) : Bool :=
  (s.vnt.running || !s.mode.mode.isUp)
    && (s.cmds.tags.takeWhile fun t => !t.isOf c).all fun e => !e.holds op c

/-! ## Running -/

/-- Change the tag of a packet. -/
def State.tagM (s : State) (c : Packet) (f : Tag → Tag) : State :=
  s.cmdsM fun k => { k with tags := k.tags.map fun t => if t.isOf c then f t else t }

/-- The conflict of a direct command with the open batch: it changes an object staged there (R105 rule 6), or it would leave its object inconsistent with the staged ones (R104). -/
def State.batchConflict (s : State) (op : Nat) (body : Packet → State → Res) (c : Packet) : Option Nat :=
  if s.cmds.staged.any (fun x => x.meets op c) && !(op == 0x0812 && (c.w 0).bit 0 == s.core.compat) then some 0
  else if (batchBody op).isSome || op == 0x0100 || op == 0x0810 then
    match body c s.batchView with
    | .fail .conflict d => some d
    | _ => none
  else none

/-- A direct command: its own checks go first, and a valid one is held against the commands staged in the open batch. -/
def directRun (op : Nat) (body : Packet → State → Res) (c : Packet) (s : State) : Res :=
  if s.cmds.staged.isEmpty then body c s
  else
    match body c s with
    | .fail st d => .fail st d
    | .failData st d ws => .failData st d ws
    | r =>
      match s.batchConflict op body c with
      | some d => .fail .conflict d
      | none => r

/-- Check 9 of R85, then the command itself, which makes check 10. The manual gives the failures of check 9 and no order among them; here the flags go before the handle, and a command that may not be batched at all ends with detail 2 (R105, R248). DESIGN CHOICE. -/
def checkedRun (op : Nat) (body : Packet → State → Res) (c : Packet) (s : State) : Res :=
  let i := (cmdInfo op).getD { op := op, lens := [] }
  let usesHandle := i.staged || op / 256 == 5
  checks [(!c.inBatch || i.batch, .badParam, 2), (!(c.inBatch && c.handle != 0#32), .badParam, 12),
      (!c.inBatch || (s.cmds.batchOpen && !s.cmds.landing), .conflict, 2), (usesHandle || c.handle == 0#32, .badParam, 12)]
    (if c.inBatch then stageCmd op body c s else directRun op body c s)

/-- A command as it starts: its tag is taken out of waiting, and the trace shows it. -/
def State.began (s : State) (op : Nat) (c : Packet) : State :=
  (s.tagM c fun t => { t with phase := .done }).trace s.vnt.trCmd 2 0 0 c.tagNo op []

/-- Domains whose tables or registers a command reaches (R12, R141, R208, R497, R506): LOOKUP, with the slices where each holds its copy; the cipher unit of an SA, a binding or a port; a column; SCHED. -/
def State.reachDoms (s : State) (op : Nat) (c : Packet) : List Nat :=
  let slices := (List.range 8).map (10 + ·)
  let ofSa (i : Nat) : List Nat := match s.sa i with
    | some r => [2 + r.group]
    | none => []
  match op / 256 with
  | 2 | 5 => 29 :: slices
  | 3 | 4 | 6 => [29]
  | 7 =>
    if op = 0x0700 then [2 + (c.w 1).fld 2 0]
    else if op = 0x0701 ∨ op = 0x0703 then ofSa c.obj
    else if op = 0x0702 ∨ op = 0x0706 then (match s.binding c.obj with
      | some b => if b.valid then [2 + b.group] else []
      | none => [])
    else if op = 0x0705 then [2 + c.obj / 8]
    else if op = 0x0707 ∧ c.obj < 8 then [2 + c.obj]
    else []
  | 8 =>
    if op = 0x0804 ∨ op = 0x0805 then [18 + portCol c.obj]
    else if op = 0x0800 ∨ op = 0x0802 ∨ op = 0x0813 ∨ op = 0x0815 then [18 + c.obj % 16]
    else [18 + c.obj]
  | 9 => [30]
  | _ => []

/-- A command that has reached its tables wakes the domains that slept (R506). -/
def State.reach (s : State) (op : Nat) (c : Packet) : State := (s.reachDoms op c).foldl (fun s d => s.wakeDom d) s

/-- What a result makes of the state it was found in: the reply and the end of the tag, or the tag parked; then the domains the command and the power policy keep awake. -/
def State.finish (s : State) (op : Nat) (c : Packet) (r : Res) : State :=
  State.powerCheck (match r with
    | .fail st d => s.complete op c st d []
    | .failData st d ws => s.complete op c st d ws
    | .done st d ws t => (t.reach op c).complete op c st d ws
    | .hold a t => (t.reach op c).tagM c fun x => { x with phase := .running, aux := a }
    | .pend a t =>
      let t := t.reach op c
      ((t.tagM c fun x => { x with phase := .pended, aux := a }).sendReply (t.mkReply op c .pending 0 []) false).endEmptyFlush op c.obj)

/-- Start a command in flight and take it as far as it goes now. -/
def State.startCmd (s : State) (op : Nat) (body : Packet → State → Res) (c : Packet) : State :=
  (s.began op c).finish op c (checkedRun op body c (s.began op c))

/-! ## Fetch and checks 1 to 8 (R77, R80, R85) -/

/-- The first of checks 1 to 8 that fails: status and detail. `len` says that the assembled length agrees. -/
def State.headerCheck (s : State) (op : Nat) (c : Packet) (len : Bool) : Option (Status × Nat) :=
  let tag := s.cmds.tags.find? fun t => t.isOf c
  if c.format ≠ 1#8 then some (.badParam, 3)
  else if c.flags.toNat / 16 ≠ 0 then some (.badParam, 2)
  else if c.tag.toNat / 4096 ≠ 0 then some (.badParam, 4)
  else if 1020 < c.plen.toNat ∨ !len then some (.badLength, 6)
  else
    match tag, cmdInfo op with
    | some t, _ => some (.tagInUse, t.opcode)
    | none, none => some (.badOpcode, 0)
    | none, some i =>
      if c.path == .tunnel && op / 256 != 0 && op / 256 != 0x10 then some (.denied, s.mode.mode.code)
      else if !acceptedIn s.mode.mode i then some (.badMode, s.mode.mode.code)
      else if i.lenOk c.plen.toNat then none
      else some (if c.plen = 0#16 then .badZero else .badLength, 6)

/-- A fetched command: its failure is replied to and takes no tag, or its tag is in flight, waiting to start. -/
def State.accept (s : State) (op : Nat) (c : Packet) (len : Bool) : State :=
  match s.headerCheck op c len with
  | some (st, d) => s.sendReply (s.mkReply op c st d []) false
  | none =>
    let s := s.cmdsM fun k => { k with tags := k.tags ++ [{ opcode := op, pkt := c, phase := .waiting }] }
    if c.path == .tunnel then s.smbM fun m => { m with command := some (op, c) } else s

/-- Commands may be fetched from a ring: READY, the Vintner running, memory requests allowed, the ring and the reply ring active, and no reply held (R44, R53, R54, R93). -/
def State.ringServes (s : State) (r : Nat) : Bool :=
  decide (r < 4) && s.mode.mode.isUp && s.hif.ready && s.vnt.running && s.hif.bme && (s.ring r).active && (s.ring 4).active
    && s.cmds.held.isEmpty

/-- The command is in flight and waits to start. -/
def State.waits (s : State) (op : Nat) (c : Packet) : Bool :=
  s.cmds.tags.any fun t => t.opcode == op && t.pkt == c && t.phase == .waiting

/-- Start a waiting command that nothing holds. -/
def State.tryStart (s : State) (op : Nat) (body : Packet → State → Res) (c : Packet) : State :=
  if s.waits op c && s.mayStart op c then s.startCmd op body c else s

/-- The tunnel can take a command: the target is powered and runs none. -/
def State.tunnelFree (s : State) : Bool := s.smbUp && s.smb.command.isNone

/-- A host command. In flight, it starts when nothing holds it. Otherwise it comes in first: written to an idle ring and covered by its doorbell, or over a free tunnel. -/
def hostRun (op : Nat) (body : Packet → State → Res) (c : Packet) (s : State) : State :=
  if s.waits op c then s.tryStart op body c
  else
    match c.path with
    | .ring r =>
      if s.ringServes r && (s.ring r).host == (s.ring r).engine && decide (c.slots ≤ (s.ring r).slots) then
        let i := ((s.ring r).engine + c.slots) % 65536
        let s := (s.ringM r fun g => { g with host := i, engine := i }).wakeHost.perfHost 0x10 1
        (s.accept op c true).tryStart op body c
      else s
    | .tunnel =>
      if s.tunnelFree then (s.accept op c (c.params.length == c.plen.toNat)).tryStart op body c else s

/-- The meaning of a host command. -/
def hostCmd (op : Nat) (body : Packet → State → Res) (c : Packet) (s : State) : Host.Outcome State Fault Refusal :=
  (hostRun op body c s).done

/-! ## COMMAND_FETCH (R80, R81) -/

/-- The opcode and the packet that bytes spell: the header, then param_length words; the bytes after them are not looked at, and a length above 1,020 has no words (R79, R80, R83). -/
def packetOf (path : Path) (b : Bytes) : Nat × Packet :=
  let h (i n : Nat) : Nat := leNat (bytesAt b i n)
  (h 0 2, { path := path, flags := by8 (byteAt b 2), format := by8 (byteAt b 3), tag := BitVec.ofNat 16 (h 4 2)
            plen := BitVec.ofNat 16 (h 6 2), objectId := wd (h 8 4), handle := wd (h 12 4)
            params := if 1020 < h 6 2 then [] else bytesWords (bytesAt b 16 (4 * h 6 2)) })

/-- The command at a ring's engine index. -/
def ringCmd (h : RingHead) : Nat × Packet := packetOf (.ring h.ring) h.bytes

/-- A ring holds a whole command: its doorbell covers every slot. -/
def State.ringHolds (s : State) (h : RingHead) : Bool :=
  let g := s.ring h.ring
  s.ringServes h.ring && decide ((ringCmd h).2.slots ≤ (g.host + 65536 - g.engine) % 65536)

/-- The ring the next fetch is made from, among those that hold a command: the lowest, or after 64 fetches past a waiting ring the last that waited. -/
def State.pickRing (s : State) (holding : List Nat) : Option Nat :=
  let low := holding.min?
  if 64 ≤ s.hif.streak then ((holding.filter fun r => nbit s.hif.waited r).max?).orElse fun _ => low else low

/-- The streak after a fetch from ring r: fetches past a lower-priority ring that holds a command, and the rings that waited. -/
def Hif.afterFetch (h : Hif) (r : Nat) (holding : List Nat) : Hif :=
  let later := holding.filter fun k => decide (r < k)
  if 64 ≤ h.streak ∨ later = [] then { h with streak := 0, waited := 0 }
  else { h with streak := h.streak + 1, waited := later.foldl orBit h.waited }

/-- COMMAND_FETCH: `heads` is what stands at the rings' engine indices. The command fetched waits for its start. -/
def commandFetch (heads : List RingHead) (s : State) : State :=
  let hs := heads.filter fun h => s.ringHolds h
  let holding := hs.map fun h => h.ring
  match (s.pickRing holding).bind fun r => hs.find? fun h => h.ring == r with
  | none => s
  | some h =>
    let c := (ringCmd h).2
    let s := s.ringM h.ring fun g => { g with engine := (g.engine + c.slots) % 65536 }
    let s := (s.hifM fun x => x.afterFetch h.ring holding).perfHost 0x10 1
    s.accept (ringCmd h).1 c true

/-! ## TUNNEL_WRITE (R75 to R77) -/

/-- TUNNEL_WRITE: byte 0 is FIRST and LAST, the rest the next part. A part longer than a command may be is kept as too long. -/
def tunnelWrite (data : Bytes) (pecOk : Bool) (s : State) : State :=
  let f := byteAt data 0
  let first := nbit f 7
  if !s.smbUp then s.emit .smbusNack
  else if s.smb.command.isSome || !pecOk || data.isEmpty || f % 64 != 0 || (!first && s.smb.assembly.isNone) then s.emit .smbusNack
  else
    let b := ((if first then [] else s.smb.assembly.getD []) ++ data.drop 1).take 1025
    if nbit f 6 then
      let (op, c) := packetOf .tunnel b
      (s.smbM fun m => { m with assembly := none }).accept op c (b.length == 16 + 4 * c.plen.toNat && decide (b.length ≤ 1024))
    else s.smbM fun m => { m with assembly := some b }

/-! ## Meanings -/

/-- COMMAND_FETCH. -/
def execCommandFetch (heads : List RingHead) (s : State) : Host.Outcome State Fault Refusal := (commandFetch heads s).done
/-- ACK. -/
def execAck (counter : Nat) (refused : Option Nat) (s : State) : Host.Outcome State Fault Refusal := ((ackMsg counter refused s).landBatch).done
/-- TUNNEL_WRITE. -/
def execTunnelWrite (data : Bytes) (pecOk : Bool) (s : State) : Host.Outcome State Fault Refusal := (tunnelWrite data pecOk s).done

end Sys2Proof.Machine
end

