-- ==== Sys2Proof/Machine/Commands.lean ====
section
/-!
DEFINITION. The meanings of the host commands: each is its own checks and effect, run as every host command runs.
-/
namespace Sys2Proof.Machine

/-- NOP. -/
def execNop (c : Packet) (s : State) : Host.Outcome State Fault Refusal := hostCmd 0x0000 nop c s
/-- SYNC_SUMMARY. -/
def execSyncSummary (c : Packet) (s : State) : Host.Outcome State Fault Refusal := hostCmd 0x0001 syncSummary c s
/-- DEVICE_IDENTITY. -/
def execDeviceIdentity (c : Packet) (s : State) : Host.Outcome State Fault Refusal := hostCmd 0x0002 deviceIdentity c s
/-- MODE_SET. -/
def execModeSet (c : Packet) (s : State) : Host.Outcome State Fault Refusal := hostCmd 0x0003 modeSet c s
/-- CFG_BATCH_BEGIN. -/
def execCfgBatchBegin (c : Packet) (s : State) : Host.Outcome State Fault Refusal := hostCmd 0x0004 cfgBatchBegin c s
/-- CFG_BATCH_END. -/
def execCfgBatchEnd (c : Packet) (s : State) : Host.Outcome State Fault Refusal := hostCmd 0x0005 cfgBatchEnd c s
/-- KWK_ESTABLISH. -/
def execKwkEstablish (c : Packet) (s : State) : Host.Outcome State Fault Refusal := hostCmd 0x0006 kwkEstablish c s
/-- PORT_LAYOUT_SET. -/
def execPortLayoutSet (c : Packet) (s : State) : Host.Outcome State Fault Refusal := hostCmd 0x0100 portLayoutSet c s
/-- PORT_SET. -/
def execPortSet (c : Packet) (s : State) : Host.Outcome State Fault Refusal := hostCmd 0x0101 portSet c s
/-- PORT_STATUS. -/
def execPortStatus (c : Packet) (s : State) : Host.Outcome State Fault Refusal := hostCmd 0x0102 portStatus c s
/-- LB_PORT_SET. -/
def execLbPortSet (c : Packet) (s : State) : Host.Outcome State Fault Refusal := hostCmd 0x0120 lbPortSet c s
/-- LB_STATUS. -/
def execLbStatus (c : Packet) (s : State) : Host.Outcome State Fault Refusal := hostCmd 0x0121 lbStatus c s
/-- PARSE_INFO. -/
def execParseInfo (c : Packet) (s : State) : Host.Outcome State Fault Refusal := hostCmd 0x0200 parseInfo c s
/-- PARSE_STATE_SET. -/
def execParseStateSet (c : Packet) (s : State) : Host.Outcome State Fault Refusal := hostCmd 0x0201 (stagedCmd 0x0201 parseStateSet) c s
/-- PARSE_TRANS_SET. -/
def execParseTransSet (c : Packet) (s : State) : Host.Outcome State Fault Refusal := hostCmd 0x0202 (stagedCmd 0x0202 parseTransSet) c s
/-- PARSE_EXCEPT_SET. -/
def execParseExceptSet (c : Packet) (s : State) : Host.Outcome State Fault Refusal := hostCmd 0x0203 (stagedCmd 0x0203 parseExceptSet) c s
/-- PARSE_DEFAULT_LOAD. -/
def execParseDefaultLoad (c : Packet) (s : State) : Host.Outcome State Fault Refusal := hostCmd 0x0204 (stagedCmd 0x0204 parseDefaultLoad) c s
/-- PARSE_READ. -/
def execParseRead (c : Packet) (s : State) : Host.Outcome State Fault Refusal := hostCmd 0x0205 parseRead c s
/-- FRAG_CONFIG. -/
def execFragConfig (c : Packet) (s : State) : Host.Outcome State Fault Refusal := hostCmd 0x0210 fragConfig c s
/-- FRAG_STATUS. -/
def execFragStatus (c : Packet) (s : State) : Host.Outcome State Fault Refusal := hostCmd 0x0211 fragStatus c s
/-- EM_TABLE_DEFINE. -/
def execEmTableDefine (c : Packet) (s : State) : Host.Outcome State Fault Refusal := hostCmd 0x0300 (stagedCmd 0x0300 emTableDefine) c s
/-- EM_INSERT. -/
def execEmInsert (c : Packet) (s : State) : Host.Outcome State Fault Refusal := hostCmd 0x0301 (stagedCmd 0x0301 emInsert) c s
/-- EM_MODIFY. -/
def execEmModify (c : Packet) (s : State) : Host.Outcome State Fault Refusal := hostCmd 0x0302 (stagedCmd 0x0302 emModify) c s
/-- EM_DELETE. -/
def execEmDelete (c : Packet) (s : State) : Host.Outcome State Fault Refusal := hostCmd 0x0303 (stagedCmd 0x0303 emDelete) c s
/-- EM_SEARCH. -/
def execEmSearch (c : Packet) (s : State) : Host.Outcome State Fault Refusal := hostCmd 0x0304 emSearchCmd c s
/-- EM_READ. -/
def execEmRead (c : Packet) (s : State) : Host.Outcome State Fault Refusal := hostCmd 0x0305 emRead c s
/-- EM_STATUS. -/
def execEmStatus (c : Packet) (s : State) : Host.Outcome State Fault Refusal := hostCmd 0x0306 emStatus c s
/-- PFX_REALM_DEFINE. -/
def execPfxRealmDefine (c : Packet) (s : State) : Host.Outcome State Fault Refusal := hostCmd 0x0310 (stagedCmd 0x0310 pfxRealmDefine) c s
/-- PFX_ADD. -/
def execPfxAdd (c : Packet) (s : State) : Host.Outcome State Fault Refusal := hostCmd 0x0311 (stagedCmd 0x0311 pfxAdd) c s
/-- PFX_MODIFY. -/
def execPfxModify (c : Packet) (s : State) : Host.Outcome State Fault Refusal := hostCmd 0x0312 (stagedCmd 0x0312 pfxModify) c s
/-- PFX_DELETE. -/
def execPfxDelete (c : Packet) (s : State) : Host.Outcome State Fault Refusal := hostCmd 0x0313 (stagedCmd 0x0313 pfxDelete) c s
/-- PFX_SEARCH. -/
def execPfxSearch (c : Packet) (s : State) : Host.Outcome State Fault Refusal := hostCmd 0x0314 pfxSearchCmd c s
/-- PFX_STATUS. -/
def execPfxStatus (c : Packet) (s : State) : Host.Outcome State Fault Refusal := hostCmd 0x0316 pfxStatus c s
/-- LOOKUP_PROFILE_SET. -/
def execLookupProfileSet (c : Packet) (s : State) : Host.Outcome State Fault Refusal := hostCmd 0x0320 (stagedCmd 0x0320 lookupProfileSet) c s
/-- LOOKUP_MAP_SET. -/
def execLookupMapSet (c : Packet) (s : State) : Host.Outcome State Fault Refusal := hostCmd 0x0321 (stagedCmd 0x0321 lookupMapSet) c s
/-- TCAM_BANK_WIDTH. -/
def execTcamBankWidth (c : Packet) (s : State) : Host.Outcome State Fault Refusal := hostCmd 0x0400 tcamBankWidth c s
/-- TCAM_GROUP_DEFINE. -/
def execTcamGroupDefine (c : Packet) (s : State) : Host.Outcome State Fault Refusal := hostCmd 0x0401 (stagedCmd 0x0401 tcamGroupDefine) c s
/-- TCAM_PROFILE_SET. -/
def execTcamProfileSet (c : Packet) (s : State) : Host.Outcome State Fault Refusal := hostCmd 0x0402 (stagedCmd 0x0402 tcamProfileSet) c s
/-- TCAM_INSERT. -/
def execTcamInsert (c : Packet) (s : State) : Host.Outcome State Fault Refusal := hostCmd 0x0403 (stagedCmd 0x0403 tcamInsert) c s
/-- TCAM_DELETE. -/
def execTcamDelete (c : Packet) (s : State) : Host.Outcome State Fault Refusal := hostCmd 0x0404 (stagedCmd 0x0404 tcamDelete) c s
/-- TCAM_READ. -/
def execTcamRead (c : Packet) (s : State) : Host.Outcome State Fault Refusal := hostCmd 0x0405 tcamRead c s
/-- TCAM_SEARCH. -/
def execTcamSearch (c : Packet) (s : State) : Host.Outcome State Fault Refusal := hostCmd 0x0406 tcamSearch c s
/-- TCAM_STATUS. -/
def execTcamStatus (c : Packet) (s : State) : Host.Outcome State Fault Refusal := hostCmd 0x0407 tcamStatus c s
/-- VINT_OPEN. -/
def execVintOpen (c : Packet) (s : State) : Host.Outcome State Fault Refusal := hostCmd 0x0500 vintOpen c s
/-- VINT_STAGE. -/
def execVintStage (c : Packet) (s : State) : Host.Outcome State Fault Refusal := hostCmd 0x0501 vintStage c s
/-- VINT_COMMIT. -/
def execVintCommit (c : Packet) (s : State) : Host.Outcome State Fault Refusal := hostCmd 0x0502 vintCommit c s
/-- VINT_ABORT. -/
def execVintAbort (c : Packet) (s : State) : Host.Outcome State Fault Refusal := hostCmd 0x0503 vintAbort c s
/-- VINT_STATUS. -/
def execVintStatus (c : Packet) (s : State) : Host.Outcome State Fault Refusal := hostCmd 0x0504 vintStatus c s
/-- VINT_COMMIT_AT. -/
def execVintCommitAt (c : Packet) (s : State) : Host.Outcome State Fault Refusal := hostCmd 0x0505 vintCommitAt c s
/-- ACT_WRITE. -/
def execActWrite (c : Packet) (s : State) : Host.Outcome State Fault Refusal := hostCmd 0x0600 (stagedCmd 0x0600 actWrite) c s
/-- ACT_DELETE. -/
def execActDelete (c : Packet) (s : State) : Host.Outcome State Fault Refusal := hostCmd 0x0601 (stagedCmd 0x0601 actDelete) c s
/-- ACT_READ. -/
def execActRead (c : Packet) (s : State) : Host.Outcome State Fault Refusal := hostCmd 0x0602 actRead c s
/-- TEMPLATE_WRITE. -/
def execTemplateWrite (c : Packet) (s : State) : Host.Outcome State Fault Refusal := hostCmd 0x0603 (stagedCmd 0x0603 templateWrite) c s
/-- TEMPLATE_DELETE. -/
def execTemplateDelete (c : Packet) (s : State) : Host.Outcome State Fault Refusal := hostCmd 0x0604 (stagedCmd 0x0604 templateDelete) c s
/-- NEXTHOP_WRITE. -/
def execNexthopWrite (c : Packet) (s : State) : Host.Outcome State Fault Refusal := hostCmd 0x0605 (stagedCmd 0x0605 nexthopWrite) c s
/-- NEXTHOP_DELETE. -/
def execNexthopDelete (c : Packet) (s : State) : Host.Outcome State Fault Refusal := hostCmd 0x0606 (stagedCmd 0x0606 nexthopDelete) c s
/-- MIRROR_SESSION_SET. -/
def execMirrorSessionSet (c : Packet) (s : State) : Host.Outcome State Fault Refusal := hostCmd 0x0607 (stagedCmd 0x0607 mirrorSessionSet) c s
/-- BYPASS_CLASS_SET. -/
def execBypassClassSet (c : Packet) (s : State) : Host.Outcome State Fault Refusal := hostCmd 0x0608 (stagedCmd 0x0608 bypassClassSet) c s
/-- METER_PROFILE_SET. -/
def execMeterProfileSet (c : Packet) (s : State) : Host.Outcome State Fault Refusal := hostCmd 0x0609 meterProfileSet c s
/-- METER_SET. -/
def execMeterSet (c : Packet) (s : State) : Host.Outcome State Fault Refusal := hostCmd 0x060A meterSet c s
/-- METER_READ. -/
def execMeterRead (c : Packet) (s : State) : Host.Outcome State Fault Refusal := hostCmd 0x060B meterRead c s
/-- ACTION_CONFIG. -/
def execActionConfig (c : Packet) (s : State) : Host.Outcome State Fault Refusal := hostCmd 0x060C actionConfig c s
/-- ACT_STATUS. -/
def execActStatus (c : Packet) (s : State) : Host.Outcome State Fault Refusal := hostCmd 0x060D actStatus c s
/-- REASON_COUNTS. -/
def execReasonCounts (c : Packet) (s : State) : Host.Outcome State Fault Refusal := hostCmd 0x060E reasonCounts c s
/-- SA_INSTALL. -/
def execSaInstall (c : Packet) (s : State) : Host.Outcome State Fault Refusal := hostCmd 0x0700 saInstall c s
/-- SA_RETIRE. -/
def execSaRetire (c : Packet) (s : State) : Host.Outcome State Fault Refusal := hostCmd 0x0701 saRetire c s
/-- SA_SWITCH. -/
def execSaSwitch (c : Packet) (s : State) : Host.Outcome State Fault Refusal := hostCmd 0x0702 saSwitch c s
/-- SA_READ. -/
def execSaRead (c : Packet) (s : State) : Host.Outcome State Fault Refusal := hostCmd 0x0703 saRead c s
/-- SA_SPILL_POLICY. -/
def execSaSpillPolicy (c : Packet) (s : State) : Host.Outcome State Fault Refusal := hostCmd 0x0704 saSpillPolicy c s
/-- CIPHER_PORT_SET. -/
def execCipherPortSet (c : Packet) (s : State) : Host.Outcome State Fault Refusal := hostCmd 0x0705 cipherPortSet c s
/-- BINDING_READ. -/
def execBindingRead (c : Packet) (s : State) : Host.Outcome State Fault Refusal := hostCmd 0x0706 bindingRead c s
/-- CIPHER_STATUS. -/
def execCipherStatus (c : Packet) (s : State) : Host.Outcome State Fault Refusal := hostCmd 0x0707 cipherStatus c s
/-- CORE_XP_SET. -/
def execCoreXpSet (c : Packet) (s : State) : Host.Outcome State Fault Refusal := hostCmd 0x0800 coreXpSet c s
/-- CORE_COLUMN_SET. -/
def execCoreColumnSet (c : Packet) (s : State) : Host.Outcome State Fault Refusal := hostCmd 0x0801 coreColumnSet c s
/-- CORE_XP_STATUS. -/
def execCoreXpStatus (c : Packet) (s : State) : Host.Outcome State Fault Refusal := hostCmd 0x0802 coreXpStatus c s
/-- CORE_COLUMN_STATUS. -/
def execCoreColumnStatus (c : Packet) (s : State) : Host.Outcome State Fault Refusal := hostCmd 0x0803 coreColumnStatus c s
/-- CORE_PORT_FLUSH. -/
def execCorePortFlush (c : Packet) (s : State) : Host.Outcome State Fault Refusal := hostCmd 0x0804 corePortFlush c s
/-- CORE_PORT_STATUS. -/
def execCorePortStatus (c : Packet) (s : State) : Host.Outcome State Fault Refusal := hostCmd 0x0805 corePortStatus c s
/-- POOL_CARVE. -/
def execPoolCarve (c : Packet) (s : State) : Host.Outcome State Fault Refusal := hostCmd 0x0810 poolCarve c s
/-- POOL_COLUMN_SET. -/
def execPoolColumnSet (c : Packet) (s : State) : Host.Outcome State Fault Refusal := hostCmd 0x0811 poolColumnSet c s
/-- POOL_MODE_SET. -/
def execPoolModeSet (c : Packet) (s : State) : Host.Outcome State Fault Refusal := hostCmd 0x0812 poolModeSet c s
/-- POOL_QUOTA_SET. -/
def execPoolQuotaSet (c : Packet) (s : State) : Host.Outcome State Fault Refusal := hostCmd 0x0813 poolQuotaSet c s
/-- POOL_STATUS. -/
def execPoolStatus (c : Packet) (s : State) : Host.Outcome State Fault Refusal := hostCmd 0x0814 poolStatus c s
/-- POOL_BUFFER_READ. -/
def execPoolBufferRead (c : Packet) (s : State) : Host.Outcome State Fault Refusal := hostCmd 0x0815 poolBufferRead c s
/-- POOL_QUARANTINE_RELEASE. -/
def execPoolQuarantineRelease (c : Packet) (s : State) : Host.Outcome State Fault Refusal := hostCmd 0x0816 poolQuarantineRelease c s
/-- SCHED_PORT_SET. -/
def execSchedPortSet (c : Packet) (s : State) : Host.Outcome State Fault Refusal := hostCmd 0x0900 schedPortSet c s
/-- SCHED_GROUP_SET. -/
def execSchedGroupSet (c : Packet) (s : State) : Host.Outcome State Fault Refusal := hostCmd 0x0901 schedGroupSet c s
/-- SCHED_QUEUE_SET. -/
def execSchedQueueSet (c : Packet) (s : State) : Host.Outcome State Fault Refusal := hostCmd 0x0902 schedQueueSet c s
/-- SCHED_PORT_STATUS. -/
def execSchedPortStatus (c : Packet) (s : State) : Host.Outcome State Fault Refusal := hostCmd 0x0903 schedPortStatus c s
/-- SCHED_GROUP_STATUS. -/
def execSchedGroupStatus (c : Packet) (s : State) : Host.Outcome State Fault Refusal := hostCmd 0x0904 schedGroupStatus c s
/-- SCHED_QUEUE_STATUS. -/
def execSchedQueueStatus (c : Packet) (s : State) : Host.Outcome State Fault Refusal := hostCmd 0x0905 schedQueueStatus c s
/-- SCHED_QUEUE_STATS. -/
def execSchedQueueStats (c : Packet) (s : State) : Host.Outcome State Fault Refusal := hostCmd 0x0906 schedQueueStats c s
/-- SCHED_STATUS. -/
def execSchedStatus (c : Packet) (s : State) : Host.Outcome State Fault Refusal := hostCmd 0x0907 schedStatus c s
/-- SCHED_SAMPLE_RING_SET. -/
def execSchedSampleRingSet (c : Packet) (s : State) : Host.Outcome State Fault Refusal := hostCmd 0x0908 schedSampleRingSet c s
/-- SCHED_SAMPLE_READ. -/
def execSchedSampleRead (c : Packet) (s : State) : Host.Outcome State Fault Refusal := hostCmd 0x0909 schedSampleRead c s
/-- TIME_SET. -/
def execTimeSet (c : Packet) (s : State) : Host.Outcome State Fault Refusal := hostCmd 0x0A00 timeSet c s
/-- TIME_GET. -/
def execTimeGet (c : Packet) (s : State) : Host.Outcome State Fault Refusal := hostCmd 0x0A01 timeGet c s
/-- TIME_SELECT. -/
def execTimeSelect (c : Packet) (s : State) : Host.Outcome State Fault Refusal := hostCmd 0x0A02 timeSelect c s
/-- PTP_DOMAIN_SET. -/
def execPtpDomainSet (c : Packet) (s : State) : Host.Outcome State Fault Refusal := hostCmd 0x0A03 ptpDomainSet c s
/-- PTP_PORT_SET. -/
def execPtpPortSet (c : Packet) (s : State) : Host.Outcome State Fault Refusal := hostCmd 0x0A04 ptpPortSet c s
/-- PTP_STATUS. -/
def execPtpStatus (c : Packet) (s : State) : Host.Outcome State Fault Refusal := hostCmd 0x0A05 ptpStatus c s
/-- PTP_TS_READ. -/
def execPtpTsRead (c : Packet) (s : State) : Host.Outcome State Fault Refusal := hostCmd 0x0A06 ptpTsRead c s
/-- PULSE_SET. -/
def execPulseSet (c : Packet) (s : State) : Host.Outcome State Fault Refusal := hostCmd 0x0A10 pulseSet c s
/-- CAPTURE_READ. -/
def execCaptureRead (c : Packet) (s : State) : Host.Outcome State Fault Refusal := hostCmd 0x0A11 captureRead c s
/-- GATE_LIST_SET. -/
def execGateListSet (c : Packet) (s : State) : Host.Outcome State Fault Refusal := hostCmd 0x0A20 gateListSet c s
/-- GATE_LIST_READ. -/
def execGateListRead (c : Packet) (s : State) : Host.Outcome State Fault Refusal := hostCmd 0x0A21 gateListRead c s
/-- HTX_RING_SET. -/
def execHtxRingSet (c : Packet) (s : State) : Host.Outcome State Fault Refusal := hostCmd 0x0B00 htxRingSet c s
/-- HRX_RING_SET. -/
def execHrxRingSet (c : Packet) (s : State) : Host.Outcome State Fault Refusal := hostCmd 0x0B01 hrxRingSet c s
/-- SEG_PROFILE_SET. -/
def execSegProfileSet (c : Packet) (s : State) : Host.Outcome State Fault Refusal := hostCmd 0x0B02 segProfileSet c s
/-- HRING_STATUS. -/
def execHringStatus (c : Packet) (s : State) : Host.Outcome State Fault Refusal := hostCmd 0x0B03 hringStatus c s
/-- TWIN_CONFIG. -/
def execTwinConfig (c : Packet) (s : State) : Host.Outcome State Fault Refusal := hostCmd 0x0C00 twinConfig c s
/-- TWIN_ENROL. -/
def execTwinEnrol (c : Packet) (s : State) : Host.Outcome State Fault Refusal := hostCmd 0x0C01 twinEnrol c s
/-- TWIN_TAKEOVER. -/
def execTwinTakeover (c : Packet) (s : State) : Host.Outcome State Fault Refusal := hostCmd 0x0C02 twinTakeover c s
/-- TWIN_STATUS. -/
def execTwinStatus (c : Packet) (s : State) : Host.Outcome State Fault Refusal := hostCmd 0x0C03 twinStatus c s
/-- TWIN_LOCK. -/
def execTwinLock (c : Packet) (s : State) : Host.Outcome State Fault Refusal := hostCmd 0x0C04 twinLock c s
/-- POWER_POLICY_SET. -/
def execPowerPolicySet (c : Packet) (s : State) : Host.Outcome State Fault Refusal := hostCmd 0x0D00 powerPolicySet c s
/-- POWER_STATUS. -/
def execPowerStatus (c : Packet) (s : State) : Host.Outcome State Fault Refusal := hostCmd 0x0D01 powerStatus c s
/-- SLICE_RETIRE. -/
def execSliceRetire (c : Packet) (s : State) : Host.Outcome State Fault Refusal := hostCmd 0x0D20 sliceRetire c s
/-- SLICE_ADMIT. -/
def execSliceAdmit (c : Packet) (s : State) : Host.Outcome State Fault Refusal := hostCmd 0x0D21 sliceAdmit c s
/-- SLICE_STATUS. -/
def execSliceStatus (c : Packet) (s : State) : Host.Outcome State Fault Refusal := hostCmd 0x0D22 sliceStatus c s
/-- DDR_TRAIN. -/
def execDdrTrain (c : Packet) (s : State) : Host.Outcome State Fault Refusal := hostCmd 0x0E00 ddrTrain c s
/-- DDR_CONFIG. -/
def execDdrConfig (c : Packet) (s : State) : Host.Outcome State Fault Refusal := hostCmd 0x0E01 ddrConfig c s
/-- DDR_STATUS. -/
def execDdrStatus (c : Packet) (s : State) : Host.Outcome State Fault Refusal := hostCmd 0x0E02 ddrStatus c s
/-- STAT_READ. -/
def execStatRead (c : Packet) (s : State) : Host.Outcome State Fault Refusal := hostCmd 0x0F00 statRead c s
/-- STAT_CLEAR. -/
def execStatClear (c : Packet) (s : State) : Host.Outcome State Fault Refusal := hostCmd 0x0F01 statClear c s
/-- SNAP_AREA_SET. -/
def execSnapAreaSet (c : Packet) (s : State) : Host.Outcome State Fault Refusal := hostCmd 0x0F02 snapAreaSet c s
/-- SNAP_TAKE. -/
def execSnapTake (c : Packet) (s : State) : Host.Outcome State Fault Refusal := hostCmd 0x0F03 snapTake c s
/-- SNAP_STATUS. -/
def execSnapStatus (c : Packet) (s : State) : Host.Outcome State Fault Refusal := hostCmd 0x0F04 snapStatus c s
/-- SNAP_READ. -/
def execSnapRead (c : Packet) (s : State) : Host.Outcome State Fault Refusal := hostCmd 0x0F05 snapRead c s
/-- PRF_SELECT. -/
def execPrfSelect (c : Packet) (s : State) : Host.Outcome State Fault Refusal := hostCmd 0x0F10 prfSelect c s
/-- PRF_READ. -/
def execPrfRead (c : Packet) (s : State) : Host.Outcome State Fault Refusal := hostCmd 0x0F11 prfRead c s
/-- BWM_SET. -/
def execBwmSet (c : Packet) (s : State) : Host.Outcome State Fault Refusal := hostCmd 0x0F20 bwmSet c s
/-- BWM_READ. -/
def execBwmRead (c : Packet) (s : State) : Host.Outcome State Fault Refusal := hostCmd 0x0F21 bwmRead c s
/-- FAULT_STATUS. -/
def execFaultStatus (c : Packet) (s : State) : Host.Outcome State Fault Refusal := hostCmd 0x1000 faultStatus c s
/-- FAULT_READ. -/
def execFaultRead (c : Packet) (s : State) : Host.Outcome State Fault Refusal := hostCmd 0x1001 faultRead c s
/-- FAULT_CLEAR. -/
def execFaultClear (c : Packet) (s : State) : Host.Outcome State Fault Refusal := hostCmd 0x1002 faultClear c s
/-- FAULT_REACTION_SET. -/
def execFaultReactionSet (c : Packet) (s : State) : Host.Outcome State Fault Refusal := hostCmd 0x1003 faultReactionSet c s
/-- BOOK_INFO. -/
def execBookInfo (c : Packet) (s : State) : Host.Outcome State Fault Refusal := hostCmd 0x1004 bookInfo c s
/-- BOOK_READ. -/
def execBookRead (c : Packet) (s : State) : Host.Outcome State Fault Refusal := hostCmd 0x1005 bookRead c s
/-- FAULT_INJECT. -/
def execFaultInject (c : Packet) (s : State) : Host.Outcome State Fault Refusal := hostCmd 0x1100 faultInject c s
/-- GUARD_SET. -/
def execGuardSet (c : Packet) (s : State) : Host.Outcome State Fault Refusal := hostCmd 0x1101 guardSet c s
/-- BOOK_CLEAR. -/
def execBookClear (c : Packet) (s : State) : Host.Outcome State Fault Refusal := hostCmd 0x1102 bookClear c s
/-- DIAG_LOOPBACK. -/
def execDiagLoopback (c : Packet) (s : State) : Host.Outcome State Fault Refusal := hostCmd 0x1110 diagLoopback c s
/-- DIAG_MEM_TEST. -/
def execDiagMemTest (c : Packet) (s : State) : Host.Outcome State Fault Refusal := hostCmd 0x1111 diagMemTest c s

end Sys2Proof.Machine
end

