-- ==== Sys2Proof/Machine/Dispatch.lean ====
section
/-!
DEFINITION. The dispatcher: one arm per constructor of Instr, each one direct call of its meaning.
-/
namespace Sys2Proof.Machine

/-- The effect of a command on everything but the queue. -/
def exec (i : Instr) (s : State) : Host.Outcome State Fault Refusal :=
  match i with
  | .nop c => Sys2Proof.Machine.execNop c s
  | .syncSummary c => Sys2Proof.Machine.execSyncSummary c s
  | .deviceIdentity c => Sys2Proof.Machine.execDeviceIdentity c s
  | .modeSet c => Sys2Proof.Machine.execModeSet c s
  | .cfgBatchBegin c => Sys2Proof.Machine.execCfgBatchBegin c s
  | .cfgBatchEnd c => Sys2Proof.Machine.execCfgBatchEnd c s
  | .kwkEstablish c => Sys2Proof.Machine.execKwkEstablish c s
  | .portLayoutSet c => Sys2Proof.Machine.execPortLayoutSet c s
  | .portSet c => Sys2Proof.Machine.execPortSet c s
  | .portStatus c => Sys2Proof.Machine.execPortStatus c s
  | .lbPortSet c => Sys2Proof.Machine.execLbPortSet c s
  | .lbStatus c => Sys2Proof.Machine.execLbStatus c s
  | .parseInfo c => Sys2Proof.Machine.execParseInfo c s
  | .parseStateSet c => Sys2Proof.Machine.execParseStateSet c s
  | .parseTransSet c => Sys2Proof.Machine.execParseTransSet c s
  | .parseExceptSet c => Sys2Proof.Machine.execParseExceptSet c s
  | .parseDefaultLoad c => Sys2Proof.Machine.execParseDefaultLoad c s
  | .parseRead c => Sys2Proof.Machine.execParseRead c s
  | .fragConfig c => Sys2Proof.Machine.execFragConfig c s
  | .fragStatus c => Sys2Proof.Machine.execFragStatus c s
  | .emTableDefine c => Sys2Proof.Machine.execEmTableDefine c s
  | .emInsert c => Sys2Proof.Machine.execEmInsert c s
  | .emModify c => Sys2Proof.Machine.execEmModify c s
  | .emDelete c => Sys2Proof.Machine.execEmDelete c s
  | .emSearch c => Sys2Proof.Machine.execEmSearch c s
  | .emRead c => Sys2Proof.Machine.execEmRead c s
  | .emStatus c => Sys2Proof.Machine.execEmStatus c s
  | .pfxRealmDefine c => Sys2Proof.Machine.execPfxRealmDefine c s
  | .pfxAdd c => Sys2Proof.Machine.execPfxAdd c s
  | .pfxModify c => Sys2Proof.Machine.execPfxModify c s
  | .pfxDelete c => Sys2Proof.Machine.execPfxDelete c s
  | .pfxSearch c => Sys2Proof.Machine.execPfxSearch c s
  | .pfxStatus c => Sys2Proof.Machine.execPfxStatus c s
  | .lookupProfileSet c => Sys2Proof.Machine.execLookupProfileSet c s
  | .lookupMapSet c => Sys2Proof.Machine.execLookupMapSet c s
  | .tcamBankWidth c => Sys2Proof.Machine.execTcamBankWidth c s
  | .tcamGroupDefine c => Sys2Proof.Machine.execTcamGroupDefine c s
  | .tcamProfileSet c => Sys2Proof.Machine.execTcamProfileSet c s
  | .tcamInsert c => Sys2Proof.Machine.execTcamInsert c s
  | .tcamDelete c => Sys2Proof.Machine.execTcamDelete c s
  | .tcamRead c => Sys2Proof.Machine.execTcamRead c s
  | .tcamSearch c => Sys2Proof.Machine.execTcamSearch c s
  | .tcamStatus c => Sys2Proof.Machine.execTcamStatus c s
  | .vintOpen c => Sys2Proof.Machine.execVintOpen c s
  | .vintStage c => Sys2Proof.Machine.execVintStage c s
  | .vintCommit c => Sys2Proof.Machine.execVintCommit c s
  | .vintAbort c => Sys2Proof.Machine.execVintAbort c s
  | .vintStatus c => Sys2Proof.Machine.execVintStatus c s
  | .vintCommitAt c => Sys2Proof.Machine.execVintCommitAt c s
  | .actWrite c => Sys2Proof.Machine.execActWrite c s
  | .actDelete c => Sys2Proof.Machine.execActDelete c s
  | .actRead c => Sys2Proof.Machine.execActRead c s
  | .templateWrite c => Sys2Proof.Machine.execTemplateWrite c s
  | .templateDelete c => Sys2Proof.Machine.execTemplateDelete c s
  | .nexthopWrite c => Sys2Proof.Machine.execNexthopWrite c s
  | .nexthopDelete c => Sys2Proof.Machine.execNexthopDelete c s
  | .mirrorSessionSet c => Sys2Proof.Machine.execMirrorSessionSet c s
  | .bypassClassSet c => Sys2Proof.Machine.execBypassClassSet c s
  | .meterProfileSet c => Sys2Proof.Machine.execMeterProfileSet c s
  | .meterSet c => Sys2Proof.Machine.execMeterSet c s
  | .meterRead c => Sys2Proof.Machine.execMeterRead c s
  | .actionConfig c => Sys2Proof.Machine.execActionConfig c s
  | .actStatus c => Sys2Proof.Machine.execActStatus c s
  | .reasonCounts c => Sys2Proof.Machine.execReasonCounts c s
  | .saInstall c => Sys2Proof.Machine.execSaInstall c s
  | .saRetire c => Sys2Proof.Machine.execSaRetire c s
  | .saSwitch c => Sys2Proof.Machine.execSaSwitch c s
  | .saRead c => Sys2Proof.Machine.execSaRead c s
  | .saSpillPolicy c => Sys2Proof.Machine.execSaSpillPolicy c s
  | .cipherPortSet c => Sys2Proof.Machine.execCipherPortSet c s
  | .bindingRead c => Sys2Proof.Machine.execBindingRead c s
  | .cipherStatus c => Sys2Proof.Machine.execCipherStatus c s
  | .coreXpSet c => Sys2Proof.Machine.execCoreXpSet c s
  | .coreColumnSet c => Sys2Proof.Machine.execCoreColumnSet c s
  | .coreXpStatus c => Sys2Proof.Machine.execCoreXpStatus c s
  | .coreColumnStatus c => Sys2Proof.Machine.execCoreColumnStatus c s
  | .corePortFlush c => Sys2Proof.Machine.execCorePortFlush c s
  | .corePortStatus c => Sys2Proof.Machine.execCorePortStatus c s
  | .poolCarve c => Sys2Proof.Machine.execPoolCarve c s
  | .poolColumnSet c => Sys2Proof.Machine.execPoolColumnSet c s
  | .poolModeSet c => Sys2Proof.Machine.execPoolModeSet c s
  | .poolQuotaSet c => Sys2Proof.Machine.execPoolQuotaSet c s
  | .poolStatus c => Sys2Proof.Machine.execPoolStatus c s
  | .poolBufferRead c => Sys2Proof.Machine.execPoolBufferRead c s
  | .poolQuarantineRelease c => Sys2Proof.Machine.execPoolQuarantineRelease c s
  | .schedPortSet c => Sys2Proof.Machine.execSchedPortSet c s
  | .schedGroupSet c => Sys2Proof.Machine.execSchedGroupSet c s
  | .schedQueueSet c => Sys2Proof.Machine.execSchedQueueSet c s
  | .schedPortStatus c => Sys2Proof.Machine.execSchedPortStatus c s
  | .schedGroupStatus c => Sys2Proof.Machine.execSchedGroupStatus c s
  | .schedQueueStatus c => Sys2Proof.Machine.execSchedQueueStatus c s
  | .schedQueueStats c => Sys2Proof.Machine.execSchedQueueStats c s
  | .schedStatus c => Sys2Proof.Machine.execSchedStatus c s
  | .schedSampleRingSet c => Sys2Proof.Machine.execSchedSampleRingSet c s
  | .schedSampleRead c => Sys2Proof.Machine.execSchedSampleRead c s
  | .timeSet c => Sys2Proof.Machine.execTimeSet c s
  | .timeGet c => Sys2Proof.Machine.execTimeGet c s
  | .timeSelect c => Sys2Proof.Machine.execTimeSelect c s
  | .ptpDomainSet c => Sys2Proof.Machine.execPtpDomainSet c s
  | .ptpPortSet c => Sys2Proof.Machine.execPtpPortSet c s
  | .ptpStatus c => Sys2Proof.Machine.execPtpStatus c s
  | .ptpTsRead c => Sys2Proof.Machine.execPtpTsRead c s
  | .pulseSet c => Sys2Proof.Machine.execPulseSet c s
  | .captureRead c => Sys2Proof.Machine.execCaptureRead c s
  | .gateListSet c => Sys2Proof.Machine.execGateListSet c s
  | .gateListRead c => Sys2Proof.Machine.execGateListRead c s
  | .htxRingSet c => Sys2Proof.Machine.execHtxRingSet c s
  | .hrxRingSet c => Sys2Proof.Machine.execHrxRingSet c s
  | .segProfileSet c => Sys2Proof.Machine.execSegProfileSet c s
  | .hringStatus c => Sys2Proof.Machine.execHringStatus c s
  | .twinConfig c => Sys2Proof.Machine.execTwinConfig c s
  | .twinEnrol c => Sys2Proof.Machine.execTwinEnrol c s
  | .twinTakeover c => Sys2Proof.Machine.execTwinTakeover c s
  | .twinStatus c => Sys2Proof.Machine.execTwinStatus c s
  | .twinLock c => Sys2Proof.Machine.execTwinLock c s
  | .powerPolicySet c => Sys2Proof.Machine.execPowerPolicySet c s
  | .powerStatus c => Sys2Proof.Machine.execPowerStatus c s
  | .sliceRetire c => Sys2Proof.Machine.execSliceRetire c s
  | .sliceAdmit c => Sys2Proof.Machine.execSliceAdmit c s
  | .sliceStatus c => Sys2Proof.Machine.execSliceStatus c s
  | .ddrTrain c => Sys2Proof.Machine.execDdrTrain c s
  | .ddrConfig c => Sys2Proof.Machine.execDdrConfig c s
  | .ddrStatus c => Sys2Proof.Machine.execDdrStatus c s
  | .statRead c => Sys2Proof.Machine.execStatRead c s
  | .statClear c => Sys2Proof.Machine.execStatClear c s
  | .snapAreaSet c => Sys2Proof.Machine.execSnapAreaSet c s
  | .snapTake c => Sys2Proof.Machine.execSnapTake c s
  | .snapStatus c => Sys2Proof.Machine.execSnapStatus c s
  | .snapRead c => Sys2Proof.Machine.execSnapRead c s
  | .prfSelect c => Sys2Proof.Machine.execPrfSelect c s
  | .prfRead c => Sys2Proof.Machine.execPrfRead c s
  | .bwmSet c => Sys2Proof.Machine.execBwmSet c s
  | .bwmRead c => Sys2Proof.Machine.execBwmRead c s
  | .faultStatus c => Sys2Proof.Machine.execFaultStatus c s
  | .faultRead c => Sys2Proof.Machine.execFaultRead c s
  | .faultClear c => Sys2Proof.Machine.execFaultClear c s
  | .faultReactionSet c => Sys2Proof.Machine.execFaultReactionSet c s
  | .bookInfo c => Sys2Proof.Machine.execBookInfo c s
  | .bookRead c => Sys2Proof.Machine.execBookRead c s
  | .faultInject c => Sys2Proof.Machine.execFaultInject c s
  | .guardSet c => Sys2Proof.Machine.execGuardSet c s
  | .bookClear c => Sys2Proof.Machine.execBookClear c s
  | .diagLoopback c => Sys2Proof.Machine.execDiagLoopback c s
  | .diagMemTest c => Sys2Proof.Machine.execDiagMemTest c s
  | .mbxNop m => Sys2Proof.Machine.execMbxNop m s
  | .ringRescan m => Sys2Proof.Machine.execRingRescan m s
  | .holdHost m => Sys2Proof.Machine.execHoldHost m s
  | .hostRelease m => Sys2Proof.Machine.execHostRelease m s
  | .tunnelWrite data pecOk => Sys2Proof.Machine.execTunnelWrite data pecOk s
  | .tunnelRead => Sys2Proof.Machine.execTunnelRead s
  | .bookSelect data pecOk => Sys2Proof.Machine.execBookSelect data pecOk s
  | .smbusBookRead => Sys2Proof.Machine.execSmbusBookRead s
  | .smbusLockAcquire n => Sys2Proof.Machine.execSmbusLockAcquire n s
  | .smbusLockRelease n data pecOk => Sys2Proof.Machine.execSmbusLockRelease n data pecOk s
  | .alertResponse => Sys2Proof.Machine.execAlertResponse s
  | .smbusTimeout => Sys2Proof.Machine.execSmbusTimeout s
  | .hifDb r value => Sys2Proof.Machine.execHifDb r value s
  | .hifTxdb t value => Sys2Proof.Machine.execHifTxdb t value s
  | .hifRxdb r value => Sys2Proof.Machine.execHifRxdb r value s
  | .ringEnable r value => Sys2Proof.Machine.execRingEnable r value s
  | .ringDisable r value => Sys2Proof.Machine.execRingDisable r value s
  | .irqMaskWrite offset value => Sys2Proof.Machine.execIrqMaskWrite offset value s
  | .mbxMsg m k value master => Sys2Proof.Machine.execMbxMsg m k value master s
  | .send m master => Sys2Proof.Machine.execSend m master s
  | .withdraw m master accepting => Sys2Proof.Machine.execWithdraw m master accepting s
  | .release m master => Sys2Proof.Machine.execRelease m master s
  | .accept m master => Sys2Proof.Machine.execAccept m master s
  | .mbxAck m code master => Sys2Proof.Machine.execMbxAck m code master s
  | .overflowNotice => Sys2Proof.Machine.execOverflowNotice s
  | .lockAcquire n masters => Sys2Proof.Machine.execLockAcquire n masters s
  | .lockRelease n master => Sys2Proof.Machine.execLockRelease n master s
  | .force n master => Sys2Proof.Machine.execForce n master s
  | .restart => Sys2Proof.Machine.execRestart s
  | .vintnerRestarted => Sys2Proof.Machine.execVintnerRestarted s
  | .traceEnable value => Sys2Proof.Machine.execTraceEnable value s
  | .vntTraceLost => Sys2Proof.Machine.execVntTraceLost s
  | .hifReset value => Sys2Proof.Machine.execHifReset value s
  | .celBookSelect value => Sys2Proof.Machine.execCelBookSelect value s
  | .busMasterEnable on => Sys2Proof.Machine.execBusMasterEnable on s
  | .registerWrite offset value => Sys2Proof.Machine.execRegisterWrite offset value s
  | .bar0BadAccess offset bytes write => Sys2Proof.Machine.execBar0BadAccess offset bytes write s
  | .commandFetch heads => Sys2Proof.Machine.execCommandFetch heads s
  | .replyWrite => Sys2Proof.Machine.execReplyWrite s
  | .holdoffExpire v => Sys2Proof.Machine.execHoldoffExpire v s
  | .dmaError ring => Sys2Proof.Machine.execDmaError ring s
  | .machineCheck addr word ctx tag opcode => Sys2Proof.Machine.execMachineCheck addr word ctx tag opcode s
  | .auxVinUp autoBoot addrSel => Sys2Proof.Machine.execAuxVinUp autoBoot addrSel s
  | .auxVinLost => Sys2Proof.Machine.execAuxVinLost s
  | .resetNAssert => Sys2Proof.Machine.execResetNAssert s
  | .resetNDeassert twinId testmode => Sys2Proof.Machine.execResetNDeassert twinId testmode s
  | .perstNAssert => Sys2Proof.Machine.execPerstNAssert s
  | .perstNDeassert => Sys2Proof.Machine.execPerstNDeassert s
  | .pgInConfirm => Sys2Proof.Machine.execPgInConfirm s
  | .railTimeout => Sys2Proof.Machine.execRailTimeout s
  | .pgInLost => Sys2Proof.Machine.execPgInLost s
  | .bootComplete fail dimms => Sys2Proof.Machine.execBootComplete fail dimms s
  | .refclkLost => Sys2Proof.Machine.execRefclkLost s
  | .refclkReturn => Sys2Proof.Machine.execRefclkReturn s
  | .safeReqN asserted => Sys2Proof.Machine.execSafeReqN asserted s
  | .takeN asserted => Sys2Proof.Machine.execTakeN asserted s
  | .ownInAssert cutting => Sys2Proof.Machine.execOwnInAssert cutting s
  | .ownInDeassert => Sys2Proof.Machine.execOwnInDeassert s
  | .claimWindowEnd => Sys2Proof.Machine.execClaimWindowEnd s
  | .ppsInEdge ii => Sys2Proof.Machine.execPpsInEdge ii s
  | .pulseEdge o => Sys2Proof.Machine.execPulseEdge o s
  | .thermalRead temp => Sys2Proof.Machine.execThermalRead temp s
  | .linkUp p => Sys2Proof.Machine.execLinkUp p s
  | .linkDown p cause lane cutting receiving => Sys2Proof.Machine.execLinkDown p cause lane cutting receiving s
  | .frameReceive p frame fec => Sys2Proof.Machine.execFrameReceive p frame fec s
  | .pauseRefresh p => Sys2Proof.Machine.execPauseRefresh p s
  | .pauseReceive p quanta => Sys2Proof.Machine.execPauseReceive p quanta s
  | .pfcReceive p mask times => Sys2Proof.Machine.execPfcReceive p mask times s
  | .pauseExpire p prio => Sys2Proof.Machine.execPauseExpire p prio s
  | .pauseStormTrip p => Sys2Proof.Machine.execPauseStormTrip p s
  | .pauseStormClear p => Sys2Proof.Machine.execPauseStormClear p s
  | .ingressCipher g => Sys2Proof.Machine.execIngressCipher g s
  | .saFetchDone sa => Sys2Proof.Machine.execSaFetchDone sa s
  | .saFetchRetry => Sys2Proof.Machine.execSaFetchRetry s
  | .distributionRound held => Sys2Proof.Machine.execDistributionRound held s
  | .slicePass k => Sys2Proof.Machine.execSlicePass k s
  | .sliceTimeout k => Sys2Proof.Machine.execSliceTimeout k s
  | .fragHoldTimeout => Sys2Proof.Machine.execFragHoldTimeout s
  | .fragEntryRemoval ii => Sys2Proof.Machine.execFragEntryRemoval ii s
  | .reorderRelease src => Sys2Proof.Machine.execReorderRelease src s
  | .residueWrite src col => Sys2Proof.Machine.execResidueWrite src col s
  | .residueAged src col => Sys2Proof.Machine.execResidueAged src col s
  | .poolRebuild col pool => Sys2Proof.Machine.execPoolRebuild col pool s
  | .selection p => Sys2Proof.Machine.execSelection p s
  | .shaperRefill kind n => Sys2Proof.Machine.execShaperRefill kind n s
  | .adaptiveQuantum g => Sys2Proof.Machine.execAdaptiveQuantum g s
  | .egressCipher g => Sys2Proof.Machine.execEgressCipher g s
  | .frameTransmit p => Sys2Proof.Machine.execFrameTransmit p s
  | .flushMarkersPassed p => Sys2Proof.Machine.execFlushMarkersPassed p s
  | .hostTxFetch t descs => Sys2Proof.Machine.execHostTxFetch t descs s
  | .hostRxDelivery => Sys2Proof.Machine.execHostRxDelivery s
  | .hostRingStalled r => Sys2Proof.Machine.execHostRingStalled r s
  | .epochRetire slot => Sys2Proof.Machine.execEpochRetire slot s
  | .commitCycle => Sys2Proof.Machine.execCommitCycle s
  | .sweep => Sys2Proof.Machine.execSweep s
  | .rebasingPass => Sys2Proof.Machine.execRebasingPass s
  | .tcamScrub => Sys2Proof.Machine.execTcamScrub s
  | .tcamRepair b => Sys2Proof.Machine.execTcamRepair b s
  | .collectorParity err => Sys2Proof.Machine.execCollectorParity err s
  | .cipherKat g bad => Sys2Proof.Machine.execCipherKat g bad s
  | .bookCommit ok => Sys2Proof.Machine.execBookCommit ok s
  | .drainComplete => Sys2Proof.Machine.execDrainComplete s
  | .drainTimeout => Sys2Proof.Machine.execDrainTimeout s
  | .trellisLinkUp => Sys2Proof.Machine.execTrellisLinkUp s
  | .trellisLinkDown => Sys2Proof.Machine.execTrellisLinkDown s
  | .trellisFrame counter credit fcsOk tagOk => Sys2Proof.Machine.execTrellisFrame counter credit fcsOk tagOk s
  | .hello body => Sys2Proof.Machine.execHello body s
  | .proof body => Sys2Proof.Machine.execProof body s
  | .handshakeRetry => Sys2Proof.Machine.execHandshakeRetry s
  | .heartbeatSend => Sys2Proof.Machine.execHeartbeatSend s
  | .heartbeat body => Sys2Proof.Machine.execHeartbeat body s
  | .heartbeatMissed => Sys2Proof.Machine.execHeartbeatMissed s
  | .leapComplete => Sys2Proof.Machine.execLeapComplete s
  | .ack counter refused => Sys2Proof.Machine.execAck counter refused s
  | .syncBegin epoch => Sys2Proof.Machine.execSyncBegin epoch s
  | .syncEnd => Sys2Proof.Machine.execSyncEnd s
  | .syncResult status detail => Sys2Proof.Machine.execSyncResult status detail s
  | .handover => Sys2Proof.Machine.execHandover s
  | .handoverTimeout => Sys2Proof.Machine.execHandoverTimeout s
  | .handoverDone ok => Sys2Proof.Machine.execHandoverDone ok s
  | .vintageOpen handle => Sys2Proof.Machine.execVintageOpen handle s
  | .vintageStage words => Sys2Proof.Machine.execVintageStage words s
  | .prepare handle ops digest at_ => Sys2Proof.Machine.execPrepare handle ops digest at_ s
  | .ready handle => Sys2Proof.Machine.execReady handle s
  | .refuse handle detail index => Sys2Proof.Machine.execRefuse handle detail index s
  | .vintageCommit handle => Sys2Proof.Machine.execVintageCommit handle s
  | .vintageAbort handle => Sys2Proof.Machine.execVintageAbort handle s
  | .number k body => Sys2Proof.Machine.execNumber k body s
  | .window k body => Sys2Proof.Machine.execWindow k body s
  | .context k body => Sys2Proof.Machine.execContext k body s
  | .binding k body => Sys2Proof.Machine.execBinding k body s
  | .sci k body => Sys2Proof.Machine.execSci k body s
  | .retire k body => Sys2Proof.Machine.execRetire k body s
  | .port k body => Sys2Proof.Machine.execPort k body s
  | .mbx m msg => Sys2Proof.Machine.execMbx m msg s
  | .mbxState m code ack kind => Sys2Proof.Machine.execMbxState m code ack kind s
  | .lockReq lock op => Sys2Proof.Machine.execLockReq lock op s
  | .lockResult lock op result owner => Sys2Proof.Machine.execLockResult lock op result owner s
  | .hairpin frame => Sys2Proof.Machine.execHairpin frame s
  | .ptpSync d port msg stamp => Sys2Proof.Machine.execPtpSync d port msg stamp s
  | .followUp d port msg => Sys2Proof.Machine.execFollowUp d port msg s
  | .delayResp d port msg => Sys2Proof.Machine.execDelayResp d port msg s
  | .pdelayResp d port msg stamp => Sys2Proof.Machine.execPdelayResp d port msg stamp s
  | .pdelayRespFollowUp d port msg => Sys2Proof.Machine.execPdelayRespFollowUp d port msg s
  | .holdover d => Sys2Proof.Machine.execHoldover d s
  | .gateBoundary p => Sys2Proof.Machine.execGateBoundary p s
  | .gateListSwitch p => Sys2Proof.Machine.execGateListSwitch p s
  | .snapshotTick => Sys2Proof.Machine.execSnapshotTick s
  | .snapshotDone => Sys2Proof.Machine.execSnapshotDone s
  | .bwmWindowEnd node => Sys2Proof.Machine.execBwmWindowEnd node s
  | .refreshDue ch rank queued => Sys2Proof.Machine.execRefreshDue ch rank queued s
  | .refreshMakeup ch rank issued => Sys2Proof.Machine.execRefreshMakeup ch rank issued s
  | .driftTrack ch adjs => Sys2Proof.Machine.execDriftTrack ch adjs s
  | .powerDownEntry ch rank request => Sys2Proof.Machine.execPowerDownEntry ch rank request s
  | .ddrThermalRead temps => Sys2Proof.Machine.execDdrThermalRead temps s
  | .patrolScrub => Sys2Proof.Machine.execPatrolScrub s
  | .trainingDone passed => Sys2Proof.Machine.execTrainingDone passed s
  | .dozeEntry d ended trigger => Sys2Proof.Machine.execDozeEntry d ended trigger s
  | .deepEntry d ended trigger => Sys2Proof.Machine.execDeepEntry d ended trigger s
  | .wakeComplete d ns => Sys2Proof.Machine.execWakeComplete d ns s
  | .slicePolicy => Sys2Proof.Machine.execSlicePolicy s
  | .flushComplete p => Sys2Proof.Machine.execFlushComplete p s
  | .slewComplete => Sys2Proof.Machine.execSlewComplete s
  | .handshakeTimeout => Sys2Proof.Machine.execHandshakeTimeout s
  | .fullMirrorSent => Sys2Proof.Machine.execFullMirrorSent s
  | .bookClearDone => Sys2Proof.Machine.execBookClearDone s
  | .diagMemTestDone => Sys2Proof.Machine.execDiagMemTestDone s
  | .testAccessPort edge tms tdi => Sys2Proof.Machine.execTestAccessPort edge tms tdi s
  | .msixVectorUnmask vector => Sys2Proof.Machine.execMsixVectorUnmask vector s

end Sys2Proof.Machine
end

