-- ==== Sys2Proof/Machine/Tick.lean ====
section
/-!
DEFINITION. One timing clock passing: the clocks, the core clock, the cellar's cycles and the performance counters (R14, R16, R396, R543 to R547, R569).
-/
namespace Sys2Proof.Machine

/-! ## Occupancies (R544) -/

/-- Cells of one group's landing buffer in use. -/
def State.lbCells (s : State) (g : Nat) : Nat := sumL ((nth s.ing.groups g {}).frames.map (·.cells))

/-- Frames in the encrypt path of a group. -/
def State.encrypting (s : State) (g : Nat) : Nat := (Tbl.lookD s.cip.egress g []).length

/-- The occupancy a unit's source shows now. -/
def State.occupancy (s : State) (u ev : Nat) : Nat :=
  let second := ev == 0x19
  if u < 16 then
    if u % 2 = 1 then s.encrypting (u / 2)
    else if second then (nth s.ing.groups (u / 2) {}).pend.length else s.lbCells (u / 2)
  else if u < 32 then 0
  else if u < 43 then
    let c := u - 32
    if ev = 0x1A then sumL ((s.core.xps.filter fun e => e.1 % 16 == c).map fun e => e.2.residue.length)
    else if second then s.sharedUse c else (s.col c).inUse
  else if u = 43 then s.inService.length
  else if u = 44 then sumL (s.ing.sources.map fun z => z.window.length)
  else if u ≤ 52 then 0
  else if u ≤ 64 then
    if second then (s.sched.queues.filter fun e => s.queueOk (Tbl.lookD s.sched.groups e.2.group {}).port e.1).length
    else sumL (s.core.cols.map (·.qents))
  else if u ≤ 66 then (s.cip.sas.filter fun e => e.2.fetching).length
  else if u ≤ 70 then if second then sumL (nth s.ddr.chans (u - 67) {}).owed else 0
  else if u ≤ 76 then
    if second then min 8 (s.cmds.tags.filter fun t => t.phase == .running || t.phase == .pended).length
    else (s.cmds.tags.filter fun t => t.pkt.path != .tunnel).length
  else if u ≤ 78 then s.twin.credits
  else ((List.range 33).filter fun d => s.pdom d != .run).length

/-- What one counter gains in one core clock: core clocks, the clocks a cipher unit is stalled for a fetch, or an occupancy. -/
def State.perfGain (s : State) (n : Nat) (p : Perf) : Nat :=
  let ev := p.sel.fld 7 0
  match p.sel.fld 9 8 with
  | 1 => b2n (ev == 0 || (ev == 0x13 && decide (n < 128) && n / 8 % 2 == 1 && (nth s.ing.groups (n / 16) {}).stalled.isSome))
  | 2 => b2n (decide (p.sel.fld 31 16 < s.occupancy (n / 8) ev))
  | 3 => s.occupancy (n / 8) ev
  | _ => 0

/-- Every running counter two core clocks later. -/
def State.perfClocks (s : State) : State :=
  s.cnt.perf.foldl (fun (t : State) (e : Nat × Perf) =>
    let k := 2 * s.perfGain e.1 e.2
    if k = 0 || s.perfHigh e.1 then t else t.perfAdd e.1 k) s

/-! ## Performance counters over BAR2 (R46, R547) -/

/-- First unit and number of units of a page. -/
def pageUnits (g : Nat) : Nat × Nat :=
  if g < 16 then (2 * g, 2)
  else if g < 27 then (16 + g, 1)
  else if g = 27 then (43, 2)
  else if g < 32 then (45 + 2 * (g - 28), 2)
  else if g < 38 then (53 + 2 * (g - 32), 2)
  else if g = 38 then (65, 2)
  else if g < 43 then (28 + g, 1)
  else if g < 46 then (71 + 2 * (g - 43), 2)
  else if g = 46 then (77, 2)
  else if g = 47 then (79, 1)
  else (0, 0)

/-- What a BAR2 read of a page answers, 4 or 8 bytes, naturally aligned. -/
def State.userRead (s : State) (g off bytes : Nat) : Nat :=
  let (u, n) := pageUnits g
  let slot := off / 0x800
  let o := off % 0x800
  let p (k : Nat) : Perf := s.perfCtr (8 * (u + slot) + k)
  let word (v : Nat) : Nat := v / 256 ^ (off % 8) % 256 ^ bytes
  if !nbit s.hif.prfUserEn g || n = 0 || (bytes != 4 && bytes != 8) || off % bytes != 0 then 0
  else if off / 8 = 0xF00 / 8 then word s.cnt.cutId
  else if off / 8 = 0xF08 / 8 then word (s.cnt.cutTime / 65536)
  else if off / 8 = 0xF10 / 8 then word (u + b2n (n == 2) * (256 * (u + 1) + 32768))
  else if n ≤ slot then 0
  else if o < 0x40 then word (p (o / 8)).live
  else if 0x100 ≤ o ∧ o < 0x140 then word (p ((o - 0x100) / 8)).shadow
  else if 0x200 ≤ o ∧ o < 0x220 then
    word ((p ((o - 0x200) / 8 * 2)).sel.toNat + 4294967296 * (p ((o - 0x200) / 8 * 2 + 1)).sel.toNat)
  else 0

/-! ## The tick -/

/-- One cellar cycle. -/
def State.cellarCycle (s : State) : State := s.bookM fun b => { b with cycles := b.cycles + 1 }

/-- One timing clock: two core clocks, and a cellar cycle at every 256th core clock. While only the cellar runs, the step is one cellar cycle; with AUX_VIN lost nothing runs. -/
def tick (s : State) : State :=
  if s.mode.mode == .off then s
  else if !s.recordRuns then s.cellarCycle
  else
    let t := s.perfClocks.tickClocks
    if t.time.core % 256 < 2 then t.cellarCycle else t

end Sys2Proof.Machine
end

