-- ==== Sys2Proof/Safety.lean ====
section
/-!
DEFINITION. What the statements speak of: a command that nothing holds back and whose checks hold, an event that finds what it acts on, a state that is settled, and a state without keys.
-/
namespace Sys2Proof

/-- No key material is held (R20, R21). -/
def Safety.noKeys (s : Machine.State) : Bool :=
  s.cip.sas.isEmpty && s.cmds.kwk.isNone && s.cip.sealKey.isNone && s.twin.keys.isNone

end Sys2Proof

namespace Sys2Proof.Machine

/-! ## Invariants and frames -/

/-- The mailboxes agree with their receivers (R66, R67): a message is POSTED only while the receiver is able, and WAITING only while it is not, with the reason that holds now. In OFF nothing is asked. -/
def Safety.mailboxes (s : State) : Prop :=
  s.mode.mode ≠ .off → ∀ m, m < 16 →
    ((nth s.mbx m {}).state = .posted → s.waitReason m = 0) ∧
    ((nth s.mbx m {}).state = .waiting → s.waitReason m ≠ 0 ∧ (nth s.mbx m {}).reason = s.waitReason m)

/-- `t` has every block of `s` but those replies, events, interrupts, trace records and wakes go through: the host link, the tags, the SMBus target, the Vintner's trace, the planted faults, the DDR5 channels and memory, the performance counters, the domains waking, and what is put out. -/
structure Safety.Behind (s t : State) : Prop where
  mode : t.mode = s.mode
  pins : t.pins = s.pins
  mbx : t.mbx = s.mbx
  locks : t.locks = s.locks
  book : t.book = s.book
  parse : t.parse = s.parse
  lookup : t.lookup = s.lookup
  tcam : t.tcam = s.tcam
  act : t.act = s.act
  vin : t.vin = s.vin
  ing : t.ing = s.ing
  frag : t.frag = s.frag
  cip : t.cip = s.cip
  core : t.core = s.core
  sched : t.sched = s.sched
  mac : t.mac = s.mac
  hst : t.hst = s.hst
  time : t.time = s.time
  twin : t.twin = s.twin
  run : t.run = s.run
  tap : t.tap = s.tap
  diag : t.diag = s.diag
  pending : t.pending = s.pending

/-- `t` has every block of `s` that the host reaches only by commands: the mode, the pins, parser, lookups, TCAM, actions, vintages, ingress, fragments, cipher, core, scheduler, MACs, clocks, self-tests, faults and the DDR5 memory. -/
structure Safety.Tables (s t : State) : Prop where
  mode : t.mode = s.mode
  pins : t.pins = s.pins
  flt : t.flt = s.flt
  parse : t.parse = s.parse
  lookup : t.lookup = s.lookup
  tcam : t.tcam = s.tcam
  act : t.act = s.act
  vin : t.vin = s.vin
  ing : t.ing = s.ing
  frag : t.frag = s.frag
  cip : t.cip = s.cip
  core : t.core = s.core
  sched : t.sched = s.sched
  mac : t.mac = s.mac
  time : t.time = s.time
  run : t.run = s.run
  ddr : t.ddr = s.ddr
  tap : t.tap = s.tap
  diag : t.diag = s.diag
  free : t.free = s.free
  pending : t.pending = s.pending

/-! ## A host command that runs -/

/-- Every check of a list holds. -/
def passes (cs : List (Bool × Status × Nat)) : Bool := cs.all fun c => c.1

/-- A command that may name a vintage_handle: a staged one and those of class 0x05 (R85, R161). -/
def usesHandle (op : Nat) : Bool := ((cmdInfo op).getD { op := op, lens := [] }).staged || op / 256 == 5

/-- The meaning of a command that the open batch may stand against: a batchable one, PORT_LAYOUT_SET and POOL_CARVE (R104, R105). -/
def batchRival (op : Nat) : Packet → State → Res :=
  if op = 0x0100 then portLayoutSet
  else if op = 0x0810 then poolCarve
  else (batchBody op).getD fun _ s => .ok s

/-- No command staged in an open batch stands against the command (R104, R105). -/
def State.batchClear (s : State) (op : Nat) (c : Packet) : Bool :=
  s.cmds.staged.isEmpty || (s.batchConflict op (batchRival op) c).isNone

/-- The command is in flight, nothing fetched before it holds it, and it is direct: outside a batch, with no staged command against it, and with a handle only where one may stand. -/
def State.plain (s : State) (op : Nat) (c : Packet) : Bool :=
  s.waits op c && s.mayStart op c && !c.inBatch && (usesHandle op || c.handle == 0#32) && (s.began op c).batchClear op c

/-- A staged command names the open vintage, whose log has room for it, and comes from no standby's own host (R161, R235, R246). -/
def State.hasRoom (s : State) (op : Nat) (c : Packet) : Bool :=
  match s.openVint with
  | none => false
  | some v => s.mode.mode != .twinStandby && c.handle != 0#32 && v.handle == c.handle.toNat && decide (v.ops + opsOf op ≤ 65536)

/-- A staged command's result with its operations and the staging digest counted, relayed in TWIN_ACTIVE (R235, R236, R245). -/
def Res.logged (op : Nat) (c : Packet) : Res → Res
  | .done st d ws t => .done st d ws ((t.vintM fun v => { v with
      ops := v.ops + opsOf op, digest := wd (crc32c v.digest.toNat (digestBytes op c)) }).relayStaged op c)
  | r => r

/-- An exact-match command finds its table, has the length of its keys and no key byte beyond them; `k` is asked of the key. -/
def emReady (c : Packet) (d : Option EmDef) (a : Nat) (k : EmDef → Bytes → Bool) : Bool :=
  match d with
  | none => false
  | some d =>
    let n := if d.wide then 10 else 4
    c.params.length == a + n && passes [keyTail c a n d.keyLen] && k d ((pktKey c a n).take d.keyLen)

/-- The realm and the store have room for one more prefix of a family (R181, R194). -/
def State.pfxRoom (s : State) (realm : Nat) (v6 : Bool) : Bool :=
  let n := Prefix.units { realm := realm, v6 := v6, len := 0, addr := 0, birth := 0, death := 0, deathSet := false, action := 0 }
  decide (s.pfxUsed realm + n ≤ Tbl.lookD s.staged.realms realm 0) && decide (s.pfxAll + n ≤ 524288)

/-- An SA_INSTALL of an inbound MACsec SA. -/
def inboundMac (c : Packet) : Bool := !(c.w 0).bit 0 && !(c.w 0).bit 1

/-- The SCI entry that SA_INSTALL names. -/
def State.sciNamed (s : State) (c : Packet) : Option SciEnt :=
  s.cip.sci.find? fun e =>
    e.group == (c.w 1).fld 2 0 && e.port == (c.w 1).fld 13 8 && e.sci == beNat (wordsBytes [c.w 4, c.w 5])

/-- The association number SA_INSTALL names is taken (R290). -/
def State.sciTaken (s : State) (c : Packet) : Bool :=
  inboundMac c && (match s.sciNamed c with
    | some e => (nth e.slots ((c.w 1).fld 17 16) none).isSome
    | none => false)

/-- The group has an SCI entry for SA_INSTALL, or room for one (R290). -/
def State.sciRoom (s : State) (c : Packet) : Bool :=
  !(inboundMac c && (s.sciNamed c).isNone && decide (4096 ≤ (s.cip.sci.filter fun e => e.group == (c.w 1).fld 2 0).length))

/-- SA_SWITCH may bind an SA with this context to a binding (R292). -/
def State.mayBind (s : State) (b i : Nat) (a : Sa) : Bool :=
  a.outbound && !a.frozen && !a.exhausted
    && (match s.bindingOf i with
      | some x => x == b
      | none => true)
    && (match s.binding b with
      | some e => e.group == a.group && e.esp == a.esp && e.tunnel == a.tunnel && e.udp == a.udp
      | none => true)

/-! ## Events -/

/-- The Vintner finds a posted or accepted message of this code, with its upper half zero, in a mailbox it receives from (R69). -/
def State.boxReady (s : State) (m code : Nat) : Bool :=
  decide (m < 8) && s.vnt.running && ((nth s.mbx m {}).state == .posted || (nth s.mbx m {}).state == .accepted) && (nth (nth s.mbx m {}).msg 0 0#32) == wd code

/-! ## When each command has its effect -/

/-- When NOP has its effect. -/
def Ready.nop (c : Packet) (s0 : State) : Bool :=
  s0.plain 0x0000 c && (passes [objZero c])

/-- When SYNC_SUMMARY has its effect. -/
def Ready.syncSummary (c : Packet) (s0 : State) : Bool :=
  s0.plain 0x0001 c && (passes [objZero c])

/-- When DEVICE_IDENTITY has its effect. -/
def Ready.deviceIdentity (c : Packet) (s0 : State) : Bool :=
  s0.plain 0x0002 c && (passes [objZero c])

/-- When MODE_SET has its effect. -/
def Ready.modeSet (c : Packet) (s0 : State) : Bool :=
  s0.plain 0x0003 c &&
    (let s := s0.began 0x0003 c
     passes [objZero c, reserved c 0 0xFFFF000F, fieldIs 0 0 ((c.w 0).fld 3 0 != 0 && decide ((c.w 0).fld 3 0 < 12)),
      fieldIs 0 16 ((c.w 0).fld 3 0 == 8 || (c.w 0).fld 31 16 == 0), ((c.w 0).fld 3 0 != 8 || (c.w 0).fld 31 16 != 0, .badZero, 18),
      ((c.w 0).fld 3 0 != 11, .badMode, s.mode.mode.code), (!s.cmds.batchOpen, .conflict, 0), (s.mode.pendingTarget.isNone, .busy, 0)]
    && (modeOf ((c.w 0).fld 3 0) == s.mode.mode
      || (modeAllowed s.mode.mode (modeOf ((c.w 0).fld 3 0)) && (s.twinLacks (modeOf ((c.w 0).fld 3 0))).isNone
        && (modeOf ((c.w 0).fld 3 0) != .boot || (s.requestBoot 1).mode.mode == .boot || (s.requestBoot 1).booting)
        && !((modeOf ((c.w 0).fld 3 0) == .twinActive || modeOf ((c.w 0).fld 3 0) == .twinStandby) && s.vin.vint.isSome))))

/-- When CFG_BATCH_BEGIN has its effect. -/
def Ready.cfgBatchBegin (c : Packet) (s0 : State) : Bool :=
  s0.plain 0x0004 c &&
    (let s := s0.began 0x0004 c
     passes [objZero c, (!s.cmds.batchOpen, .conflict, 0)])

/-- When CFG_BATCH_END has its effect. -/
def Ready.cfgBatchEnd (c : Packet) (s0 : State) : Bool :=
  s0.plain 0x0005 c &&
    (let s := s0.began 0x0005 c
     passes [objZero c, reserved c 0 1, (s.cmds.batchOpen && !s.cmds.landing, .notFound, 0)] && (c.w 0).bit 0)

/-- When CFG_BATCH_END has its effect. -/
def Ready.cfgBatchEnd2 (c : Packet) (s0 : State) : Bool :=
  s0.plain 0x0005 c &&
    (let s := s0.began 0x0005 c
     passes [objZero c, reserved c 0 1, (s.cmds.batchOpen && !s.cmds.landing, .notFound, 0)] && !(c.w 0).bit 0
    && (match s.batchDone c with
      | .ok _ => true
      | .error _ => false))

/-- When KWK_ESTABLISH has its effect. -/
def Ready.kwkEstablish (c : Packet) (s0 : State) : Bool :=
  s0.plain 0x0006 c && (passes [objZero c, (P384.onCurve (beAt c.bytes 0 48) (beAt c.bytes 48 48), .badParam, 16)])

/-- When PORT_LAYOUT_SET has its effect. -/
def Ready.portLayoutSet (c : Packet) (s0 : State) : Bool :=
  s0.plain 0x0100 c &&
    (let s := s0.began 0x0100 c
     let g := c.obj
     let w := c.w 0
     let mode3 (k : Nat) : Bool := !w.bit 0 && (if k < 4 then w.fld 2 1 else w.fld 4 3) == 3
     let badLane := (List.range 8).find? fun k => !mode3 k && w.fld (17 + 2 * k) (16 + 2 * k) != 0
     let dom (d : PtpDom) : Bool := d.en && d.port / 8 == g
     passes [objBelow c 8, reserved c 0 0xFFFF001F,
      (w.fld 4 0 != 0, .badZero, 16),
      fieldIs 0 0 (!(w.bit 0 && w.fld 4 1 != 0)),
      fieldIs 0 (16 + 2 * badLane.getD 0) badLane.isNone,
      (!(dom s.time.domA || dom s.time.domB), .conflict, 1),
      (!(s.cip.sas.any fun e => !e.2.outbound && !e.2.esp && e.2.group == g), .conflict, 2),
      (!s.mirrorNames g, .conflict, 3)])

/-- When PORT_SET has its effect. -/
def Ready.portSet (c : Packet) (s0 : State) : Bool :=
  s0.plain 0x0101 c &&
    (let s := s0.began 0x0101 c
     let p := c.obj
     let w := c.w 0
     passes [(s.hasPort p, .notFound, 0), reserved c 0 0xFFFF007F, reserved c 1 0x7FFF, reserved c 3 0xFFFF,
      (!(w.bit 4 && w.fld 31 16 == 0), .badZero, 18), nonZero c 1 14 0,
      fieldIs 0 2 (w.fld 3 2 != 3),
      fieldIs 0 5 (!w.bit 5 || s.portRate p == some 5),
      fieldIs 0 16 (if w.bit 4 then decide (w.fld 31 16 ≤ 10000) else w.fld 31 16 == 0),
      within c 1 14 0 64 16384,
      fieldIs 2 0 (!(c.w 2).bit 0)])

/-- When PORT_STATUS has its effect. -/
def Ready.portStatus (c : Packet) (s0 : State) : Bool :=
  s0.plain 0x0102 c &&
    (let s := s0.began 0x0102 c
     let p := c.obj
     passes [(s.hasPort p, .notFound, 0)])

/-- When LB_PORT_SET has its effect. -/
def Ready.lbPortSet (c : Packet) (s0 : State) : Bool :=
  s0.plain 0x0120 c &&
    (let s := s0.began 0x0120 c
     let p := c.obj
     let share := (c.w 0).fld 12 0
     let xoff := (c.w 1).fld 12 0
     let xon := (c.w 1).fld 28 16
     let mode := (c.w 2).fld 1 0
     let mask := (c.w 2).fld 15 8
     let q := (c.w 3).fld 15 0
     let sum := s.shareSum (p / 8) p share
     passes [(s.hasPort p, .notFound, 0),
      reserved c 0 0x1FFF1FFF, reserved c 1 0x1FFF1FFF, reserved c 2 0x7FF03,
      nonZero c 0 12 0, nonZero c 1 12 0, nonZero c 3 15 0,
      within c 0 12 0 64 4096, within c 0 28 16 0 4096,
      fieldIs 1 0 (decide (xoff + 64 ≤ share)), fieldIs 1 16 (decide (xon < xoff)),
      fieldIs 2 0 (mode != 3), fieldIs 2 8 (!(mode == 2 && mask == 0)),
      fieldIs 3 0 (decide (2 ≤ q)), fieldIs 3 16 (decide (1 ≤ (c.w 3).fld 31 16 ∧ (c.w 3).fld 31 16 < q)),
      (decide (sum ≤ 4096), .conflict, sum)])

/-- When LB_STATUS has its effect. -/
def Ready.lbStatus (c : Packet) (s0 : State) : Bool :=
  s0.plain 0x0121 c && (passes [objBelow c 8])

/-- When PARSE_INFO has its effect. -/
def Ready.parseInfo (c : Packet) (s0 : State) : Bool :=
  s0.plain 0x0200 c && (passes [objZero c])

/-- When PARSE_STATE_SET has its effect. -/
def Ready.parseStateSet (c : Packet) (s0 : State) : Bool :=
  s0.plain 0x0201 c &&
    (let s := s0.began 0x0201 c
     let w3 := c.w 3
     let ext (n : Nat) : List (Bool × Status × Nat) :=
       let w := c.w (4 + n)
       let d := w.fld 21 16
       [fieldIs (4 + n) 16 (w.fld 13 8 == 0 || (decide (8 ≤ d) && decide (d + w.fld 13 8 ≤ 64)))]
     (passes ([(decide (c.obj < 256), .badParam, 8),
      reserved c 0 0xFF3FFF, reserved c 1 0xFF3FFFFF, reserved c 2 0xFFFF03FF, reserved c 3 0x81FF7FFF,
      reserved c 4 0x3F3FFF, reserved c 5 0x3F3FFF, reserved c 6 0x3F3FFF, reserved c 7 0x3F3FFF,
      within c 0 12 10 0 5, within c 2 9 8 0 2, fieldIs 3 0 (decide (w3.fld 14 10 > 16 ∨ w3.fld 9 0 + w3.fld 14 10 ≤ 1024)),
      within c 3 14 10 0 16] ++ (List.range 4).flatMap ext)) && s.hasRoom 0x0201 c)

/-- When PARSE_TRANS_SET has its effect. -/
def Ready.parseTransSet (c : Packet) (s0 : State) : Bool :=
  s0.plain 0x0202 c &&
    (let s := s0.began 0x0202 c
     (passes [(decide (c.obj < 1024), .badParam, 8), reserved c 1 0x3FF]) && s.hasRoom 0x0202 c)

/-- When PARSE_EXCEPT_SET has its effect. -/
def Ready.parseExceptSet (c : Packet) (s0 : State) : Bool :=
  s0.plain 0x0203 c &&
    (let s := s0.began 0x0203 c
     (passes ([(c.obj == 0, .badParam, 8)]
      ++ (List.range 10).map (fun i => reserved c i 0xFFFFFF03) ++ reservedWords c 10 5 ++ [reserved c 15 0xFFFFF,
      fieldIs 0 0 ((c.w 0).fld 1 0 == 0)]
      ++ (List.range 10).map (fun i => within c i 1 0 0 2))) && s.hasRoom 0x0203 c)

/-- When PARSE_DEFAULT_LOAD has its effect. -/
def Ready.parseDefaultLoad (c : Packet) (s0 : State) : Bool :=
  s0.plain 0x0204 c &&
    (let s := s0.began 0x0204 c
     (passes [(c.obj == 0, .badParam, 8)]) && s.hasRoom 0x0204 c)

/-- When PARSE_READ has its effect. -/
def Ready.parseRead (c : Packet) (s0 : State) : Bool :=
  s0.plain 0x0205 c &&
    (let s := s0.began 0x0205 c
     passes [(c.objectId.fld 29 10 == 0 && c.objectId.fld 31 30 != 3, .badParam, 8),
      (decide (c.objectId.fld 9 0 < nth [256, 1024, 1] (c.objectId.fld 31 30) 0), .notFound, 0), reserved c 0 0xFFFF,
      ((s.arraysOf ((c.w 0).fld 15 0)).isSome, .notFound, 0)])

/-- When FRAG_CONFIG has its effect. -/
def Ready.fragConfig (c : Packet) (s0 : State) : Bool :=
  s0.plain 0x0210 c &&
    (let s := s0.began 0x0210 c
     let h := (c.w 0).fld 16 0
     let toHost := (c.w 1).bit 0
     let q := (c.w 1).fld 31 16
     passes [objZero c, reserved c 0 0x1FFFF, reserved c 1 0xFFFF0001, reserved c 2 1,
      fieldIs 0 0 (h == 0 || (decide (100 ≤ h) && decide (h ≤ 100000))),
      (!toHost || s.hostQueueOk q, .conflict, 0)])

/-- When FRAG_STATUS has its effect. -/
def Ready.fragStatus (c : Packet) (s0 : State) : Bool :=
  s0.plain 0x0211 c && (passes [objZero c])

/-- When EM_TABLE_DEFINE has its effect. -/
def Ready.emTableDefine (c : Packet) (s0 : State) : Bool :=
  s0.plain 0x0300 c &&
    (let s := s0.began 0x0300 c
     let t := c.obj
     let en := (c.w 0).bit 0
     let old := Tbl.look s.staged.em t
     let m : Nat := 0x3F3F3F3F
     let busy := match old with
       | some o => (s.emEntries o).any fun e => s.anyLive e.2.birth e.2.death e.2.deathSet
       | none => false
     let used := match old with
       | some o => (s.emEntries o).length
       | none => 0
     (passes [objBelow c 16, reserved c 0 0x3F03, reserved c 1 0xFFF, reserved c 4 m, reserved c 5 m, reserved c 6 m, reserved c 7 m] && !en
    && passes (emRest c ++ [(old.isSome, .notFound, 8), (!busy, .conflict, used)])) && s.hasRoom 0x0300 c)

/-- When EM_TABLE_DEFINE has its effect. -/
def Ready.emTableDefine2 (c : Packet) (s0 : State) : Bool :=
  s0.plain 0x0300 c &&
    (let s := s0.began 0x0300 c
     let t := c.obj
     let en := (c.w 0).bit 0
     let d := emDefOf c
     let old := Tbl.look s.staged.em t
     let m : Nat := 0x3F3F3F3F
     let busy := match old with
       | some o => (s.emEntries o).any fun e => s.anyLive e.2.birth e.2.death e.2.deathSet
       | none => false
     let used := match old with
       | some o => (s.emEntries o).length
       | none => 0
     (passes [objBelow c 16, reserved c 0 0x3F03, reserved c 1 0xFFF, reserved c 4 m, reserved c 5 m, reserved c 6 m, reserved c 7 m] && en
    && (let clash := s.emHolders.find? fun h => h.1 != t && h.2.overlaps d
      passes ([(d.keyLen != 0, .badZero, 17), fieldIs 0 8 (decide (d.keyLen ≤ if d.wide then 40 else 16)
          && sumL (d.segs.map (·.2)) == d.keyLen),
        fieldIs 1 8 (decide (d.k ≤ 8 ∧ d.base + 2 ^ d.k ≤ 256)), fieldIs 3 0 (d.seed0 != d.seed1)]
        ++ segChecks c 4 ++ [(clash.isNone, .conflict, (clash.map (·.1)).getD 0),
        (!(busy && old != some d), .conflict, used)]))) && s.hasRoom 0x0300 c)

/-- When EM_INSERT has its effect. -/
def Ready.emInsert (c : Packet) (s0 : State) : Bool :=
  s0.plain 0x0301 c &&
    (let s := s0.began 0x0301 c
     (passes [objBelow c 16, reserved c 0 0xFFFFF] && emReady c (Tbl.look s.staged.em c.obj) 1 fun d key =>
      (s.emFind d key s.vintN).isNone
        && (s.emPlace c.obj d { key := key, birth := s.vintN, death := 0, deathSet := false, action := (c.w 0).fld 19 0 }).1.isSome) && s.hasRoom 0x0301 c)

/-- When EM_MODIFY has its effect. -/
def Ready.emModify (c : Packet) (s0 : State) : Bool :=
  s0.plain 0x0302 c &&
    (let s := s0.began 0x0302 c
     (passes [objBelow c 16, reserved c 0 0xFFFFF] && emReady c (Tbl.look s.staged.em c.obj) 1 fun d key =>
      match s.emFind d key s.vintN with
      | none => false
      | some (_, e) => (e.birth == s.vintN
        || (s.emPlace c.obj d { key := key, birth := s.vintN, death := 0, deathSet := false, action := (c.w 0).fld 19 0 }).1.isSome)) && s.hasRoom 0x0302 c)

/-- When EM_DELETE has its effect. -/
def Ready.emDelete (c : Packet) (s0 : State) : Bool :=
  s0.plain 0x0303 c &&
    (let s := s0.began 0x0303 c
     (passes [objBelow c 16] && emReady c (Tbl.look s.staged.em c.obj) 0 fun d key => (s.emFind d key s.vintN).isSome) && s.hasRoom 0x0303 c)

/-- When EM_SEARCH has its effect. -/
def Ready.emSearch (c : Packet) (s0 : State) : Bool :=
  s0.plain 0x0304 c &&
    (let s := s0.began 0x0304 c
     passes [objBelow c 16, reserved c 0 0xFFFF]
    && (match s.arraysOf ((c.w 0).fld 15 0) with
      | none => false
      | some a => emReady c (Tbl.look a.em c.obj) 1 fun _ _ => true))

/-- When EM_READ has its effect. -/
def Ready.emRead (c : Packet) (s0 : State) : Bool :=
  s0.plain 0x0305 c && (passes [objBelow c 1048576])

/-- When EM_STATUS has its effect. -/
def Ready.emStatus (c : Packet) (s0 : State) : Bool :=
  s0.plain 0x0306 c && (passes [objBelow c 16])

/-- When PFX_REALM_DEFINE has its effect. -/
def Ready.pfxRealmDefine (c : Packet) (s0 : State) : Bool :=
  s0.plain 0x0310 c &&
    (let s := s0.began 0x0310 c
     let en := (c.w 0).bit 31
     let u := (c.w 0).fld 19 0
     let holds := s.lookup.pfx.any fun x => x.realm == c.obj && s.anyLive x.birth x.death x.deathSet
     (passes [objBelow c 16, reserved c 0 0x800FFFFF, (!(en && u == 0), .badZero, 16),
      fieldIs 0 0 (if en then decide (u ≤ 524288) else u == 0),
      (en || Tbl.has s.staged.realms c.obj, .notFound, 8), (en || !holds, .conflict, 0)]) && s.hasRoom 0x0310 c)

/-- When PFX_ADD has its effect. -/
def Ready.pfxAdd (c : Packet) (s0 : State) : Bool :=
  s0.plain 0x0311 c &&
    (let s := s0.began 0x0311 c
     (passes (pfxList c s false) && (s.pfxExact c.obj ((c.w 0).bit 8) ((c.w 0).fld 7 0) (pfxAddr c) s.vintN).isNone
    && s.pfxRoom c.obj ((c.w 0).bit 8)) && s.hasRoom 0x0311 c)

/-- When PFX_MODIFY has its effect. -/
def Ready.pfxModify (c : Packet) (s0 : State) : Bool :=
  s0.plain 0x0312 c &&
    (let s := s0.began 0x0312 c
     (passes (pfxList c s false) && (s.pfxExact c.obj ((c.w 0).bit 8) ((c.w 0).fld 7 0) (pfxAddr c) s.vintN).isSome
    && (s.pfxRoom c.obj ((c.w 0).bit 8) || ((s.pfxExact c.obj ((c.w 0).bit 8) ((c.w 0).fld 7 0) (pfxAddr c) s.vintN).map fun o => o.birth == s.vintN) == some true)) && s.hasRoom 0x0312 c)

/-- When PFX_DELETE has its effect. -/
def Ready.pfxDelete (c : Packet) (s0 : State) : Bool :=
  s0.plain 0x0313 c &&
    (let s := s0.began 0x0313 c
     (passes (pfxList c s true) && (s.pfxExact c.obj ((c.w 0).bit 8) ((c.w 0).fld 7 0) (pfxAddr c) s.vintN).isSome) && s.hasRoom 0x0313 c)

/-- When PFX_SEARCH has its effect. -/
def Ready.pfxSearch (c : Packet) (s0 : State) : Bool :=
  s0.plain 0x0314 c &&
    (let s := s0.began 0x0314 c
     passes [objBelow c 16, reserved c 0 0xFF03FFFF,
      fieldIs 0 24 (if (c.w 0).bit 17 then decide ((c.w 0).fld 31 24 ≤ famBits ((c.w 0).bit 16)) else (c.w 0).fld 31 24 == 0)]
    && (match s.arraysOf ((c.w 0).fld 15 0) with
      | none => false
      | some a => Tbl.has a.realms c.obj))

/-- When PFX_STATUS has its effect. -/
def Ready.pfxStatus (c : Packet) (s0 : State) : Bool :=
  s0.plain 0x0316 c && (passes [objBelow c 16])

/-- When LOOKUP_PROFILE_SET has its effect. -/
def Ready.lookupProfileSet (c : Packet) (s0 : State) : Bool :=
  s0.plain 0x0320 c &&
    (let s := s0.began 0x0320 c
     (passes [objBelow c 16, reserved c 0 0x8F8F8F8F, reserved c 1 0xFFFF018F]) && s.hasRoom 0x0320 c)

/-- When LOOKUP_MAP_SET has its effect. -/
def Ready.lookupMapSet (c : Packet) (s0 : State) : Bool :=
  s0.plain 0x0321 c &&
    (let s := s0.began 0x0321 c
     (passes [objZero c]) && s.hasRoom 0x0321 c)

/-- When TCAM_BANK_WIDTH has its effect. -/
def Ready.tcamBankWidth (c : Packet) (s0 : State) : Bool :=
  s0.plain 0x0400 c &&
    (let s := s0.began 0x0400 c
     let wc := (c.w 0).fld 1 0
     let used := (s.liveSlots.map (·.2.arrays) ++ (s.vin.vint.map fun (v : Vintage) => v.arrays).toList).any fun a =>
       a.groups.any fun g => nbit g.2.banks c.obj
     let n := s.tcam.validRows c.obj
     passes [objBelow c 64, reserved c 0 3, fieldIs 0 0 (decide (wc < 3)), (n == 0 && !used, .conflict, n)])

/-- When TCAM_GROUP_DEFINE has its effect. -/
def Ready.tcamGroupDefine (c : Packet) (s0 : State) : Bool :=
  s0.plain 0x0401 c &&
    (let s := s0.began 0x0401 c
     let en := (c.w 0).bit 0
     let g := tcamGroupOf c
     let res := reserved c 0 0xF :: (List.range 8).map fun i => reserved c (11 + i) 0x7F3F7F3F
     let rest := (fieldIs 0 1 (!g.multi) :: fieldIs 0 2 (g.width == 0) :: fieldIs 1 0 (g.banks == 0) :: (List.range 16).map fun i =>
       let v := c.n (3 + i)
       (v == 0, Status.badParam, 16 + 4 * (3 + i) + ((List.range 4).find? fun k => nfld v (8 * k + 7) (8 * k) != 0).getD 0))
     (passes (objBelow c 4 :: res) && !en && passes rest) && s.hasRoom 0x0401 c)

/-- When TCAM_GROUP_DEFINE has its effect. -/
def Ready.tcamGroupDefine2 (c : Packet) (s0 : State) : Bool :=
  s0.plain 0x0401 c &&
    (let s := s0.began 0x0401 c
     let en := (c.w 0).bit 0
     let g := tcamGroupOf c
     let res := reserved c 0 0xF :: (List.range 8).map fun i => reserved c (11 + i) 0x7F3F7F3F
     let badPrio := (List.range 64).find? fun b => !nbit g.banks b && nth g.prio b 0 != 0
     let badWidth := (setBits 64 g.banks).find? fun b => s.tcam.widthOf b != g.width
     let other := s.staged.groups.find? fun x => x.1 != c.obj && (x.2.banks &&& g.banks) != 0
     (passes (objBelow c 4 :: res) && en
    && passes ([(g.banks != 0, .badZero, 20), fieldIs 0 2 (decide (g.width < 3)),
        (badPrio.isNone, .badParam, 28 + badPrio.getD 0 / 2)] ++ tcamSegChecks c g.width
        ++ [(badWidth.isNone, .conflict, badWidth.getD 0), (other.isNone, .conflict, 0x100 + (other.map (·.1)).getD 0)])) && s.hasRoom 0x0401 c)

/-- When TCAM_PROFILE_SET has its effect. -/
def Ready.tcamProfileSet (c : Packet) (s0 : State) : Bool :=
  s0.plain 0x0402 c &&
    (let s := s0.began 0x0402 c
     (passes [objBelow c 16, reserved c 0 0xF]) && s.hasRoom 0x0402 c)

/-- When TCAM_INSERT has its effect. -/
def Ready.tcamInsert (c : Packet) (s0 : State) : Bool :=
  s0.plain 0x0403 c &&
    (let s := s0.began 0x0403 c
     let row := entryRow c
     let wc := s.tcam.widthOf (row / 2048)
     let w := tcamUnits wc
     let key := pktKey c 1 (5 * w)
     let mask := pktKey c (1 + 5 * w) (5 * w)
     let t := s.readEntry row
     (passes [entryObj c, (row % w == 0, .badParam, 8), (c.params.length == 1 + 10 * w, .badLength, 6),
      reserved c 0 0xFFFFF, keyUnderMask c w] && t.tcamFree row && (t.tcamTwin row key mask).isNone) && s.hasRoom 0x0403 c)

/-- When TCAM_DELETE has its effect. -/
def Ready.tcamDelete (c : Packet) (s0 : State) : Bool :=
  s0.plain 0x0404 c &&
    (let s := s0.began 0x0404 c
     (passes [entryObj c, (entryRow c % tcamUnits (s.tcam.widthOf (entryRow c / 2048)) == 0, .badParam, 8)]
    && (let t := s.readEntry (entryRow c)
      match Tbl.look t.tcam.ents (entryRow c) with
      | none => false
      | some e => visible e.birth e.death e.deathSet t.vintN)) && s.hasRoom 0x0404 c)

/-- When TCAM_READ has its effect. -/
def Ready.tcamRead (c : Packet) (s0 : State) : Bool :=
  s0.plain 0x0405 c && (passes [entryObj c])

/-- When TCAM_SEARCH has its effect. -/
def Ready.tcamSearch (c : Packet) (s0 : State) : Bool :=
  s0.plain 0x0406 c &&
    (let s := s0.began 0x0406 c
     passes [objBelow c 4, reserved c 0 0x1FFFF, reserved c 1 0x87FF003F, reserved c 2 0x7F, nonZero c 2 6 0, within c 2 6 0 1 64]
    && (match s.tcamArrays ((c.w 0).fld 15 0) with
      | none => false
      | some a => match Tbl.look a.groups c.obj with
        | none => false
        | some g => c.params.length == 3 + 5 * tcamUnits g.width))

/-- When TCAM_STATUS has its effect. -/
def Ready.tcamStatus (c : Packet) (s0 : State) : Bool :=
  s0.plain 0x0407 c && (passes [objBelow c 5])

/-- When VINT_OPEN has its effect. -/
def Ready.vintOpen (c : Packet) (s0 : State) : Bool :=
  s0.plain 0x0500 c &&
    (let s := s0.began 0x0500 c
     passes [(c.handle == 0#32, .badParam, 12), objZero c, gate (s.vintGate 0)] && s.twin.st != .sync && s.vin.vint.isNone)

/-- When VINT_STAGE has its effect. -/
def Ready.vintStage (c : Packet) (s0 : State) : Bool :=
  s0.plain 0x0501 c &&
    (let s := s0.began 0x0501 c
     passes [(c.handle != 0#32, .badParam, 12), objZero c, gate (s.vintGate 0)]
    && (match s.openVint with
      | none => false
      | some v => v.handle == c.handle.toNat)
    && (match stageRun c (c.params.length + 1) 0 0 c.params s with
      | .done .ok _ _ _ => true
      | _ => false))

/-- When VINT_COMMIT has its effect. -/
def Ready.vintCommit (c : Packet) (s0 : State) : Bool :=
  s0.plain 0x0502 c &&
    (let s := s0.began 0x0502 c
     passes [(c.handle != 0#32, .badParam, 12), objZero c, gate (s.vintGate c.handle.toNat)] && (match s.vin.vint with
      | none => false
      | some v => v.handle == c.handle.toNat && v.state == .opened && (s.commitCheck v).isNone))

/-- When VINT_COMMIT has its effect. -/
def Ready.vintCommit2 (c : Packet) (s0 : State) : Bool :=
  s0.plain 0x0502 c &&
    (let s := s0.began 0x0502 c
     passes [(c.handle != 0#32, .badParam, 12), objZero c, gate (s.vintGate c.handle.toNat)] && (match s.vin.vint with
      | none => false
      | some v => v.handle == c.handle.toNat && v.state == .prepared))

/-- When VINT_ABORT has its effect. -/
def Ready.vintAbort (c : Packet) (s0 : State) : Bool :=
  s0.plain 0x0503 c &&
    (let s := s0.began 0x0503 c
     passes [objZero c, gate (s.vintGate c.handle.toNat)]
    && (match s.vin.vint with
      | none => false
      | some v => v.handle == c.handle.toNat))

/-- When VINT_STATUS has its effect. -/
def Ready.vintStatus (c : Packet) (s0 : State) : Bool :=
  s0.plain 0x0504 c && (passes [objZero c] && c.handle == 0#32)

/-- When VINT_STATUS has its effect. -/
def Ready.vintStatus2 (c : Packet) (s0 : State) : Bool :=
  s0.plain 0x0504 c &&
    (let s := s0.began 0x0504 c
     passes [objZero c] && c.handle != 0#32
    && ([s.vin.vint, s.vin.last].findSome? fun o => o.filter fun (v : Vintage) => v.handle == c.handle.toNat).isSome)

/-- When VINT_COMMIT_AT has its effect. -/
def Ready.vintCommitAt (c : Packet) (s0 : State) : Bool :=
  s0.plain 0x0505 c &&
    (let s := s0.began 0x0505 c
     passes [(c.handle != 0#32, .badParam, 12), objZero c, reserved c 2 0xFFFF, gate (s.vintGate 0), within c 0 31 0 0 999999999] && (match s.vin.vint with
      | none => false
      | some v => v.handle == c.handle.toNat && v.state == .opened && (s.commitCheck v).isNone))

/-- When VINT_COMMIT_AT has its effect. -/
def Ready.vintCommitAt2 (c : Packet) (s0 : State) : Bool :=
  s0.plain 0x0505 c &&
    (let s := s0.began 0x0505 c
     passes [(c.handle != 0#32, .badParam, 12), objZero c, reserved c 2 0xFFFF, gate (s.vintGate 0), within c 0 31 0 0 999999999] && (match s.vin.vint with
      | none => false
      | some v => v.handle == c.handle.toNat && v.state == .prepared))

/-- When ACT_WRITE has its effect. -/
def Ready.actWrite (c : Packet) (s0 : State) : Bool :=
  s0.plain 0x0600 c &&
    (let s := s0.began 0x0600 c
     let a := c.params
     let n := s.vintN
     let old := Tbl.look s.act.acts c.obj
     let mine := (old.map fun (e : ActEnt) => e.birth == n) == some true
     let free := (old.map fun (e : ActEnt) => s.reclaimable e.death e.deathSet) != some false
     (passes [idxBelow c 131072, reserved c 0 0xFFFFFF3F, reserved c 1 0xFFFF3FFF, reserved c 2 0x1FFFFFFF, reserved c 3 0x0F0FFFFF,
      reserved c 4 0xFFFF7FFF, reserved c 6 0xFFFF7F7F,
      fieldIs 0 0 ((c.w 0).bit 0), fieldIs 0 1 (!(c.w 0).bit 1), fieldIs 0 2 (decide (actVerdict a < 3)),
      fieldIs 0 5 (!actBypass a || (actVerdict a == 0 && actIntent a == 0)),
      fieldIs 0 8 (actReason a == 0 || decide (0x80 ≤ actReason a)), fieldIs 2 25 (decide (actIntent a ≤ 4)),
      fieldIs 4 13 (decide (actAnchor a < 3)), fieldIs 4 16 (decide (actVlan a ≤ 5)),
      fieldIs 4 19 (decide (actMpls a ≤ 4)), fieldIs 4 22 (decide (actTtl a < 3)),
      fieldIs 6 16 ((c.w 6).fld 31 16 == 0),
      (mine || free, .conflict, (old.map fun (e : ActEnt) => e.birth).getD 0)]) && s.hasRoom 0x0600 c)

/-- When ACT_DELETE has its effect. -/
def Ready.actDelete (c : Packet) (s0 : State) : Bool :=
  s0.plain 0x0601 c &&
    (let s := s0.began 0x0601 c
     (passes [idxBelow c 131072] && (s.actAt c.obj s.vintN).isSome) && s.hasRoom 0x0601 c)

/-- When ACT_READ has its effect. -/
def Ready.actRead (c : Packet) (s0 : State) : Bool :=
  s0.plain 0x0602 c &&
    (let kind := c.obj / 1073741824
     let i := c.obj % 131072
     let lim := nth [131072, 4096, 16384, 16] kind 0
     passes [(c.obj % 1073741824 / 131072 == 0, .badParam, 8), (decide (i < lim), .notFound, 0)])

/-- When TEMPLATE_WRITE has its effect. -/
def Ready.templateWrite (c : Packet) (s0 : State) : Bool :=
  s0.plain 0x0603 c &&
    (let s := s0.began 0x0603 c
     let n := s.vintN
     let old := Tbl.look s.act.tmpls c.obj
     let ok := (old.map fun (e : Template) => e.birth == n || s.reclaimable e.death e.deathSet) != some false
     (passes [idxBelow c 4096, reserved c 0 0xFF, nonZero c 0 7 0, within c 0 7 0 1 128,
      (ok, .conflict, (old.map fun (e : Template) => e.birth).getD 0)]) && s.hasRoom 0x0603 c)

/-- When TEMPLATE_DELETE has its effect. -/
def Ready.templateDelete (c : Packet) (s0 : State) : Bool :=
  s0.plain 0x0604 c &&
    (let s := s0.began 0x0604 c
     (passes [idxBelow c 4096] && (s.tmplAt c.obj s.vintN).isSome) && s.hasRoom 0x0604 c)

/-- When NEXTHOP_WRITE has its effect. -/
def Ready.nexthopWrite (c : Packet) (s0 : State) : Bool :=
  s0.plain 0x0605 c &&
    (let s := s0.began 0x0605 c
     let n := s.vintN
     let old := Tbl.look s.act.hops c.obj
     let mine := (old.map fun (e : NextHop) => e.birth == n) == some true
     let free := (old.map fun (e : NextHop) => s.reclaimable e.death e.deathSet) != some false
     let p := (c.w 0).fld 14 8
     (passes [idxBelow c 16384, reserved c 0 0xFFFF7F07, fieldIs 0 0 ((c.w 0).bit 0), fieldIs 0 1 (!(c.w 0).bit 1),
      fieldIs 0 8 (decide (p ≤ 64) || p == 66), fieldIs 2 16 ((c.w 2).fld 31 16 == 0),
      (mine || free, .conflict, (old.map fun (e : NextHop) => e.birth).getD 0)]) && s.hasRoom 0x0605 c)

/-- When NEXTHOP_DELETE has its effect. -/
def Ready.nexthopDelete (c : Packet) (s0 : State) : Bool :=
  s0.plain 0x0606 c &&
    (let s := s0.began 0x0606 c
     (passes [idxBelow c 16384] && (s.hopAt c.obj s.vintN).isSome) && s.hasRoom 0x0606 c)

/-- When MIRROR_SESSION_SET has its effect. -/
def Ready.mirrorSessionSet (c : Packet) (s0 : State) : Bool :=
  s0.plain 0x0607 c &&
    (let s := s0.began 0x0607 c
     (passes [idxBelow c 16, reserved c 0 0xFFFF07FF, reserved c 1 0x3FFFFFFF,
      reserved c 2 0xFFFF,
      (!(mirEnable c.params && mirSample c.params == 0), .badZero, 24),
      fieldIs 1 16 (mirTruncate c.params == 0 || decide (64 ≤ mirTruncate c.params)), fieldIs 3 0 (mirTrigger c.params != 0 || mirMask c.params == 0)]
    && (match ((List.range 4).find? fun i => (nth (s.mirrorPos c.obj) i {}).at_ s.vintN) with
      | none => false
      | some i => (nth (s.mirrorPos c.obj) i {}).birth == s.vintN)) && s.hasRoom 0x0607 c)

/-- When MIRROR_SESSION_SET has its effect. -/
def Ready.mirrorSessionSet2 (c : Packet) (s0 : State) : Bool :=
  s0.plain 0x0607 c &&
    (let s := s0.began 0x0607 c
     (passes [idxBelow c 16, reserved c 0 0xFFFF07FF, reserved c 1 0x3FFFFFFF,
      reserved c 2 0xFFFF,
      (!(mirEnable c.params && mirSample c.params == 0), .badZero, 24),
      fieldIs 1 16 (mirTruncate c.params == 0 || decide (64 ≤ mirTruncate c.params)), fieldIs 3 0 (mirTrigger c.params != 0 || mirMask c.params == 0)]
    && (match ((List.range 4).find? fun i => (nth (s.mirrorPos c.obj) i {}).at_ s.vintN) with
      | none => false
      | some i => (nth (s.mirrorPos c.obj) i {}).birth != s.vintN) && (s.mirrorFree c.obj).isSome) && s.hasRoom 0x0607 c)

/-- When MIRROR_SESSION_SET has its effect. -/
def Ready.mirrorSessionSet3 (c : Packet) (s0 : State) : Bool :=
  s0.plain 0x0607 c &&
    (let s := s0.began 0x0607 c
     (passes [idxBelow c 16, reserved c 0 0xFFFF07FF, reserved c 1 0x3FFFFFFF,
      reserved c 2 0xFFFF,
      (!(mirEnable c.params && mirSample c.params == 0), .badZero, 24),
      fieldIs 1 16 (mirTruncate c.params == 0 || decide (64 ≤ mirTruncate c.params)), fieldIs 3 0 (mirTrigger c.params != 0 || mirMask c.params == 0)]
    && ((List.range 4).find? fun i => (nth (s.mirrorPos c.obj) i {}).at_ s.vintN).isNone && (s.mirrorFree c.obj).isSome) && s.hasRoom 0x0607 c)

/-- When BYPASS_CLASS_SET has its effect. -/
def Ready.bypassClassSet (c : Packet) (s0 : State) : Bool :=
  s0.plain 0x0608 c &&
    (let s := s0.began 0x0608 c
     (passes [objZero c, reserved c 0 0xF]) && s.hasRoom 0x0608 c)

/-- When METER_PROFILE_SET has its effect. -/
def Ready.meterProfileSet (c : Packet) (s0 : State) : Bool :=
  s0.plain 0x0609 c && (passes [objBelow c 4096, reserved c 0 0x3F3F7F, nonZero c 3 31 0, nonZero c 4 31 0,
      fieldIs 0 0 (decide ((c.w 0).fld 1 0 < 2)), fieldIs 0 3 ((c.w 0).fld 4 3 != 3),
      fieldIs 0 5 ((c.w 0).fld 6 5 != 3), rateOk c 1, rateOk c 2,
      fieldIs 2 0 ((c.w 0).fld 1 0 != 0 || decide (c.n 1 ≤ c.n 2)), within c 3 31 0 64 16777216, within c 4 31 0 64 16777216])

/-- When METER_SET has its effect. -/
def Ready.meterSet (c : Packet) (s0 : State) : Bool :=
  s0.plain 0x060A c &&
    (let s := s0.began 0x060A c
     let m := Tbl.lookD s.act.meters c.obj {}
     let pi := (c.w 0).fld 11 0
     let en := (c.w 0).bit 15
     passes [objBelow c 65536, reserved c 0 0x18FFF, (en || !s.meterHeld c.obj, .conflict, m.refs), (Tbl.has s.act.mprofiles pi, .notFound, 0)])

/-- When METER_READ has its effect. -/
def Ready.meterRead (c : Packet) (s0 : State) : Bool :=
  s0.plain 0x060B c && (passes [objBelow c 65536])

/-- When ACTION_CONFIG has its effect. -/
def Ready.actionConfig (c : Packet) (s0 : State) : Bool :=
  s0.plain 0x060C c &&
    (let s := s0.began 0x060C c
     let q := (c.w 0).fld 31 16
     passes [objZero c, reserved c 0 0xFFFF0003, (q == 65535 || s.queueUnder q 64, .conflict, 0)])

/-- When ACT_STATUS has its effect. -/
def Ready.actStatus (c : Packet) (s0 : State) : Bool :=
  s0.plain 0x060D c && (passes [objZero c])

/-- When REASON_COUNTS has its effect. -/
def Ready.reasonCounts (c : Packet) (s0 : State) : Bool :=
  s0.plain 0x060E c && (passes [objBelow c 2])

/-- When SA_INSTALL has its effect. -/
def Ready.saInstall (c : Packet) (s0 : State) : Bool :=
  s0.plain 0x0700 c &&
    (let s := s0.began 0x0700 c
     passes (installHead c ++ gate (s.saGate false) :: installFields c ++ [((s.sa c.obj).isNone, .conflict, 0),
      (s.cmds.kwk.isSome && c.n 15 == s.cmds.kwkGen, .conflict, 1), (!s.sciTaken c, .conflict, 2)])
    && s.sciRoom c
    && (match Aes.unwrap (s.cmds.kwk.getD []) ((wordsBytes (c.params.drop 16)).take (if (c.w 0).bit 3 then 40 else 24)) with
      | none => false
      | some key => (match s.placeSa c.obj (installCtx c key ((s.cip.installs + 1) % 4294967296)) with
        | .error _ => false
        | .ok _ => true)))

/-- When SA_RETIRE has its effect. -/
def Ready.saRetire (c : Packet) (s0 : State) : Bool :=
  s0.plain 0x0701 c &&
    (let s := s0.began 0x0701 c
     passes [saIndex c, gate (s.saGate false)]
    && (match s.sa c.obj with
      | none => false
      | some r => !r.retiring) && (s.bindingOf c.obj).isNone)

/-- When SA_SWITCH has its effect. -/
def Ready.saSwitch (c : Packet) (s0 : State) : Bool :=
  s0.plain 0x0702 c &&
    (let s := s0.began 0x0702 c
     passes [objBelow c 65536, reserved c 0 0x803FFFFF, gate (s.saGate false), fieldIs 0 0 (!((c.w 0).bit 31 && (c.w 0).fld 21 0 != 0))]
    && (c.w 0).bit 31 && !s.bindHeld c.obj)

/-- When SA_SWITCH has its effect. -/
def Ready.saSwitch2 (c : Packet) (s0 : State) : Bool :=
  s0.plain 0x0702 c &&
    (let s := s0.began 0x0702 c
     passes [objBelow c 65536, reserved c 0 0x803FFFFF, gate (s.saGate false), fieldIs 0 0 (!((c.w 0).bit 31 && (c.w 0).fld 21 0 != 0))]
    && !(c.w 0).bit 31
    && (match s.sa ((c.w 0).fld 21 0) with
      | none => false
      | some r => !r.retiring) && s.boundSa c.obj == some ((c.w 0).fld 21 0))

/-- When SA_SWITCH has its effect. -/
def Ready.saSwitch3 (c : Packet) (s0 : State) : Bool :=
  s0.plain 0x0702 c &&
    (let s := s0.began 0x0702 c
     passes [objBelow c 65536, reserved c 0 0x803FFFFF, gate (s.saGate false), fieldIs 0 0 (!((c.w 0).bit 31 && (c.w 0).fld 21 0 != 0))]
    && !(c.w 0).bit 31
    && (match s.sa ((c.w 0).fld 21 0) with
      | none => false
      | some r => !r.retiring && (match r.ctx with
        | none => false
        | some a => s.mayBind c.obj ((c.w 0).fld 21 0) a)) && s.boundSa c.obj != some ((c.w 0).fld 21 0))

/-- When SA_READ has its effect. -/
def Ready.saRead (c : Packet) (s0 : State) : Bool :=
  s0.plain 0x0703 c &&
    (let s := s0.began 0x0703 c
     passes [saIndex c]
    && (match s.sa c.obj with
      | none => false
      | some r => r.ctx.isSome || r.lost))

/-- When SA_READ has its effect. -/
def Ready.saRead2 (c : Packet) (s0 : State) : Bool :=
  s0.plain 0x0703 c &&
    (let s := s0.began 0x0703 c
     passes [saIndex c]
    && (match s.sa c.obj with
      | none => false
      | some r => r.ctx.isNone && !r.lost) && (s.openRec c.obj).1.isSome)

/-- When SA_SPILL_POLICY has its effect. -/
def Ready.saSpillPolicy (c : Packet) (s0 : State) : Bool :=
  s0.plain 0x0704 c &&
    (let s := s0.began 0x0704 c
     c.obj == 0x80000000
    && passes [(c.params.length == 3, .badLength, 6), reserved c 0 3, gate (s.saGate true), fieldIs 1 0 ((c.n 1 + 4294967296 * c.n 2) % 1073741824 == 0),
      (s.ddrReady && decide (c.n 1 + 4294967296 * c.n 2 + 1073741824 ≤ s.ddr.capacity), .noResource, 0),
      (!(s.spilled != 0 && (c.n 1 + 4294967296 * c.n 2 != s.cip.spillBase || !(c.w 0).bit 0)), .conflict, 0),
      (!((c.w 0).bit 0 && s.overlaps 0 (c.n 1 + 4294967296 * c.n 2) 1073741824), .conflict, 0)])

/-- When SA_SPILL_POLICY has its effect. -/
def Ready.saSpillPolicy2 (c : Packet) (s0 : State) : Bool :=
  s0.plain 0x0704 c &&
    (let s := s0.began 0x0704 c
     c.obj != 0x80000000
    && passes [(c.params.length == 1, .badLength, 6), saIndex c, reserved c 0 1, gate (s.saGate true)] && (c.w 0).bit 0
    && (match s.sa c.obj with
      | none => false
      | some r => !r.retiring && ((s.saPinned r && r.ctx.isSome)
        || (decide (((s.setHolders c.obj).filter fun e => s.saPinned e.2).length < 8) && (s.fetchSa c.obj).1 == .here))))

/-- When SA_SPILL_POLICY has its effect. -/
def Ready.saSpillPolicy3 (c : Packet) (s0 : State) : Bool :=
  s0.plain 0x0704 c &&
    (let s := s0.began 0x0704 c
     c.obj != 0x80000000
    && passes [(c.params.length == 1, .badLength, 6), saIndex c, reserved c 0 1, gate (s.saGate true)] && !(c.w 0).bit 0
    && (match s.sa c.obj with
      | none => false
      | some r => !r.retiring && !s.saPinned { r with pin := false }))

/-- When CIPHER_PORT_SET has its effect. -/
def Ready.cipherPortSet (c : Packet) (s0 : State) : Bool :=
  s0.plain 0x0705 c &&
    (let s := s0.began 0x0705 c
     passes [(s.hasPort c.obj, .notFound, 0), reserved c 0 7, gate (s.saGate false), fieldIs 0 0 ((c.w 0).fld 1 0 != 3),
      ((s.mport c.obj).cipher, .conflict, 0)])

/-- When BINDING_READ has its effect. -/
def Ready.bindingRead (c : Packet) (s0 : State) : Bool :=
  s0.plain 0x0706 c && (passes [objBelow c 65536])

/-- When CIPHER_STATUS has its effect. -/
def Ready.cipherStatus (c : Packet) (s0 : State) : Bool :=
  s0.plain 0x0707 c && (passes [objBelow c 9])

/-- When CORE_XP_SET has its effect. -/
def Ready.coreXpSet (c : Packet) (s0 : State) : Bool :=
  s0.plain 0x0800 c &&
    (let s := s0.began 0x0800 c
     let src := c.obj / 16
     let col := c.obj % 16
     let r := (c.w 0).fld 15 0
     let sum := s.rminSum col - (s.xp src col).rmin + r
     let region := 45056 - sum
     passes (xpObj c ++ [(r != 0, .badZero, 16), within c 0 15 0 64 45056, within c 0 31 16 0 45056, (!s.core.compat, .conflict, 3),
      (decide (sum ≤ 45056), .conflict, sum), (!(col == 9 && decide (region < (s.col 9).holdUnits)), .conflict, region)]))

/-- When CORE_COLUMN_SET has its effect. -/
def Ready.coreColumnSet (c : Packet) (s0 : State) : Bool :=
  s0.plain 0x0801 c &&
    (let s := s0.began 0x0801 c
     let h := (c.w 0).fld 31 16
     passes [objBelow c 11, reserved c 0 0xFFFF0007, fieldIs 0 16 (c.obj == 9 || h == 0), (!s.core.compat, .conflict, 3),
      (decide (h ≤ s.region 9) || h == 0, .conflict, s.region 9)])

/-- When CORE_XP_STATUS has its effect. -/
def Ready.coreXpStatus (c : Packet) (s0 : State) : Bool :=
  s0.plain 0x0802 c && (passes (xpObj c))

/-- When CORE_COLUMN_STATUS has its effect. -/
def Ready.coreColumnStatus (c : Packet) (s0 : State) : Bool :=
  s0.plain 0x0803 c && (passes [objBelow c 11])

/-- When CORE_PORT_FLUSH has its effect. -/
def Ready.corePortFlush (c : Packet) (s0 : State) : Bool :=
  s0.plain 0x0804 c &&
    (let s := s0.began 0x0804 c
     let p := c.obj
     passes [(decide (p < 67) && p != 65, .notFound, 0), (!(decide (p < 64) && !s.hasPort p), .notFound, 1)])

/-- When CORE_PORT_STATUS has its effect. -/
def Ready.corePortStatus (c : Packet) (s0 : State) : Bool :=
  s0.plain 0x0805 c &&
    (let s := s0.began 0x0805 c
     let p := c.obj
     passes [objBelow c 67, (!(decide (p < 64) && !s.hasPort p), .notFound, 0)])

/-- When POOL_CARVE has its effect. -/
def Ready.poolCarve (c : Packet) (s0 : State) : Bool :=
  s0.plain 0x0810 c &&
    (let s := s0.began 0x0810 c
     let w := c.w 0
     let new := [w.fld 9 0, w.fld 19 10, w.fld 29 20]
     let k := s.col c.obj
     let excess := (List.range 4).find? fun p => decide (poolBuffers p (segCount new p) < k.quotaSum p)
     passes [objBelow c 11, reserved c 0 0x3FFFFFFF, fieldIs 0 0 (decide (sumL new + 16 ≤ 704)), (k.carve.isNone, .busy, 0),
      (!(s.core.compat && excess.isSome), .conflict, excess.getD 0)])

/-- When POOL_COLUMN_SET has its effect. -/
def Ready.poolColumnSet (c : Packet) (s0 : State) : Bool :=
  s0.plain 0x0811 c && (passes [objBelow c 11, reserved c 0 1])

/-- When POOL_MODE_SET has its effect. -/
def Ready.poolModeSet (c : Packet) (s0 : State) : Bool :=
  s0.plain 0x0812 c &&
    (let s := s0.began 0x0812 c
     let on := (c.w 0).bit 0
     let busy := (List.range 11).find? fun i => decide (0 < (s.col i).inUse)
     passes [objZero c, reserved c 0 1, (on == s.core.compat || busy.isNone, .conflict, busy.getD 0)])

/-- When POOL_QUOTA_SET has its effect. -/
def Ready.poolQuotaSet (c : Packet) (s0 : State) : Bool :=
  s0.plain 0x0813 c &&
    (let s := s0.began 0x0813 c
     let src := c.obj / 16
     let col := c.obj % 16
     let k := s.col col
     let new := (List.range 4).foldl (fun t p => Tbl.put t (4 * src + p) ((c.w p).fld 15 0)) k.quota
     let excess := (List.range 4).find? fun p => decide (poolBuffers p (k.segsOf p) < Column.quotaSum { k with quota := new } p)
     passes (xpObj c ++ (List.range 4).map (fun p => reserved c p 0xFFFF)
      ++ [(s.core.compat, .conflict, 4), (excess.isNone, .conflict, excess.getD 0)]))

/-- When POOL_STATUS has its effect. -/
def Ready.poolStatus (c : Packet) (s0 : State) : Bool :=
  s0.plain 0x0814 c && (passes [objBelow c 11])

/-- When POOL_BUFFER_READ has its effect. -/
def Ready.poolBufferRead (c : Packet) (s0 : State) : Bool :=
  s0.plain 0x0815 c &&
    (let s := s0.began 0x0815 c
     let col := c.obj % 16
     let unit := c.obj / 16
     let k := s.col col
     let p := k.segPool (unit / 64)
     passes [(decide (c.obj < 1048576), .badParam, 8), (decide (col < 11) && decide (unit < 45056), .notFound, 0),
      (unit % poolUnits p == 0, .badParam, 8)])

/-- When POOL_QUARANTINE_RELEASE has its effect. -/
def Ready.poolQuarantineRelease (c : Packet) (s0 : State) : Bool :=
  s0.plain 0x0816 c && (passes [objBelow c 11])

/-- When SCHED_PORT_SET has its effect. -/
def Ready.schedPortSet (c : Packet) (s0 : State) : Bool :=
  s0.plain 0x0900 c &&
    (let p := c.obj
     let en := (c.w 0).bit 8
     let half (k : Nat) : Nat × Nat × Nat := (1 + k / 2, 16 * (k % 2) + 15, 16 * (k % 2))
     let qz := (List.range 8).map fun k => nonZero c (half k).1 (half k).2.1 (half k).2.2
     let qr := (List.range 8).map fun k => within c (half k).1 (half k).2.1 (half k).2.2 64 65535
     passes ([(decide (p < 67) && p != 65, .notFound, 0), reserved c 0 0xFF01FF] ++ qz ++ shaperZero c en 5
      ++ [withinI c 0 23 16 (-32) 63] ++ qr ++ shaperRange c en 5))

/-- When SCHED_GROUP_SET has its effect. -/
def Ready.schedGroupSet (c : Packet) (s0 : State) : Bool :=
  s0.plain 0x0901 c &&
    (let s := s0.began 0x0901 c
     let g := c.obj
     let w := c.w 0
     let x := s.sgrp g
     let used := (s.groupQueues g).length
     let first := [objBelow c 4096, reserved c 0 0x77F07, reserved c 1 0xFFFF]
     !w.bit 0 && passes (first ++ zeroFields c [(0, 1, 1), (0, 2, 2), (0, 14, 8), (0, 18, 16), (1, 15, 0), (2, 31, 0), (3, 31, 0), (4, 31, 0)]
        ++ [(!x.en || used == 0, .conflict, used)]))

/-- When SCHED_GROUP_SET has its effect. -/
def Ready.schedGroupSet2 (c : Packet) (s0 : State) : Bool :=
  s0.plain 0x0901 c &&
    (let s := s0.began 0x0901 c
     let g := c.obj
     let w := c.w 0
     let x := s.sgrp g
     let used := (s.groupQueues g).length
     let port := w.fld 14 8
     let first := [objBelow c 4096, reserved c 0 0x77F07, reserved c 1 0xFFFF]
     w.bit 0 && passes (first ++ [nonZero c 1 15 0] ++ shaperZero c (w.bit 1) 2 ++ [(!w.bit 2 || c.n 4 != 0, .badZero, 32),
          fieldIs 0 8 (decide (port ≤ 66) && port != 65), within c 1 15 0 64 65535] ++ shaperRange c (w.bit 1) 2
        ++ [fieldIs 4 0 (if w.bit 2 then decide (100 ≤ c.n 4 ∧ c.n 4 ≤ 1000000) else c.n 4 == 0),
          (!(x.en && x.port != port) || used == 0, .conflict, used)]))

/-- When SCHED_QUEUE_SET has its effect. -/
def Ready.schedQueueSet (c : Packet) (s0 : State) : Bool :=
  s0.plain 0x0902 c &&
    (let s := s0.began 0x0902 c
     let q := c.obj
     let w := c.w 0
     let f := s.fq q
     let held := s.queueHeld q
     let first := [objBelow c 65536, reserved c 0 0x0FFF000F]
     !w.bit 0 && passes (first ++ zeroFields c [(0, 1, 1), (0, 2, 2), (0, 3, 3), (0, 27, 16), (1, 15, 0), (1, 31, 16), (2, 31, 0), (3, 31, 0)]
        ++ [(!f.en || held.isNone, .conflict, held.getD 0)]))

/-- When SCHED_QUEUE_SET has its effect. -/
def Ready.schedQueueSet2 (c : Packet) (s0 : State) : Bool :=
  s0.plain 0x0902 c &&
    (let s := s0.began 0x0902 c
     let q := c.obj
     let w := c.w 0
     let f := s.fq q
     let g := w.fld 27 16
     let held := s.queueHeld q
     let first := [objBelow c 65536, reserved c 0 0x0FFF000F]
     w.bit 0 && (let away := f.en && (s.sgrp f.group).port != (s.sgrp g).port
      passes (first ++ [nonZero c 1 15 0] ++ shaperZero c (w.bit 1) 2 ++ [(!w.bit 2 || (c.w 1).fld 31 16 != 0, .badZero, 22),
          fieldIs 0 3 (!w.bit 3 || w.bit 2), within c 1 15 0 64 65535, fieldIs 1 16 (w.bit 2 || (c.w 1).fld 31 16 == 0)]
        ++ shaperRange c (w.bit 1) 2
        ++ [((s.sgrp g).en, .conflict, 1), (!away || held.isNone, .conflict, held.getD 0), (!w.bit 3 || s.sched.ringEn, .conflict, 2)])))

/-- When SCHED_PORT_STATUS has its effect. -/
def Ready.schedPortStatus (c : Packet) (s0 : State) : Bool :=
  s0.plain 0x0903 c && (passes [objBelow c 67])

/-- When SCHED_GROUP_STATUS has its effect. -/
def Ready.schedGroupStatus (c : Packet) (s0 : State) : Bool :=
  s0.plain 0x0904 c && (passes [objBelow c 4096])

/-- When SCHED_QUEUE_STATUS has its effect. -/
def Ready.schedQueueStatus (c : Packet) (s0 : State) : Bool :=
  s0.plain 0x0905 c && (passes [objBelow c 65536])

/-- When SCHED_QUEUE_STATS has its effect. -/
def Ready.schedQueueStats (c : Packet) (s0 : State) : Bool :=
  s0.plain 0x0906 c && (passes [objBelow c 65536])

/-- When SCHED_STATUS has its effect. -/
def Ready.schedStatus (c : Packet) (s0 : State) : Bool :=
  s0.plain 0x0907 c && (passes [objZero c])

/-- When SCHED_SAMPLE_RING_SET has its effect. -/
def Ready.schedSampleRingSet (c : Packet) (s0 : State) : Bool :=
  s0.plain 0x0908 c &&
    (let s := s0.began 0x0908 c
     let en := (c.w 0).bit 0
     let users := (s.sched.queues.filter fun e => e.2.en && e.2.toRing).length
     !en && passes ([objZero c, reserved c 0 0x1F01] ++ zeroFields c [(0, 12, 8), (1, 31, 0), (2, 31, 0)] ++ [(users == 0, .conflict, users)]))

/-- When SCHED_SAMPLE_RING_SET has its effect. -/
def Ready.schedSampleRingSet2 (c : Packet) (s0 : State) : Bool :=
  s0.plain 0x0908 c &&
    (let s := s0.began 0x0908 c
     let en := (c.w 0).bit 0
     let lg := (c.w 0).fld 12 8
     let base := c.n 1 + 4294967296 * c.n 2
     en && passes [objZero c, reserved c 0 0x1F01, within c 0 12 8 10 24, fieldIs 1 0 (base % 4096 == 0), (!s.sched.ringEn, .busy, 0),
        (s.ddrReady && decide (base + 32 * 2 ^ lg ≤ s.ddr.capacity), .noResource, 0),
        (!s.overlaps 1 base (32 * 2 ^ lg), .conflict, 1)])

/-- When SCHED_SAMPLE_READ has its effect. -/
def Ready.schedSampleRead (c : Packet) (s0 : State) : Bool :=
  s0.plain 0x0909 c &&
    (let s := s0.began 0x0909 c
     passes [objZero c, reserved c 2 0xFF, nonZero c 2 7 0, within c 2 7 0 1 240, (s.sched.ringEn, .notFound, 0)]
    && (s.sampleCheck (c.n 0 + 4294967296 * c.n 1) ((c.w 2).fld 7 0)).1.isNone)

/-- When TIME_SET has its effect. -/
def Ready.timeSet (c : Packet) (s0 : State) : Bool :=
  s0.plain 0x0A00 c &&
    (let s := s0.began 0x0A00 c
     let step := (c.w 0).bit 0
     let follow := (c.w 0).bit 1
     let t := instantAt c 1
     let rate := sgn 32 (c.n 4)
     passes ([objZero c, reserved c 0 3, reserved c 3 0xFFFF] ++ instantOk c 1
      ++ [fieldIs 1 0 (step || t == 0), fieldIs 4 0 (!(follow && rate != 0)), withinI c 4 31 0 (-100000) 100000,
        (!(step && s.time.recordSet), .conflict, 1), (!(step && decide (t < s.time.record.t)), .conflict, 2)]))

/-- When TIME_GET has its effect. -/
def Ready.timeGet (c : Packet) (s0 : State) : Bool :=
  s0.plain 0x0A01 c && (passes [objZero c])

/-- When TIME_SELECT has its effect. -/
def Ready.timeSelect (c : Packet) (s0 : State) : Bool :=
  s0.plain 0x0A02 c &&
    (let s := s0.began 0x0A02 c
     let src := (c.w 0).fld 1 0
     let d := src - 1
     let diff := ((s.domClk d).t : Int) - s.time.line.t
     passes [objZero c, reserved c 0 0x13, nonZero c 1 31 0, fieldIs 0 0 (src != 3), within c 1 31 0 1 1000000000,
      (src == 0 || (s.dom d).servo == .locked, .conflict, (s.dom d).servo.code),
      (src == 0 || s.time.neverSet || decide (diff.natAbs ≤ c.n 1 * 65536), .conflict, min (diff.natAbs / 65536) 4294967295)])

/-- When PTP_DOMAIN_SET has its effect. -/
def Ready.ptpDomainSet (c : Packet) (s0 : State) : Bool :=
  s0.plain 0x0A03 c &&
    (let en := (c.w 0).bit 0
     let rsv := [objBelow c 2, reserved c 0 0xFFF03, reserved c 1 0xFFFF3F, reserved c 4 0xFFFF]
     !en && passes (rsv ++ zeroFields c domFields))

/-- When PTP_DOMAIN_SET has its effect. -/
def Ready.ptpDomainSet2 (c : Packet) (s0 : State) : Bool :=
  s0.plain 0x0A03 c &&
    (let s := s0.began 0x0A03 c
     let d := c.obj
     let en := (c.w 0).bit 0
     let o := s.dom (1 - d)
     let port := (c.w 1).fld 5 0
     let num := (c.w 0).fld 15 8
     let sdo := (c.w 0).fld 19 16
     let rsv := [objBelow c 2, reserved c 0 0xFFF03, reserved c 1 0xFFFF3F, reserved c 4 0xFFFF]
     en && passes (rsv ++ [nonZero c 8 31 0, nonZero c 9 31 0, withinI c 1 15 8 (-7) 4, within c 1 23 16 2 255,
        within c 8 31 0 1 1000000, within c 9 31 0 1 500000,
        (s.hasPort port && (s.ptpPort port).desig, .notFound, 0),
        (!(o.en && o.number == num && o.sdo == sdo), .conflict, 0)]))

/-- When PTP_PORT_SET has its effect. -/
def Ready.ptpPortSet (c : Packet) (s0 : State) : Bool :=
  s0.plain 0x0A04 c &&
    (let s := s0.began 0x0A04 c
     let p := c.obj
     let slave (d : Nat) : Bool := (s.dom d).en && (s.dom d).port == p
     passes [(s.hasPort p, .notFound, 0), reserved c 0 3, withinI c 1 31 0 (-1000000) 1000000, withinI c 2 31 0 (-1000000) 1000000,
      ((c.w 0).bit 0 || !slave 0, .conflict, 0), ((c.w 0).bit 0 || !slave 1, .conflict, 1)])

/-- When PTP_STATUS has its effect. -/
def Ready.ptpStatus (c : Packet) (s0 : State) : Bool :=
  s0.plain 0x0A05 c && (passes [objBelow c 2])

/-- When PTP_TS_READ has its effect. -/
def Ready.ptpTsRead (c : Packet) (s0 : State) : Bool :=
  s0.plain 0x0A06 c &&
    (let s := s0.began 0x0A06 c
     let p := c.obj
     let q := s.ptpPort p
     passes [(s.hasPort p && q.desig, .notFound, 0)])

/-- When PULSE_SET has its effect. -/
def Ready.pulseSet (c : Packet) (s0 : State) : Bool :=
  s0.plain 0x0A10 c &&
    (let mode := (c.w 0).fld 1 0
     let first := [objBelow c 4, reserved c 0 15, reserved c 3 0xFFFF]
     mode == 0 && passes (first ++ zeroFields c [(0, 2, 2), (0, 3, 3), (1, 31, 0), (2, 31, 0), (3, 15, 0), (4, 31, 0), (5, 31, 0), (6, 31, 0)]))

/-- When PULSE_SET has its effect. -/
def Ready.pulseSet2 (c : Packet) (s0 : State) : Bool :=
  s0.plain 0x0A10 c &&
    (let s := s0.began 0x0A10 c
     let mode := (c.w 0).fld 1 0
     let rec_ := (c.w 0).bit 2
     let start := instantAt c 1
     let period := c.n 4 + 4294967296 * c.n 5
     let width := c.n 6
     let now := s.pulseNow rec_
     let late := mode != 0 && decide (start < now + twoUs)
     let first := [objBelow c 4, reserved c 0 15, reserved c 3 0xFFFF]
     mode != 0 && passes (first ++ [nonZero c 6 31 0, (!(mode == 2 && period == 0), .badZero, 32), fieldIs 0 0 (mode != 3)]
        ++ instantOk c 1
        ++ [fieldIs 4 0 (if mode = 2 then decide (40 ≤ period ∧ period ≤ 1000000000000) else period == 0),
          fieldIs 6 0 (decide (5 ≤ width) && (if mode = 2 then decide (width + 5 ≤ period) else decide (width ≤ 1000000000))),
          (!(mode == 1 && late && !c.lateOk), .timePast, 0)]))

/-- When CAPTURE_READ has its effect. -/
def Ready.captureRead (c : Packet) (s0 : State) : Bool :=
  s0.plain 0x0A11 c && (passes [objBelow c 2])

/-- When GATE_LIST_SET has its effect. -/
def Ready.gateListSet (c : Packet) (s0 : State) : Bool :=
  s0.plain 0x0A20 c &&
    (let s := s0.began 0x0A20 c
     let p := c.obj
     let w := c.w 0
     let len := w.fld 8 0
     let en := w.bit 16
     let first := [(s.hasPort p, Status.notFound, 0), (c.params.length == 5 + 2 * len, .badLength, 6), reserved c 0 0x101FF,
       reserved c 3 0xFFFF]
     !en && passes (first ++ [fieldIs 0 0 (len == 0)]))

/-- When GATE_LIST_SET has its effect. -/
def Ready.gateListSet2 (c : Packet) (s0 : State) : Bool :=
  s0.plain 0x0A20 c &&
    (let s := s0.began 0x0A20 c
     let p := c.obj
     let w := c.w 0
     let len := w.fld 8 0
     let en := w.bit 16
     let cyc := c.n 4
     let ents := (List.range len).map fun i => ((c.w (5 + 2 * i)).fld 7 0, c.n (6 + 2 * i))
     let first := [(s.hasPort p, Status.notFound, 0), (c.params.length == 5 + 2 * len, .badLength, 6), reserved c 0 0x101FF,
       reserved c 3 0xFFFF]
     en && passes (first ++ (List.range len).map (fun i => reserved c (5 + 2 * i) 0xFF) ++ [nonZero c 0 8 0, nonZero c 4 31 0]
        ++ (List.range len).map (fun i => nonZero c (6 + 2 * i) 31 0) ++ [within c 0 8 0 1 256] ++ instantOk c 1
        ++ [within c 4 31 0 1000 1000000000] ++ (List.range len).map (fun i => within c (6 + 2 * i) 31 0 20 1000000000)
        ++ [fieldIs 4 0 (decide (sumL (ents.map (·.2)) ≤ cyc))]))

/-- When GATE_LIST_READ has its effect. -/
def Ready.gateListRead (c : Packet) (s0 : State) : Bool :=
  s0.plain 0x0A21 c &&
    (let s := s0.began 0x0A21 c
     let p := c.obj
     passes [(s.hasPort p, .notFound, 0), reserved c 0 1])

/-- When HTX_RING_SET has its effect. -/
def Ready.htxRingSet (c : Packet) (s0 : State) : Bool :=
  s0.plain 0x0B00 c && ((c.w 0).fld 15 0 == 0 && passes [objBelow c 16, reserved c 0 0x1FFFF])

/-- When HTX_RING_SET has its effect. -/
def Ready.htxRingSet2 (c : Packet) (s0 : State) : Bool :=
  s0.plain 0x0B00 c &&
    (let s := s0.began 0x0B00 c
     (c.w 0).fld 15 0 != 0 && passes ([objBelow c 16, reserved c 0 0x1FFFF] ++ [fieldIs 0 0 (decide (16 ≤ (c.w 0).fld 15 0) && decide ((c.w 0).fld 15 0 ≤ 32768) && popCnt 16 ((c.w 0).fld 15 0) == 1),
        fieldIs 1 0 ((c.n 1 + 4294967296 * c.n 2) % 4096 == 0), fieldIs 3 0 ((c.n 3 + 4294967296 * c.n 4) % 8 == 0),
        fieldIs 5 0 ((c.w 5).fld 15 0 == 0)]) && (Tbl.lookD s.hst.tx c.obj {}).size == 0)

/-- When HTX_RING_SET has its effect. -/
def Ready.htxRingSet3 (c : Packet) (s0 : State) : Bool :=
  s0.plain 0x0B00 c &&
    (let s := s0.began 0x0B00 c
     (c.w 0).fld 15 0 != 0 && passes ([objBelow c 16, reserved c 0 0x1FFFF] ++ [fieldIs 0 0 (decide (16 ≤ (c.w 0).fld 15 0) && decide ((c.w 0).fld 15 0 ≤ 32768) && popCnt 16 ((c.w 0).fld 15 0) == 1),
        fieldIs 1 0 ((c.n 1 + 4294967296 * c.n 2) % 4096 == 0), fieldIs 3 0 ((c.n 3 + 4294967296 * c.n 4) % 8 == 0),
        fieldIs 5 0 ((c.w 5).fld 15 0 == 0)]) && (Tbl.lookD s.hst.tx c.obj {}).size != 0
    && (c.w 0).fld 15 0 == (Tbl.lookD s.hst.tx c.obj {}).size && (c.w 0).bit 16 == (Tbl.lookD s.hst.tx c.obj {}).wbEn
    && c.n 1 + 4294967296 * c.n 2 == (Tbl.lookD s.hst.tx c.obj {}).base && c.n 3 + 4294967296 * c.n 4 == (Tbl.lookD s.hst.tx c.obj {}).wb)

/-- When HRX_RING_SET has its effect. -/
def Ready.hrxRingSet (c : Packet) (s0 : State) : Bool :=
  s0.plain 0x0B01 c && ((c.w 0).fld 15 0 == 0 && passes [objBelow c 16, reserved c 0 0x1FFFF])

/-- When HRX_RING_SET has its effect. -/
def Ready.hrxRingSet2 (c : Packet) (s0 : State) : Bool :=
  s0.plain 0x0B01 c &&
    (let s := s0.began 0x0B01 c
     (c.w 0).fld 15 0 != 0 && passes ([objBelow c 16, reserved c 0 0x1FFFF] ++ [nonZero c 5 15 0, nonZero c 6 31 0] ++ [fieldIs 0 0 (decide (16 ≤ (c.w 0).fld 15 0) && decide ((c.w 0).fld 15 0 ≤ 32768) && popCnt 16 ((c.w 0).fld 15 0) == 1),
        fieldIs 1 0 ((c.n 1 + 4294967296 * c.n 2) % 4096 == 0), fieldIs 3 0 ((c.n 3 + 4294967296 * c.n 4) % 8 == 0),
        fieldIs 5 0 (decide (64 ≤ (c.w 5).fld 15 0) && decide ((c.w 5).fld 15 0 ≤ 16384) && (c.w 5).fld 15 0 % 64 == 0)] ++ [within c 6 31 0 1000 1000000]) && (Tbl.lookD s.hst.rx c.obj {}).size == 0)

/-- When HRX_RING_SET has its effect. -/
def Ready.hrxRingSet3 (c : Packet) (s0 : State) : Bool :=
  s0.plain 0x0B01 c &&
    (let s := s0.began 0x0B01 c
     (c.w 0).fld 15 0 != 0 && passes ([objBelow c 16, reserved c 0 0x1FFFF] ++ [nonZero c 5 15 0, nonZero c 6 31 0] ++ [fieldIs 0 0 (decide (16 ≤ (c.w 0).fld 15 0) && decide ((c.w 0).fld 15 0 ≤ 32768) && popCnt 16 ((c.w 0).fld 15 0) == 1),
        fieldIs 1 0 ((c.n 1 + 4294967296 * c.n 2) % 4096 == 0), fieldIs 3 0 ((c.n 3 + 4294967296 * c.n 4) % 8 == 0),
        fieldIs 5 0 (decide (64 ≤ (c.w 5).fld 15 0) && decide ((c.w 5).fld 15 0 ≤ 16384) && (c.w 5).fld 15 0 % 64 == 0)] ++ [within c 6 31 0 1000 1000000]) && (Tbl.lookD s.hst.rx c.obj {}).size != 0
    && (c.w 0).fld 15 0 == (Tbl.lookD s.hst.rx c.obj {}).size && (c.w 0).bit 16 == (Tbl.lookD s.hst.rx c.obj {}).wbEn
    && c.n 1 + 4294967296 * c.n 2 == (Tbl.lookD s.hst.rx c.obj {}).base && c.n 3 + 4294967296 * c.n 4 == (Tbl.lookD s.hst.rx c.obj {}).wb && (c.w 5).fld 15 0 == (Tbl.lookD s.hst.rx c.obj {}).bufSize)

/-- When SEG_PROFILE_SET has its effect. -/
def Ready.segProfileSet (c : Packet) (s0 : State) : Bool :=
  s0.plain 0x0B02 c &&
    (let w := c.w 2
     let mss := (c.w 0).fld 13 0
     let hdr := (c.w 0).fld 23 16
     let l3 := (c.w 1).fld 7 0
     let l4 := (c.w 1).fld 15 8
     let ol3 := (c.w 1).fld 23 16
     let ol4 := (c.w 1).fld 31 24
     let outer := w.bit 3
     let l4p := w.fld 2 1
     passes [objBelow c 64, reserved c 0 0x00FF3FFF, reserved c 2 0x1F, nonZero c 0 13 0,
      fieldIs 0 0 (decide (64 ≤ mss) && decide (mss + hdr ≤ 16380)), fieldIs 0 16 (decide (14 ≤ hdr)),
      fieldIs 1 0 (decide (l3 < l4) && (!outer || decide (ol4 < l3))), fieldIs 1 8 (decide (l4 < hdr)),
      fieldIs 1 16 (if outer then decide (ol3 < ol4) else ol3 == 0), fieldIs 1 24 (outer || ol4 == 0),
      fieldIs 2 1 (l4p == 1 || l4p == 2)])

/-- When HRING_STATUS has its effect. -/
def Ready.hringStatus (c : Packet) (s0 : State) : Bool :=
  s0.plain 0x0B03 c && (passes [(decide (c.obj < 32), .badParam, 8)])

/-- When TWIN_CONFIG has its effect. -/
def Ready.twinConfig (c : Packet) (s0 : State) : Bool :=
  s0.plain 0x0C00 c &&
    (let s := s0.began 0x0C00 c
     let w := c.w 0
     let k := w.fld 12 8
     let held := s.mode.mode.isTwin || s.twin.st == .sync
     passes [objZero c, reserved c 0 0x1F03, within c 0 12 8 9 16,
      (!(held && (!w.bit 0 || k != s.twin.strideLog2)), .conflict, s.mode.mode.code),
      (w.bit 1 || !s.names66, .conflict, 1)])

/-- When TWIN_ENROL has its effect. -/
def Ready.twinEnrol (c : Packet) (s0 : State) : Bool :=
  s0.plain 0x0C01 c &&
    (let s := s0.began 0x0C01 c
     passes [objZero c] && s.twin.fingerprint == some c.bytes)

/-- When TWIN_TAKEOVER has its effect. -/
def Ready.twinTakeover (c : Packet) (s0 : State) : Bool :=
  s0.plain 0x0C02 c &&
    (let s := s0.began 0x0C02 c
     passes [objZero c, (s.mode.mode == .twinStandby, .badMode, s.mode.mode.code)] && (!s.pins.ownIn || s.twin.up))

/-- When TWIN_STATUS has its effect. -/
def Ready.twinStatus (c : Packet) (s0 : State) : Bool :=
  s0.plain 0x0C03 c && (passes [objZero c])

/-- When TWIN_LOCK has its effect. -/
def Ready.twinLock (c : Packet) (s0 : State) : Bool :=
  s0.plain 0x0C04 c &&
    (let s := s0.began 0x0C04 c
     passes [objBelow c 32, reserved c 0 1, (s.partnered, .twinRefused, 1)])

/-- When POWER_POLICY_SET has its effect. -/
def Ready.powerPolicySet (c : Packet) (s0 : State) : Bool :=
  s0.plain 0x0D00 c &&
    (let n := (c.w 1).fld 3 0
     passes [objZero c, reserved c 0 0xFFFF0001, reserved c 1 15, reserved c 3 1, fieldIs 1 0 (decide (n ≤ 8)),
      fieldIs 2 0 ((c.w 2).fld 1 0 == 0), fieldIs 3 0 (c.n 3 == 0)])

/-- When POWER_STATUS has its effect. -/
def Ready.powerStatus (c : Packet) (s0 : State) : Bool :=
  s0.plain 0x0D01 c && (passes [objZero c])

/-- When SLICE_RETIRE has its effect. -/
def Ready.sliceRetire (c : Packet) (s0 : State) : Bool :=
  s0.plain 0x0D20 c &&
    (let s := s0.began 0x0D20 c
     let k := c.obj
     let z := s.slice k
     let left := (s.inService.filter (· != k)).length
     passes [objBelow c 8, (z.st != .isolated, .conflict, z.isolator),
      (!(z.st == .inService && left == 0 && s.anyUp), .conflict, 0)])

/-- When SLICE_ADMIT has its effect. -/
def Ready.sliceAdmit (c : Packet) (s0 : State) : Bool :=
  s0.plain 0x0D21 c &&
    (let s := s0.began 0x0D21 c
     let k := c.obj
     let z := s.slice k
     passes [objBelow c 8, (z.st != .isolated, .conflict, z.isolator)])

/-- When SLICE_STATUS has its effect. -/
def Ready.sliceStatus (c : Packet) (s0 : State) : Bool :=
  s0.plain 0x0D22 c && (passes [objZero c])

/-- When DDR_TRAIN has its effect. -/
def Ready.ddrTrain (c : Packet) (s0 : State) : Bool :=
  s0.plain 0x0E00 c &&
    (let s := s0.began 0x0E00 c
     let m := (c.w 0).fld 3 0
     let absent := (setBits 4 m).filter fun i => (s.chan i).st == .absent
     passes [objZero c, reserved c 0 15, nonZero c 0 3 0,
      (absent.isEmpty, .notFound, sumL (absent.map (2 ^ ·))),
      (!(s.regions.any (fun r => r.2 != 0) || s.spilled != 0 || s.snapBusy || s.ddr.trainMask != 0), .conflict, 1)])

/-- When DDR_CONFIG has its effect. -/
def Ready.ddrConfig (c : Packet) (s0 : State) : Bool :=
  s0.plain 0x0E01 c &&
    (let pd := (c.w 0).fld 19 0
     let en := (c.w 1).bit 16
     let hrs := (c.w 1).fld 31 24
     passes [objZero c, reserved c 0 0xFFFFF, reserved c 1 0xFF01FFFF, nonZero c 1 15 0,
      fieldIs 0 0 (pd == 0 || (decide (100 ≤ pd) && decide (pd ≤ 1000000))), within c 1 15 0 10 1000,
      fieldIs 1 24 (if en then decide (1 ≤ hrs) && decide (hrs ≤ 168) else hrs == 0)])

/-- When DDR_STATUS has its effect. -/
def Ready.ddrStatus (c : Packet) (s0 : State) : Bool :=
  s0.plain 0x0E02 c && (passes [objBelow c 5])

/-- When STAT_READ has its effect. -/
def Ready.statRead (c : Packet) (s0 : State) : Bool :=
  s0.plain 0x0F00 c && (passes (pairRange c 7 255))

/-- When STAT_CLEAR has its effect. -/
def Ready.statClear (c : Packet) (s0 : State) : Bool :=
  s0.plain 0x0F01 c && (passes (pairRange c 14 16384))

/-- When SNAP_AREA_SET has its effect. -/
def Ready.snapAreaSet (c : Packet) (s0 : State) : Bool :=
  s0.plain 0x0F02 c &&
    (let s := s0.began 0x0F02 c
     let en := (c.w 0).bit 0
     let base := c.n 1 + 4294967296 * c.n 2
     passes [objZero c, reserved c 0 1, fieldIs 1 0 (base % 1048576 == 0 && (en || base == 0)),
      (!en || (s.ddrReady && decide (base + 17825792 ≤ s.ddr.capacity)), .noResource, 0),
      (!(en && s.overlaps 3 base 17825792), .conflict, 1), (s.cnt.snap != .armed, .conflict, 2)])

/-- When SNAP_TAKE has its effect. -/
def Ready.snapTake (c : Packet) (s0 : State) : Bool :=
  s0.plain 0x0F03 c &&
    (let s := s0.began 0x0F03 c
     let t := instantAt c 1
     let now := s.time.record.t
     let id := wd (s.cnt.snapId + 1)
     let stats := (c.w 0).bit 0
     let late := t != 0 && decide (t < now + 131072000)
     passes [objZero c, reserved c 0 1, reserved c 3 0xFFFF, within c 1 31 0 0 999999999,
      (!s.snapBusy, .busy, if s.cnt.snap = .armed then id.toNat else s.cnt.snapId % 4294967296),
      (!(stats && (s.cnt.area.isNone || !s.ddrReady)), .noResource, 0),
      (!(late && !c.lateOk), .timePast, 0)])

/-- When SNAP_STATUS has its effect. -/
def Ready.snapStatus (c : Packet) (s0 : State) : Bool :=
  s0.plain 0x0F04 c && (passes [objZero c])

/-- When SNAP_READ has its effect. -/
def Ready.snapRead (c : Packet) (s0 : State) : Bool :=
  s0.plain 0x0F05 c &&
    (let s := s0.began 0x0F05 c
     passes (pairRange c 7 255 ++ [(s.cnt.snap != .copying, .busy, s.linesLeft)]) && s.cnt.image
    && (match s.cnt.area with
      | none => false
      | some a => (s.ddrCheck (a + 1048576 + 16 * c.obj) (16 * (c.w 0).fld 7 0) 0x20).1.isNone))

/-- When PRF_SELECT has its effect. -/
def Ready.prfSelect (c : Packet) (s0 : State) : Bool :=
  s0.plain 0x0F10 c &&
    (let n := c.obj
     let w := c.w 0
     let k := prfKind (n / 8)
     let ev := w.fld 7 0
     let isE := ev == 0 || k.1.contains ev
     let isO := k.2.contains ev
     let mode := w.fld 9 8
     passes [objBelow c 640, reserved c 0 0xFFFF07FF, fieldIs 0 0 (isE || isO),
      fieldIs 0 8 (!((mode == 2 || mode == 3) && isE) && !(mode == 1 && isO)),
      fieldIs 0 8 (!(w.bit 10 && n % 2 == 0))])

/-- When PRF_READ has its effect. -/
def Ready.prfRead (c : Packet) (s0 : State) : Bool :=
  s0.plain 0x0F11 c && (passes [objBelow c 80])

/-- When BWM_SET has its effect. -/
def Ready.bwmSet (c : Packet) (s0 : State) : Bool :=
  s0.plain 0x0F20 c && (passes [objBelow c 67, nonZero c 0 31 0, within c 0 31 0 1000 1000000000])

/-- When BWM_READ has its effect. -/
def Ready.bwmRead (c : Packet) (s0 : State) : Bool :=
  s0.plain 0x0F21 c && (passes [objBelow c 67])

/-- When FAULT_STATUS has its effect. -/
def Ready.faultStatus (c : Packet) (s0 : State) : Bool :=
  s0.plain 0x1000 c && (passes [objZero c])

/-- When FAULT_READ has its effect. -/
def Ready.faultRead (c : Packet) (s0 : State) : Bool :=
  s0.plain 0x1001 c && (passes [srcListed c])

/-- When FAULT_CLEAR has its effect. -/
def Ready.faultClear (c : Packet) (s0 : State) : Bool :=
  s0.plain 0x1002 c && (c.obj == 0xFFFFFFFF || passes [srcListed c])

/-- When FAULT_REACTION_SET has its effect. -/
def Ready.faultReactionSet (c : Packet) (s0 : State) : Bool :=
  s0.plain 0x1003 c &&
    (let byClass := decide (0x80000000 ≤ c.obj)
     let k := c.obj - 0x80000000
     let dflt := (c.w 0).bit 8
     let r := (c.w 0).fld 4 0
     let fixed := c.obj = 0 ∨ c.obj = 2 ∨ c.obj = 9
     passes [(!byClass || decide (k < 4), .badParam, 8), (byClass || (faultClass c.obj).isSome, .notFound, 0),
      reserved c 0 0x11F, fieldIs 0 8 (!(byClass && dflt)), fieldIs 0 0 (!dflt || r == 0), (!decide fixed, .conflict, c.obj)])

/-- When BOOK_INFO has its effect. -/
def Ready.bookInfo (c : Packet) (s0 : State) : Bool :=
  s0.plain 0x1004 c && (passes [objZero c])

/-- When BOOK_READ has its effect. -/
def Ready.bookRead (c : Packet) (s0 : State) : Bool :=
  s0.plain 0x1005 c && (passes [objBelow c 8192])

/-- When FAULT_INJECT has its effect. -/
def Ready.faultInject (c : Packet) (s0 : State) : Bool :=
  s0.plain 0x1100 c &&
    (let mode := (c.w 0).fld 1 0
     let src := c.obj
     let fits := match mode with
       | 0 => true
       | 1 => plantable src
       | 2 => src == 1 || src == 2
       | _ => src == 0
     passes [srcListed c, reserved c 0 3, fieldIs 0 0 fits])

/-- When GUARD_SET has its effect. -/
def Ready.guardSet (c : Packet) (s0 : State) : Bool :=
  s0.plain 0x1101 c && (passes [objBelow c 9, reserved c 0 1])

/-- When BOOK_CLEAR has its effect. -/
def Ready.bookClear (c : Packet) (s0 : State) : Bool :=
  s0.plain 0x1102 c && (passes [objZero c, fieldIs 0 0 (c.w 0 == 0xC1EA#32)])

/-- When DIAG_LOOPBACK has its effect. -/
def Ready.diagLoopback (c : Packet) (s0 : State) : Bool :=
  s0.plain 0x1110 c &&
    (let s := s0.began 0x1110 c
     let m := (c.w 0).fld 1 0
     passes [objBelow c 64, (s.hasPort c.obj, .notFound, 0), reserved c 0 3,
      (!(m == 2 && (s.mport c.obj).cipher && s.mode.mode == .diagnostic), .conflict, 1)])

/-- When DIAG_MEM_TEST has its effect. -/
def Ready.diagMemTest (c : Packet) (s0 : State) : Bool :=
  s0.plain 0x1111 c && (passes [objBelow c 13])

/-- When MBX_NOP has its effect. -/
def Ready.mbxNop (m : Nat) (s : State) : Bool :=
  s.boxReady m 0

/-- When MBX_NOP has its effect. -/
def Ready.mbxNop2 (m : Nat) (s : State) : Bool :=
  decide (m < 8) && s.vnt.running && ((nth s.mbx m {}).state == .posted || (nth s.mbx m {}).state == .accepted) && decide (3 < mbxCode (nth s.mbx m {})) && (nth (nth s.mbx m {}).msg 0 0#32).fld 31 16 == 0

/-- When MBX_NOP has its effect. -/
def Ready.mbxNop3 (m : Nat) (s : State) : Bool :=
  decide (m < 8) && s.vnt.running && ((nth s.mbx m {}).state == .posted || (nth s.mbx m {}).state == .accepted) && mbxCode (nth s.mbx m {}) == 0 && (nth (nth s.mbx m {}).msg 0 0#32).fld 31 16 != 0

/-- When RING_RESCAN has its effect. -/
def Ready.ringRescan (m : Nat) (s : State) : Bool :=
  s.boxReady m 1

/-- When HOLD_HOST has its effect. -/
def Ready.holdHost (m : Nat) (s : State) : Bool :=
  s.boxReady m 2

/-- When HOST_RELEASE has its effect. -/
def Ready.hostRelease (m : Nat) (s : State) : Bool :=
  s.boxReady m 3

/-- When TUNNEL_WRITE has its effect. -/
def Ready.tunnelWrite (data : Bytes) (pecOk : Bool) (s : State) : Bool :=
  s.smbUp && s.smb.command.isNone && pecOk && !data.isEmpty && byteAt data 0 % 64 == 0
    && (nbit (byteAt data 0) 7 || s.smb.assembly.isSome)

/-- When TUNNEL_READ has its effect. -/
def Ready.tunnelRead (s : State) : Bool :=
  s.smbUp && s.smb.reply.isSome

/-- When BOOK_SELECT has its effect. -/
def Ready.bookSelect (data : Bytes) (pecOk : Bool) (s : State) : Bool :=
  s.smbUp && pecOk && data.length == 4 && nfld (leNat data) 15 13 == 0 && nfld (leNat data) 31 24 == 0
    && decide (nfld (leNat data) 23 16 ≤ 1)

/-- When SMBUS_BOOK_READ has its effect. -/
def Ready.smbusBookRead (s : State) : Bool :=
  s.smbUp

/-- When SMBUS_LOCK_ACQUIRE has its effect. -/
def Ready.smbusLockAcquire (n : Nat) (s : State) : Bool :=
  s.smbUp && decide (n < 32)

/-- When SMBUS_LOCK_RELEASE has its effect. -/
def Ready.smbusLockRelease (data : Byte) (pecOk : Bool) (s : State) : Bool :=
  s.smbUp && pecOk && data == 1#8

/-- When ALERT_RESPONSE has its effect. -/
def Ready.alertResponse (s : State) : Bool :=
  s.smbUp && s.smbAlert

/-- When HIF_DB has its effect. -/
def Ready.hifDb (r : Nat) (value : Word) (s : State) : Bool :=
  s.barUp && decide (r < 6) && decide ((if r < 4 then (value.fld 15 0 + 65536 - (s.ring r).engine % 65536) % 65536
      else ((s.ring r).engine + 65536 - value.fld 15 0) % 65536) ≤ (s.ring r).slots)

/-- When HIF_DB has its effect. -/
def Ready.hifDb2 (r : Nat) (value : Word) (s : State) : Bool :=
  s.barUp && decide (r < 6) && decide ((s.ring r).slots < (if r < 4 then (value.fld 15 0 + 65536 - (s.ring r).engine % 65536) % 65536
      else ((s.ring r).engine + 65536 - value.fld 15 0) % 65536))

/-- When HIF_TXDB has its effect. -/
def Ready.hifTxdb (t : Nat) (value : Word) (s : State) : Bool :=
  s.barUp && decide (t < 16) && decide ((value.fld 15 0 + 65536 - (s.txRing t).engine % 65536) % 65536 ≤ (s.txRing t).size)

/-- When HIF_TXDB has its effect. -/
def Ready.hifTxdb2 (t : Nat) (value : Word) (s : State) : Bool :=
  s.barUp && decide (t < 16) && decide ((s.txRing t).size < (value.fld 15 0 + 65536 - (s.txRing t).engine % 65536) % 65536)

/-- When HIF_RXDB has its effect. -/
def Ready.hifRxdb (r : Nat) (value : Word) (s : State) : Bool :=
  s.barUp && decide (r < 16) && decide ((value.fld 15 0 + 65536 - (s.rxRing r).engine % 65536) % 65536 ≤ (s.rxRing r).size)

/-- When HIF_RXDB has its effect. -/
def Ready.hifRxdb2 (r : Nat) (value : Word) (s : State) : Bool :=
  s.barUp && decide (r < 16) && decide ((s.rxRing r).size < (value.fld 15 0 + 65536 - (s.rxRing r).engine % 65536) % 65536)

/-- When RING_ENABLE has its effect. -/
def Ready.ringEnable (r : Nat) (value : Word) (s : State) : Bool :=
  s.barUp && decide (r < 6) && !(s.ring r).enable && value.bit 0 && slotsOk r ((s.ringSet r value).ring r).slots

/-- When RING_ENABLE has its effect. -/
def Ready.ringEnable2 (r : Nat) (value : Word) (s : State) : Bool :=
  s.barUp && decide (r < 6) && !(s.ring r).enable && value.bit 0 && !slotsOk r ((s.ringSet r value).ring r).slots

/-- When RING_DISABLE has its effect. -/
def Ready.ringDisable (r : Nat) (value : Word) (s : State) : Bool :=
  s.barUp && decide (r < 6) && (s.ring r).enable && !value.bit 0

/-- When IRQ_MASK_WRITE has its effect. -/
def Ready.irqMaskWrite (s : State) : Bool :=
  s.barUp

/-- When IRQ_MASK_WRITE has its effect. -/
def Ready.irqMaskWrite2 (s : State) : Bool :=
  s.barUp

/-- When IRQ_MASK_WRITE has its effect. -/
def Ready.irqMaskWrite3 (s : State) : Bool :=
  s.barUp

/-- When IRQ_MASK_WRITE has its effect. -/
def Ready.irqMaskWrite4 (s : State) : Bool :=
  s.barUp

/-- When IRQ_MASK_WRITE has its effect. -/
def Ready.irqMaskWrite5 (s : State) : Bool :=
  s.barUp

/-- When MBX_MSG has its effect. -/
def Ready.mbxMsg (m : Nat) (k : Nat) (master : Nat) (s : State) : Bool :=
  s.masterUp master && decide (m < 16) && decide (k < 12) && master == mbxSender m && master != 3 && (nth s.mbx m {}).state == .empty

/-- When MBX_MSG has its effect. -/
def Ready.mbxMsg2 (m : Nat) (k : Nat) (master : Nat) (s : State) : Bool :=
  s.masterUp master && decide (m < 16) && decide (k < 12) && master != mbxSender m

/-- When SEND has its effect. -/
def Ready.send (m : Nat) (master : Nat) (s : State) : Bool :=
  s.masterUp master && decide (m < 16) && master == mbxSender m && master != 3 && (nth s.mbx m {}).state == .empty

/-- When WITHDRAW has its effect. -/
def Ready.withdraw (m : Nat) (master : Nat) (accepting : Bool) (s : State) : Bool :=
  s.masterUp master && decide (m < 16) && master == mbxSender m && master != 3 && (nth s.mbx m {}).state == .posted && !accepting

/-- When WITHDRAW has its effect. -/
def Ready.withdraw2 (m : Nat) (master : Nat) (s : State) : Bool :=
  s.masterUp master && decide (m < 16) && master == mbxSender m && master != 3 && (nth s.mbx m {}).state == .waiting

/-- When WITHDRAW has its effect. -/
def Ready.withdraw3 (m : Nat) (master : Nat) (s : State) : Bool :=
  s.masterUp master && decide (m < 16) && master == mbxSender m && master != 3
    && ((nth s.mbx m {}).state == .accepted || (nth s.mbx m {}).state == .acked)

/-- When RELEASE has its effect. -/
def Ready.release (m : Nat) (master : Nat) (s : State) : Bool :=
  s.masterUp master && decide (m < 16) && (master == mbxSender m || (m == 8 && master == 1)) && master != 3 && (nth s.mbx m {}).state == .acked

/-- When ACCEPT has its effect. -/
def Ready.accept (m : Nat) (master : Nat) (s : State) : Bool :=
  s.masterUp master && decide (m < 16) && master == mbxReceiver m && master != 3 && (nth s.mbx m {}).state == .posted

/-- When MBX_ACK has its effect. -/
def Ready.mbxAck (m : Nat) (master : Nat) (s : State) : Bool :=
  s.masterUp master && decide (m < 16) && master == mbxReceiver m && master != 3
    && ((nth s.mbx m {}).state == .posted || (nth s.mbx m {}).state == .accepted)

/-- When OVERFLOW_NOTICE has its effect. -/
def Ready.overflowNotice (s : State) : Bool :=
  s.cmds.lost != 0 && (nth s.mbx 8 {}).state == .empty && s.vnt.running

/-- When LOCK_ACQUIRE has its effect. -/
def Ready.lockAcquire (n : Nat) : Bool :=
  decide (n < 32)

/-- When LOCK_RELEASE has its effect. -/
def Ready.lockRelease (master : Nat) (s : State) : Bool :=
  s.masterUp master

/-- When FORCE has its effect. -/
def Ready.force (n : Nat) (s : State) : Bool :=
  s.barUp && (nth s.locks n none).isSome

/-- When RESTART has its effect. -/
def Ready.restart (s : State) : Bool :=
  s.barUp && (s.wakeHost).vnt.haltedMc && !(s.wakeHost).vnt.restarting

/-- When VINTNER_RESTARTED has its effect. -/
def Ready.vintnerRestarted (s : State) : Bool :=
  s.vnt.restarting

/-- When TRACE_ENABLE has its effect. -/
def Ready.traceEnable (value : Word) (s : State) : Bool :=
  s.barUp && !s.wakeHost.vnt.trEnable && value.bit 0 && (s.wakeHost.traceSet value).traceRingOk

/-- When TRACE_ENABLE has its effect. -/
def Ready.traceEnable2 (value : Word) (s : State) : Bool :=
  s.barUp && !s.wakeHost.vnt.trEnable && value.bit 0 && !(s.wakeHost.traceSet value).traceRingOk

/-- When VNT_TRACE_LOST has its effect. -/
def Ready.vntTraceLost (s : State) : Bool :=
  s.barUp

/-- When HIF_RESET has its effect. -/
def Ready.hifReset (value : Word) (s : State) : Bool :=
  s.barUp && value.fld 31 16 == 0xB007 && value.bit 0

/-- When HIF_RESET has its effect. -/
def Ready.hifReset2 (value : Word) (s : State) : Bool :=
  s.barUp && !(value.fld 31 16 == 0xB007 && value.bit 0)

/-- When CEL_BOOK_SELECT has its effect. -/
def Ready.celBookSelect (s : State) : Bool :=
  s.barUp

/-- When BUS_MASTER_ENABLE has its effect. -/
def Ready.busMasterEnable (s : State) : Bool :=
  s.barUp

/-- When REGISTER_WRITE has its effect. -/
def Ready.registerWrite (s : State) : Bool :=
  s.barUp

/-- When BAR0_BAD_ACCESS has its effect. -/
def Ready.bar0BadAccess (offset : Nat) (bytes : Nat) (s : State) : Bool :=
  s.barUp && (offset % 4 != 0 || bytes != 4) && regListed (offset / 4 * 4)

/-- When COMMAND_FETCH has its effect. -/
def Ready.commandFetch (heads : List RingHead) (s : State) : Bool :=
  ((s.pickRing ((heads.filter fun h => s.ringHolds h).map fun h => h.ring)).bind fun r =>
      (heads.filter fun h => s.ringHolds h).find? fun h => h.ring == r).isSome

/-- When REPLY_WRITE has its effect. -/
def Ready.replyWrite (s : State) : Bool :=
  (match s.cmds.held with | [] => false | (r, _) :: _ => s.replyFits r)

/-- When HOLDOFF_EXPIRE has its effect. -/
def Ready.holdoffExpire (v : Nat) (s : State) : Bool :=
  nbit s.hif.holdRun v

/-- When DMA_ERROR has its effect. -/
def Ready.dmaError (ring : Nat) (s : State) : Bool :=
  decide (ring < 6) && (s.ring ring).active

/-- When DMA_ERROR has its effect. -/
def Ready.dmaError2 (ring : Nat) (s : State) : Bool :=
  decide (16 ≤ ring) && decide (ring < 32) && (s.txRing (ring - 16)).size != 0

/-- When DMA_ERROR has its effect. -/
def Ready.dmaError3 (ring : Nat) (s : State) : Bool :=
  decide (32 ≤ ring) && decide (ring < 48) && (s.rxRing (ring - 32)).size != 0

/-- When MACHINE_CHECK has its effect. -/
def Ready.machineCheck (addr : Nat) (word : BitVec 136) (ctx : Nat) (s : State) : Bool :=
  s.vnt.running && decide (ctx < 7)
    && (if s.vnt.planted = some (addr % 16384) then orBit (perrOf word) 0 else perrOf word) != 0

/-- When MACHINE_CHECK has its effect. -/
def Ready.machineCheck2 (addr : Nat) (word : BitVec 136) (ctx : Nat) (s : State) : Bool :=
  (if ctx = 0xFF then s.vnt.restarting else s.vnt.running) && (ctx == 0xFF || ctx == 7)
    && (if s.vnt.planted = some (addr % 16384) then orBit (perrOf word) 0 else perrOf word) != 0

/-- When AUX_VIN_UP has its effect. -/
def Ready.auxVinUp (s : State) : Bool :=
  s.mode.mode == .off

/-- When RESET_N_DEASSERT has its effect. -/
def Ready.resetNDeassert (s : State) : Bool :=
  s.pins.auxVin && !s.pins.resetN

/-- When PG_IN_CONFIRM has its effect. -/
def Ready.pgInConfirm (s : State) : Bool :=
  s.pins.auxVin && s.pwr.railStep.isSome

/-- When RAIL_TIMEOUT has its effect. -/
def Ready.railTimeout (s : State) : Bool :=
  s.pwr.railStep.isSome && !s.pins.pgIn

/-- When PG_IN_LOST has its effect. -/
def Ready.pgInLost (s : State) : Bool :=
  s.coreUp

/-- When PG_IN_LOST has its effect. -/
def Ready.pgInLost2 (s : State) : Bool :=
  !s.coreUp && (s.pinsM fun p => { p with pgIn := false }).railsWait

/-- When BOOT_COMPLETE has its effect. -/
def Ready.bootComplete (s : State) : Bool :=
  s.mode.mode == .boot && !s.mode.resetHeld

/-- When REFCLK_LOST has its effect. -/
def Ready.refclkLost (s : State) : Bool :=
  s.pins.refclk && s.mode.mode != .off

/-- When REFCLK_RETURN has its effect. -/
def Ready.refclkReturn (s : State) : Bool :=
  !s.pins.refclk && s.mode.mode != .off

/-- When OWN_IN_ASSERT has its effect. -/
def Ready.ownInAssert (cutting : List Nat) (s : State) : Bool :=
  !s.pins.ownIn && !(s.ownInHigh cutting).run.claim && !((s.ownInHigh cutting).run.owner && (s.ownInHigh cutting).pins.ownOut)

/-- When OWN_IN_ASSERT has its effect. -/
def Ready.ownInAssert2 (cutting : List Nat) (s : State) : Bool :=
  !s.pins.ownIn && !(s.ownInHigh cutting).run.claim && (s.ownInHigh cutting).run.owner
    && (s.ownInHigh cutting).pins.ownOut

/-- When OWN_IN_ASSERT has its effect. -/
def Ready.ownInAssert3 (cutting : List Nat) (s : State) : Bool :=
  !s.pins.ownIn && (s.ownInHigh cutting).run.claim

/-- When OWN_IN_DEASSERT has its effect. -/
def Ready.ownInDeassert (s : State) : Bool :=
  s.pins.ownIn && (s.mode.mode != .twinStandby)

/-- When OWN_IN_DEASSERT has its effect. -/
def Ready.ownInDeassert2 (s : State) : Bool :=
  s.pins.ownIn && s.mode.mode == .twinStandby
    && (!s.pins.takeN || s.run.handoverIn || s.run.wantOwn || (s.twin.stale && !s.twin.up))

/-- When CLAIM_WINDOW_END has its effect. -/
def Ready.claimWindowEnd (s : State) : Bool :=
  s.run.claim && s.pins.ownOut && !s.pins.ownIn

/-- When PPS_IN_EDGE has its effect. -/
def Ready.ppsInEdge (i : Nat) (s : State) : Bool :=
  decide (i < 2) && (match (nth s.time.caps i {}).last with
      | some x => decide (x + 6553600 ≤ s.time.record.t)
      | none => true)

/-- When PULSE_EDGE has its effect. -/
def Ready.pulseEdge (o : Nat) (s : State) : Bool :=
  decide (o < 4) && (s.pulseEnd o |>.pulse o).mode != 0 && (s.pulseEnd o |>.pulse o).endAt == none
    && decide ((s.pulseEnd o |>.pulse o).next ≤ (s.pulseEnd o).pulseNow (s.pulseEnd o |>.pulse o).record)

/-- When THERMAL_READ has its effect. -/
def Ready.thermalRead (s : State) : Bool :=
  s.coreUp

/-- When LINK_UP has its effect. -/
def Ready.linkUp (p : Nat) (s : State) : Bool :=
  (s.portRate p).isSome && (s.mport p).en && !(s.mport p).up && s.mode.mode.isUp && !s.pwr.isolated.contains (2 + p / 8)

/-- When LINK_DOWN has its effect. -/
def Ready.linkDown (p : Nat) (lane : Option Nat) (s : State) : Bool :=
  (s.mport p).up && lane.isNone

/-- When LINK_DOWN has its effect. -/
def Ready.linkDown2 (p : Nat) (s : State) : Bool :=
  (s.mport p).up

/-- When FRAME_RECEIVE has its effect. -/
def Ready.frameReceive (p : Nat) (s : State) : Bool :=
  s.hasPort p && (s.mport p).up

/-- When PAUSE_REFRESH has its effect. -/
def Ready.pauseRefresh (p : Nat) (s : State) : Bool :=
  ((s.lb p).fcMode == 1 && (s.lb p).xoffOn) || ((s.lb p).fcMode == 2 && (s.lb p).pfcOn != 0)

/-- When PAUSE_RECEIVE has its effect. -/
def Ready.pauseReceive (p : Nat) (s : State) : Bool :=
  s.hasPort p && (s.mport p).up && (s.mport p).rxFc == 1 && !(s.mport p).tripped

/-- When PFC_RECEIVE has its effect. -/
def Ready.pfcReceive (p : Nat) (s : State) : Bool :=
  s.hasPort p && (s.mport p).up && (s.mport p).rxFc == 2 && !(s.mport p).tripped

/-- When PAUSE_EXPIRE has its effect. -/
def Ready.pauseExpire (p : Nat) (s : State) : Bool :=
  s.hasPort p

/-- When PAUSE_STORM_TRIP has its effect. -/
def Ready.pauseStormTrip (p : Nat) (s : State) : Bool :=
  s.hasPort p && (s.mport p).up && (s.mport p).guardOn && !(s.mport p).tripped && (s.mport p).pausedMask != 0

/-- When PAUSE_STORM_CLEAR has its effect. -/
def Ready.pauseStormClear (p : Nat) (s : State) : Bool :=
  (s.mport p).tripped

/-- When INGRESS_CIPHER has its effect. -/
def Ready.ingressCipher (g : Nat) (s : State) : Bool :=
  decide (g < 8) && s.pdom (2 + g) == .run && (nth s.ing.groups g {}).stalled.isNone && !(nth s.ing.groups g {}).pend.isEmpty

/-- When SA_FETCH_DONE has its effect. -/
def Ready.saFetchDone (sa : Nat) (s : State) : Bool :=
  (match s.sa sa with | some r => r.fetching | none => false)

/-- When DISTRIBUTION_ROUND has its effect. -/
def Ready.distributionRound (held : Bool) (s : State) : Bool :=
  (s.mode.mode.forwards || s.mode.mode == .drain || s.mode.mode == .diagnostic || s.mode.mode == .factoryTest) && !held
    && (s.ingM fun i => { i with ptr := (i.ptr + 1) % 11 }).distAwake

/-- When SLICE_PASS has its effect. -/
def Ready.slicePass (k : Nat) (s : State) : Bool :=
  !(s.slice k).held.isEmpty && (s.takePlanted [0x18 + k]).1 == 0

/-- When SLICE_TIMEOUT has its effect. -/
def Ready.sliceTimeout (k : Nat) (s : State) : Bool :=
  ((s.slice k).held.find? fun h => !h.2).isSome

/-- When FRAG_HOLD_TIMEOUT has its effect. -/
def Ready.fragHoldTimeout (s : State) : Bool :=
  (match s.frag.held with
    | [] => false
    | h :: _ => decide (h.at_ + s.frag.timeoutUs * 65536000 ≤ s.time.record.t)) && !s.frag.orphanHost

/-- When FRAG_HOLD_TIMEOUT has its effect. -/
def Ready.fragHoldTimeout2 (s : State) : Bool :=
  (match s.frag.held with
    | [] => false
    | h :: _ => decide (h.at_ + s.frag.timeoutUs * 65536000 ≤ s.time.record.t) && (s.residueAt h.pkt.source 8).isEmpty && (s.writeCopy h.pkt.source (s.orphanCopy h) true false).1 != .waits)
    && s.frag.orphanHost

/-- When FRAG_ENTRY_REMOVAL has its effect. -/
def Ready.fragEntryRemoval (i : Nat) (s : State) : Bool :=
  (match Tbl.look s.frag.table i with
    | some e => decide (e.lastUse + s.frag.limit ≤ s.time.record.t)
    | none => false)

/-- When FRAG_ENTRY_REMOVAL has its effect. -/
def Ready.fragEntryRemoval2 (i : Nat) (s : State) : Bool :=
  (match Tbl.look s.frag.table i with
    | some e => decide (s.time.record.t < e.lastUse + s.frag.limit) && decide (e.created + 4 * s.frag.limit ≤ s.time.record.t)
    | none => false)

/-- When RESIDUE_WRITE has its effect. -/
def Ready.residueWrite (src : Nat) (col : Nat) (s : State) : Bool :=
  (match s.residueAt src col with
    | [] => false
    | r :: _ => (s.writeCopy src r.copy false false).1 != .waits)

/-- When RESIDUE_AGED has its effect. -/
def Ready.residueAged (src : Nat) (col : Nat) (s : State) : Bool :=
  (match s.residueAt src col with
    | [] => false
    | r :: _ => decide (r.at_ + 6553600000 ≤ s.time.record.t)) && !s.ready src col

/-- When POOL_REBUILD has its effect. -/
def Ready.poolRebuild (col : Nat) (pool : Nat) (s : State) : Bool :=
  (s.col col).rebuilding.contains pool

/-- When SELECTION has its effect. -/
def Ready.selection (p : Nat) (s : State) : Bool :=
  nth s.pwr.doms 30 .run == .run && p != 65 && decide (p ≤ 66) && s.egress p == .enabled && s.itsTurn p && s.pathAwake p && (s.selectable p).nodeOk p
    && ((s.selectCount p).pickClass p ((s.selectCands p).filter fun x => (s.selectCount p).classOk p x)).isSome

/-- When SHAPER_REFILL has its effect. -/
def Ready.shaperRefill (n : Nat) (s : State) : Bool :=
  nth s.pwr.doms 30 .run == .run && Tbl.has s.sched.queues n

/-- When SHAPER_REFILL has its effect. -/
def Ready.shaperRefill2 (n : Nat) (s : State) : Bool :=
  nth s.pwr.doms 30 .run == .run && Tbl.has s.sched.groups n

/-- When SHAPER_REFILL has its effect. -/
def Ready.shaperRefill3 (n : Nat) (s : State) : Bool :=
  nth s.pwr.doms 30 .run == .run && Tbl.has s.sched.nodes n

/-- When ADAPTIVE_QUANTUM has its effect. -/
def Ready.adaptiveQuantum (g : Nat) (s : State) : Bool :=
  (s.sgrp g).en && (s.sgrp g).adaptive && !(s.backlog g).isEmpty

/-- When EGRESS_CIPHER has its effect. -/
def Ready.egressCipher (g : Nat) (s : State) : Bool :=
  nth s.pwr.doms (2 + g) .run == .run && (match Tbl.lookD s.cip.egress g [] with
    | [] => false
    | x :: _ => !s.saAway g x.copy)

/-- When FRAME_TRANSMIT has its effect. -/
def Ready.frameTransmit (p : Nat) (s : State) : Bool :=
  (s.mport p).up && s.lineOpen p && nth s.pwr.doms (2 + p / 8) .run == .run && (s.takePlanted [0x140 + p]).1 == 0
    && (match (s.mport p).tx with
      | [] => false
      | t :: _ => decide (t.plan.getD s.time.line.t ≤ s.time.line.t))

/-- When FLUSH_MARKERS_PASSED has its effect. -/
def Ready.flushMarkersPassed (p : Nat) (s : State) : Bool :=
  decide (p < 67) && p != 65 && s.egress p == .await

/-- When HOST_TX_FETCH has its effect. -/
def Ready.hostTxFetch (t : Nat) (descs : List (Bytes × Bytes)) (s : State) : Bool :=
  s.txTurn == some t && s.fetchesHost && (Tbl.look s.hst.pieces t).isNone
    && (chainOf (descs.take (((s.txRing t).host + 65536 - (s.txRing t).engine) % 65536))).isSome

/-- When HOST_TX_FETCH has its effect. -/
def Ready.hostTxFetch2 (t : Nat) (s : State) : Bool :=
  s.txTurn == some t && s.fetchesHost && (match Tbl.look s.hst.pieces t with
    | some (_, fs) => s.stagingRoom fs
    | none => false)

/-- When HOST_TX_FETCH has its effect. -/
def Ready.hostTxFetch3 (t : Nat) (descs : List (Bytes × Bytes)) (s : State) : Bool :=
  s.txTurn == some t && s.fetchesHost && (Tbl.look s.hst.pieces t).isNone
    && ((s.txRing t).host + 65536 - (s.txRing t).engine) % 65536 == (s.txRing t).size && descs.length == (s.txRing t).size
    && (chainOf descs).isNone

/-- When HOST_RX_DELIVERY has its effect. -/
def Ready.hostRxDelivery (s : State) : Bool :=
  s.hif.bme && !s.hst.sel.isEmpty

/-- When HOST_RING_STALLED has its effect. -/
def Ready.hostRingStalled (r : Nat) (s : State) : Bool :=
  (match (s.setWaiters.rxRing r).waiter with
    | none => false
    | some q => match s.setWaiters.headOf q with
      | none => false
      | some e => s.setWaiters.rxFit q e == .wait)

/-- When EPOCH_RETIRE has its effect. -/
def Ready.epochRetire (slot : Nat) (s : State) : Bool :=
  (nth s.vin.slots slot {}).live && slot != s.vin.cur && (nth s.vin.slots slot {}).pass == 0 && (nth s.vin.slots slot {}).recirc == 0
    && (nth s.vin.slots slot {}).hold == 0 && (nth s.vin.slots slot {}).frag == 0

/-- When COMMIT_CYCLE has its effect. -/
def Ready.commitCycle (s : State) : Bool :=
  (match s.vin.vint with
    | some v => v.state == .waitTime && decide (v.at?.getD 0 ≤ s.time.line.t)
    | none => false)

/-- When COMMIT_CYCLE has its effect. -/
def Ready.commitCycle2 (s : State) : Bool :=
  (match s.vin.vint with
    | some v => v.state == .waitSlot
    | none => false)

/-- When COMMIT_CYCLE has its effect. -/
def Ready.commitCycle3 (s : State) : Bool :=
  (match s.vin.vint with
    | some v => v.state == .prepared && v.at?.isSome && decide (v.at?.getD 0 ≤ s.time.line.t)
    | none => false)

/-- When TCAM_REPAIR has its effect. -/
def Ready.tcamRepair (b : Bool) (s : State) : Bool :=
  !(if b then s.tcam.repairB else s.tcam.repairA).isEmpty

/-- When COLLECTOR_PARITY has its effect. -/
def Ready.collectorParity (err : Option Nat) (s : State) : Bool :=
  s.coreUp && (s.flt.collectorFlip.isSome || err.isSome) && (Tbl.lookD s.flt.src 0 {}).capture.isNone

/-- When COLLECTOR_PARITY has its effect. -/
def Ready.collectorParity2 (err : Option Nat) (s : State) : Bool :=
  s.coreUp && (s.flt.collectorFlip.isSome || err.isSome) && (Tbl.lookD s.flt.src 0 {}).capture.isSome

/-- When CIPHER_KAT has its effect. -/
def Ready.cipherKat (g : Nat) (s : State) : Bool :=
  s.coreUp && nth s.pwr.doms (2 + g % 8) .run != .off

/-- When BOOK_COMMIT has its effect. -/
def Ready.bookCommit (ok : Bool) (s : State) : Bool :=
  !s.book.queue.isEmpty && !s.book.clearing && s.mode.mode != .off && ok

/-- When BOOK_COMMIT has its effect. -/
def Ready.bookCommit2 (ok : Bool) (s : State) : Bool :=
  !s.book.queue.isEmpty && !s.book.clearing && s.mode.mode != .off && !ok

/-- When DRAIN_COMPLETE has its effect. -/
def Ready.drainComplete (s : State) : Bool :=
  s.mode.mode == .drain && s.drained

/-- When DRAIN_TIMEOUT has its effect. -/
def Ready.drainTimeout (s : State) : Bool :=
  s.mode.mode == .drain

/-- When TRELLIS_LINK_UP has its effect. -/
def Ready.trellisLinkUp (s : State) : Bool :=
  s.twin.en && !s.twin.linkUp && s.mode.mode.isUp && s.mode.mode != .safe

/-- When TRELLIS_LINK_DOWN has its effect. -/
def Ready.trellisLinkDown (s : State) : Bool :=
  s.twin.linkUp

/-- When TRELLIS_FRAME has its effect. -/
def Ready.trellisFrame (counter : Nat) (fcsOk : Bool) (tagOk : Bool) (s : State) : Bool :=
  s.twin.linkUp && fcsOk && tagOk && s.twin.keys.isSome && counter == s.twin.rxCounter + 1 && decide (counter < 2 ^ 63)

/-- When TRELLIS_FRAME has its effect. -/
def Ready.trellisFrame2 (counter : Nat) (fcsOk : Bool) (tagOk : Bool) (s : State) : Bool :=
  s.twin.linkUp && !(fcsOk && counter == 0) && !(fcsOk && tagOk && s.twin.keys.isSome && counter == s.twin.rxCounter + 1 && decide (counter < 2 ^ 63))

/-- When HELLO has its effect. -/
def Ready.hello (body : Bytes) (s : State) : Bool :=
  s.twin.st == .auth && helloOk s.pins.twinId body

/-- When PROOF has its effect. -/
def Ready.proof (s : State) : Bool :=
  s.twin.st == .auth && s.twin.partnerHello.isNone

/-- When PROOF has its effect. -/
def Ready.proof2 (body : Bytes) (s : State) : Bool :=
  s.twin.st == .auth && body.length == 96 && s.twin.partnerHello.isSome

/-- When HANDSHAKE_RETRY has its effect. -/
def Ready.handshakeRetry (s : State) : Bool :=
  s.twin.st == .authFailed && s.twin.linkUp

/-- When HEARTBEAT_SEND has its effect. -/
def Ready.heartbeatSend (s : State) : Bool :=
  s.twin.keys.isSome

/-- When HEARTBEAT has its effect. -/
def Ready.heartbeat (s : State) : Bool :=
  s.twin.keys.isSome

/-- When HEARTBEAT_MISSED has its effect. -/
def Ready.heartbeatMissed (s : State) : Bool :=
  s.twin.keys.isSome

/-- When LEAP_COMPLETE has its effect. -/
def Ready.leapComplete (s : State) : Bool :=
  s.mode.mode == .takeover && s.run.leaping

/-- When ACK has its effect. -/
def Ready.ack (s : State) : Bool :=
  s.twin.keys.isSome

/-- When SYNC_BEGIN has its effect. -/
def Ready.syncBegin (epoch : Nat) (s : State) : Bool :=
  s.twin.keys.isSome && s.mode.mode == .config && s.mode.pendingTarget == some Mode.twinStandby && s.twin.st == .paired
    && decide (1 ≤ epoch) && decide (epoch ≤ 0xFFFF)

/-- When SYNC_BEGIN has its effect. -/
def Ready.syncBegin2 (epoch : Nat) (s : State) : Bool :=
  s.twin.keys.isSome && !(s.twin.st == .sync && s.run.syncActive)
    && !(s.mode.mode == .config && s.mode.pendingTarget == some Mode.twinStandby && s.twin.st == .paired
      && decide (1 ≤ epoch) && decide (epoch ≤ 0xFFFF))

/-- When SYNC_BEGIN has its effect. -/
def Ready.syncBegin3 (s : State) : Bool :=
  s.twin.keys.isSome && s.twin.st == .sync && s.run.syncActive && s.pins.twinId

/-- When SYNC_END has its effect. -/
def Ready.syncEnd (s : State) : Bool :=
  s.syncing && s.vin.vint.isSome

/-- When SYNC_RESULT has its effect. -/
def Ready.syncResult (s : State) : Bool :=
  s.twin.st == .sync && s.run.syncActive

/-- When HANDOVER has its effect. -/
def Ready.handover (s : State) : Bool :=
  s.mode.mode == .twinStandby

/-- When HANDOVER has its effect. -/
def Ready.handover2 (s : State) : Bool :=
  s.mode.mode == .twinActive && s.twin.st == .inSync

/-- When HANDOVER has its effect. -/
def Ready.handover4 (s : State) : Bool :=
  s.mode.mode == .takeover

/-- When HANDOVER has its effect. -/
def Ready.handover3 (s : State) : Bool :=
  s.mode.mode != .takeover && s.mode.mode != .twinStandby && !(s.mode.mode == .twinActive && s.twin.st == .inSync)

/-- When HANDOVER_TIMEOUT has its effect. -/
def Ready.handoverTimeout (s : State) : Bool :=
  s.run.handoverIn && s.mode.mode == .twinStandby

/-- When HANDOVER_DONE has its effect. -/
def Ready.handoverDone (s : State) : Bool :=
  s.run.handoverOut

/-- When HANDOVER_DONE has its effect. -/
def Ready.handoverDone2 (ok : Bool) (s : State) : Bool :=
  !s.run.handoverOut && s.run.askedHandover && !ok

/-- When VINTAGE_OPEN has its effect. -/
def Ready.vintageOpen (handle : Nat) (s : State) : Bool :=
  s.twin.keys.isSome && s.mode.mode == .twinStandby && s.vin.vint.isNone && decide (0 < s.freeRegions) && handle % 65536 == nextEpoch s.epoch

/-- When VINTAGE_OPEN has its effect. -/
def Ready.vintageOpen2 (handle : Nat) (s : State) : Bool :=
  s.twin.keys.isSome && s.mode.mode == .twinStandby
    && !(s.vin.vint.isNone && decide (0 < s.freeRegions) && handle % 65536 == nextEpoch s.epoch)

/-- When VINTAGE_STAGE has its effect. -/
def Ready.vintageStage (s : State) : Bool :=
  s.twin.keys.isSome && s.mode.mode == .twinStandby && s.openVint.isSome && !s.syncing

/-- When PREPARE has its effect. -/
def Ready.prepare (handle : Nat) (ops : Nat) (digest : Word) (s : State) : Bool :=
  s.twin.keys.isSome && s.mode.mode == .twinStandby && (match s.openVint with
    | some v => v.handle == handle && v.ops == ops && v.digest == digest && !v.diverged && (s.commitCheck v).isNone
    | none => false)

/-- When PREPARE has its effect. -/
def Ready.prepare2 (handle : Nat) (ops : Nat) (digest : Word) (s : State) : Bool :=
  s.twin.keys.isSome && s.mode.mode == .twinStandby && (match s.openVint with
    | some v => v.handle == handle && (v.ops != ops || v.digest != digest)
    | none => true)

/-- When PREPARE has its effect. -/
def Ready.prepare3 (s : State) : Bool :=
  s.twin.keys.isSome && s.mode.mode != .twinStandby

/-- When READY has its effect. -/
def Ready.ready (handle : Nat) (s : State) : Bool :=
  (match s.vin.vint with | some v => v.state == .waitTwin && v.handle == handle | none => false)

/-- When REFUSE has its effect. -/
def Ready.refuse (handle : Nat) (s : State) : Bool :=
  (match s.vin.vint with | some v => v.state == .waitTwin && v.handle == handle | none => false)

/-- When VINTAGE_COMMIT has its effect. -/
def Ready.vintageCommit (handle : Nat) (s : State) : Bool :=
  s.twin.keys.isSome && s.mode.mode == .twinStandby && (match s.vin.vint with | some v => v.state == .prepared && v.handle == handle | none => false)

/-- When VINTAGE_ABORT has its effect. -/
def Ready.vintageAbort (handle : Nat) (s : State) : Bool :=
  s.twin.keys.isSome && s.mode.mode == .twinStandby && (match s.vin.vint with | some v => v.handle == handle | none => false)

/-- When NUMBER has its effect. -/
def Ready.number (s : State) : Bool :=
  s.applies

/-- When WINDOW has its effect. -/
def Ready.window (s : State) : Bool :=
  s.applies || (s.twin.keys.isSome && s.mode.mode == .twinActive)

/-- When CONTEXT has its effect. -/
def Ready.context (body : Bytes) (s : State) : Bool :=
  s.applies && (s.sa (leNat (bytesAt body 0 4) % 4194304)).isNone

/-- When CONTEXT has its effect. -/
def Ready.context2 (body : Bytes) (s : State) : Bool :=
  s.applies && (s.sa (leNat (bytesAt body 0 4) % 4194304)).isSome

/-- When BINDING has its effect. -/
def Ready.binding (s : State) : Bool :=
  s.applies

/-- When SCI has its effect. -/
def Ready.sci (s : State) : Bool :=
  s.applies

/-- When RETIRE has its effect. -/
def Ready.retire (s : State) : Bool :=
  s.applies

/-- When PORT has its effect. -/
def Ready.port (s : State) : Bool :=
  s.applies

/-- When MBX has its effect. -/
def Ready.mbx (m : Nat) (s : State) : Bool :=
  s.partnered && (m == 12 || m == 13) && (nth s.mbx (m + 2) {}).state == .empty

/-- When MBX_STATE has its effect. -/
def Ready.mbxState (m : Nat) (s : State) : Bool :=
  s.partnered && (m == 14 || m == 15)

/-- When MBX_STATE has its effect. -/
def Ready.mbxState2 (m : Nat) (s : State) : Bool :=
  s.partnered && (m == 12 || m == 13)

/-- When LOCK_REQ has its effect. -/
def Ready.lockReq (lock : Nat) (s : State) : Bool :=
  s.partnered && decide (lock < 32)

/-- When LOCK_RESULT has its effect. -/
def Ready.lockResult (lock : Nat) (op : Nat) (s : State) : Bool :=
  (s.lockWaiter lock op).isSome

/-- When HAIRPIN has its effect. -/
def Ready.hairpin (s : State) : Bool :=
  s.twin.keys.isSome && s.twin.hairpin && s.mode.mode.forwards && s.mode.mode != .drain

/-- When PTP_SYNC has its effect. -/
def Ready.ptpSync (d : Nat) (port : Nat) (msg : Bytes) (s : State) : Bool :=
  (s.dom d).hears port msg 0 && (s.dom d).fromMaster msg

/-- When FOLLOW_UP has its effect. -/
def Ready.followUp (d : Nat) (port : Nat) (msg : Bytes) (s : State) : Bool :=
  (match (s.dom d).sync with
    | some (q, _, _) => (s.dom d).hears port msg 8 && (s.dom d).fromMaster msg && q == ptpSeq msg
    | none => false)

/-- When DELAY_RESP has its effect. -/
def Ready.delayResp (d : Nat) (port : Nat) (msg : Bytes) (s : State) : Bool :=
  (match (s.dom d).dreq with
    | some (q, _) => (s.dom d).hears port msg 9 && !(s.dom d).p2p && q == ptpSeq msg && (s.dom d).msOffset.isSome
    | none => false)

/-- When PDELAY_RESP has its effect. -/
def Ready.pdelayResp (d : Nat) (port : Nat) (msg : Bytes) (s : State) : Bool :=
  (match (s.dom d).preq with
    | some (q, _) => (s.dom d).hears port msg 3 && (s.dom d).p2p && q == ptpSeq msg
    | none => false)

/-- When PDELAY_RESP_FOLLOW_UP has its effect. -/
def Ready.pdelayRespFollowUp (d : Nat) (port : Nat) (msg : Bytes) (s : State) : Bool :=
  (match (s.dom d).preq, (s.dom d).presp with
    | some (q, _), some (r, _, _, _) => (s.dom d).hears port msg 10 && (s.dom d).p2p && q == ptpSeq msg && r == q
    | _, _ => false)

/-- When HOLDOVER has its effect. -/
def Ready.holdover (d : Nat) (s : State) : Bool :=
  (s.dom d).en && (s.dom d).servo != .holdover && (s.holdEntered d).time.source != d + 1

/-- When HOLDOVER has its effect. -/
def Ready.holdover2 (d : Nat) (s : State) : Bool :=
  (s.dom d).en && (s.dom d).servo != .holdover
    && (let t : State := s.holdEntered d
      t.time.source == d + 1 && t.time.autoSwitch && (t.dom (1 - d)).en && (t.dom (1 - d)).servo == .locked
        && decide ((((t.domClk (1 - d)).t : Int) - t.time.line.t).natAbs ≤ t.time.maxSlew * 65536))

/-- When GATE_BOUNDARY has its effect. -/
def Ready.gateBoundary (p : Nat) (s : State) : Bool :=
  (s.gate p).listed

/-- When GATE_LIST_SWITCH has its effect. -/
def Ready.gateListSwitch (p : Nat) (s : State) : Bool :=
  (s.gate p).admin.isSome && (s.gate p).removeAt.isNone && decide ((s.gate p).switchAt ≤ s.time.line.t)

/-- When SNAPSHOT_TICK has its effect. -/
def Ready.snapshotTick (s : State) : Bool :=
  s.cnt.snap == .armed && decide (s.cnt.snapTick ≤ s.time.record.t)

/-- When SNAPSHOT_DONE has its effect. -/
def Ready.snapshotDone (s : State) : Bool :=
  s.cnt.snap == .copying

/-- When BWM_WINDOW_END has its effect. -/
def Ready.bwmWindowEnd (node : Nat) : Bool :=
  decide (node < 67)

/-- When REFRESH_DUE has its effect. -/
def Ready.refreshDue (ch : Nat) (rank : Nat) (s : State) : Bool :=
  (s.chan ch).st == .inService && decide (rank < (s.chan ch).ranks) && decide (nth (s.chan ch).owed rank 0 < 8)

/-- When REFRESH_MAKEUP has its effect. -/
def Ready.refreshMakeup (ch : Nat) (s : State) : Bool :=
  (s.chan ch).st == .inService

/-- When DRIFT_TRACK has its effect. -/
def Ready.driftTrack (ch : Nat) (s : State) : Bool :=
  s.driftTurn == some ch

/-- When POWER_DOWN_ENTRY has its effect. -/
def Ready.powerDownEntry (ch : Nat) (rank : Nat) (request : Bool) (s : State) : Bool :=
  !request && s.ddr.powerDownNs != 0 && (s.chan ch).st == .inService && decide (rank < (s.chan ch).ranks)
    && !nth (s.chan ch).pdown rank false

/-- When PATROL_SCRUB has its effect. -/
def Ready.patrolScrub (s : State) : Bool :=
  s.ddr.patrol && s.ddrReady && nth s.pwr.doms 31 .run == .run && (s.patrolNext s.ddr.patrolLine).isSome

/-- When TRAINING_DONE has its effect. -/
def Ready.trainingDone (s : State) : Bool :=
  s.ddr.trainMask != 0

/-- When DOZE_ENTRY has its effect. -/
def Ready.dozeEntry (d : Nat) (ended : List Nat) (s : State) : Bool :=
  (let p := predict (Tbl.lookD s.pwr.pred d 0) ended
     let s0 := s.pwrM fun w => { w with pred := Tbl.put w.pred d p }
     (s.pdom d == .run) && s0.dozeOk d && decide (10000 ≤ p) && s0.domIdle d && !s.pwr.waking.contains d)

/-- When DEEP_ENTRY has its effect. -/
def Ready.deepEntry (d : Nat) (ended : List Nat) (s : State) : Bool :=
  (let p := predict (Tbl.lookD s.pwr.pred d 0) ended
     let s0 := s.pwrM fun w => { w with pred := Tbl.put w.pred d p }
     (s.pdom d == .run || s.pdom d == .doze) && s0.deepOk d && decide (200000 ≤ p) && s0.domIdle d && !s.pwr.waking.contains d)

/-- When WAKE_COMPLETE has its effect. -/
def Ready.wakeComplete (d : Nat) (s : State) : Bool :=
  s.pwr.waking.contains d

/-- When SLICE_POLICY has its effect. -/
def Ready.slicePolicy (s : State) : Bool :=
  s.slicePassed.policyOn && s.slicePassed.readySlice.isSome && decide (9 * (s.inService.length * 16000) < 10 * s.slicePasses)

/-- When SLICE_POLICY has its effect. -/
def Ready.slicePolicy2 (s : State) : Bool :=
  s.slicePassed.policyOn && decide (10 * s.slicePasses < 6 * (s.inService.length * 16000))
    && decide (s.slicePassed.sliceFloor < s.inService.length) && s.slicePassed.inService.getLast?.isSome

/-- When FLUSH_COMPLETE has its effect. -/
def Ready.flushComplete (p : Nat) (s : State) : Bool :=
  decide (p < 67) && p != 65 && s.egress p == .flush

/-- When SLEW_COMPLETE has its effect. -/
def Ready.slewComplete (s : State) : Bool :=
  decide (s.time.slew.natAbs ≤ 1)

/-- When HANDSHAKE_TIMEOUT has its effect. -/
def Ready.handshakeTimeout (s : State) : Bool :=
  s.twin.st == .auth

/-- When FULL_MIRROR_SENT has its effect. -/
def Ready.fullMirrorSent (s : State) : Bool :=
  s.twin.st == .sync && s.run.syncActive && !s.run.syncEnded

/-- When BOOK_CLEAR_DONE has its effect. -/
def Ready.bookClearDone (s : State) : Bool :=
  s.book.clearing

/-- When DIAG_MEM_TEST_DONE has its effect. -/
def Ready.diagMemTestDone (s : State) : Bool :=
  (s.parked 0x1111).isSome

/-- When TEST_ACCESS_PORT has its effect. -/
def Ready.testAccessPort (s : State) : Bool :=
  s.coreUp

/-- When MSIX_VECTOR_UNMASK has its effect. -/
def Ready.msixVectorUnmask (s : State) : Bool :=
  s.barUp

end Sys2Proof.Machine
end

