-- ==== Sys2Proof/Certificates/Slice0/Obligations.lean ====
section
/-!
DEFINITION. The statements for the provers: what the machine does as a whole, the rules of single operations, and that every row of the table has its effect.
-/
open Sys2Proof Sys2Proof.Machine

/-- A step with a command at the front of the queue is that command's meaning on the state with the rest of the queue. -/
def Obligations.StepRunsTheFrontCommand : Prop :=
  ∀ (c : Instr) (rest : List Instr) (s : State), step { s with pending := c :: rest } = exec c { s with pending := rest }

/-- With no command waiting, a step is one timing clock (the model's choice, log entry 2); in OFF nothing passes. -/
def Obligations.EmptyQueueIsOneClock : Prop :=
  ∀ s : State, s.pending = [] → step s = .next (tick s) ∧ (s.mode.mode = .off → step s = .next s)

/-- No command, event or clock ends in a fault or a refusal. -/
def Obligations.EveryStepGoesOn : Prop :=
  (∀ (c : Instr) (s : State), ∃ t, exec c s = .next t) ∧ ∀ s : State, ∃ t, step s = .next t

/-- What reset leaves, at the entry to BOOT: HIF_MODE reads 0x12, no boot is behind it but the first, no keys, no tags, no events held, nothing in the DDR5 memory, no reaction due and an empty queue. -/
def Obligations.ResetIsTheEntryToBoot : Prop :=
  State.reset.hifMode = 0x12 ∧ State.reset.mode.mode = .boot ∧ State.reset.mode.prev = .dormant
    ∧ Safety.noKeys State.reset = true ∧ State.reset.cmds.tags = [] ∧ State.reset.cmds.heldEvents = []
    ∧ Mem.wf State.reset.ddr.mem = true ∧ State.reset.flt.due = [] ∧ State.reset.pending = []

/-- Reset meets the mailbox invariant. -/
def Obligations.MailboxesAgreeAtReset : Prop := Safety.mailboxes State.reset

/-- Every step from a state that meets the mailbox invariant, of a command, an event or the clock, gives a state that meets it. -/
def Obligations.MailboxesAgreeAlways : Prop :=
  ∀ s t : State, Safety.mailboxes s → step s = .next t → Safety.mailboxes t

/-- Ending a command changes nothing behind the paths a reply goes through: its tag, the rings, the trace and the wakes they cause. So does a command that fails its checks, and one that only reads. -/
def Obligations.RepliesTouchNothingBehindThem : Prop :=
  (∀ (s : State) (op : Nat) (c : Packet) (st : Status) (d : Nat) (ws : List Word), Safety.Behind s (s.complete op c st d ws)) ∧
  (∀ (s : State) (op : Nat) (c : Packet) (st : Status) (d : Nat), Safety.Behind s (s.finish op c (.fail st d))) ∧
  (∀ (s : State) (op : Nat) (c : Packet) (ws : List Word), Safety.Behind s (s.finish op c (.data ws s)))

/-- Raising an event takes the next sequence number, lost or not, and touches nothing behind the reply path; the faults, the DDR5 memory and the power domains stay too. -/
def Obligations.EventsTakeTheNextNumber : Prop :=
  ∀ (s : State) (code obj : Nat) (payload : List Word),
    let t := s.postEvent code obj payload
    t.cmds.eventSeq = (s.cmds.eventSeq + 1) % 4294967296
      ∧ Safety.Behind s t ∧ t.flt = s.flt ∧ t.ddr = s.ddr ∧ t.pwr = s.pwr ∧ t.vnt = s.vnt ∧ t.smb = s.smb ∧ t.free = s.free
      ∧ ((nth s.hif.rings 5 {}).active = false → t.cmds.lost = satAdd 64 s.cmds.lost 1 ∧ t.out = s.out ∧ t.hif = s.hif)

/-- With no reaction due, no association being retired and no column being carved, what every command ends with changes only mailboxes, interrupts, what is put out, and the mark of the tick a step of record time kept (log entry 164). -/
def Obligations.SettledStatesStay : Prop :=
  ∀ s : State, s.flt.due = [] → (∀ e ∈ s.cip.sas, e.2.retiring = false) → (∀ k ∈ s.core.cols, k.carve = none) →
    ∃ m h o, s.settle = { s with mbx := m, hif := h, out := o, time := { s.time with oldNs := none } }

/-- A prefix search answers the longest prefix of the realm and family that contains the address and is visible in the epoch, and a miss only when there is none (R182). -/
def Obligations.PrefixSearchFindsTheLongest : Prop :=
  ∀ (s : State) (r : Nat) (v6 : Bool) (a p : Nat),
    let fits (x : Prefix) : Prop :=
      x ∈ s.lookup.pfx ∧ x.realm = r ∧ x.v6 = v6 ∧ x.covers a = true ∧ visible x.birth x.death x.deathSet p = true
    (∀ x, s.pfxFind r v6 a p = some x → fits x ∧ ∀ y, fits y → y.len ≤ x.len) ∧
    (s.pfxFind r v6 a p = none → ∀ y, ¬ fits y)

/-- A store into the DDR5 memory writes its own bytes, except those of a channel that has failed, and leaves every other byte. -/
def Obligations.StoresWriteTheirOwnBytes : Prop :=
  ∀ (s : State) (a : Nat) (b : Bytes) (x : Nat),
    (¬ (a ≤ x ∧ x < a + b.length) → Mem.read (s.ddrStore a b).ddr.mem x = Mem.read s.ddr.mem x) ∧
    (a ≤ x → x < a + b.length → (s.chan (s.ddr.chanOf x)).st ≠ .failed →
      Mem.read (s.ddrStore a b).ddr.mem x = by8 (byteAt b (x - a))) ∧
    (a ≤ x → x < a + b.length → (s.chan (s.ddr.chanOf x)).st = .failed →
      Mem.read (s.ddrStore a b).ddr.mem x = Mem.read s.ddr.mem x)

/-- A cellar book record has the layout of R569: its 256 bytes hold the type, the flags, the payload's length, the sequence number, the boot count at the write, the time, the mode, zeros, the payload with zeros after it, and the CRC of all before it. A commit gives the record the number after the last, 1 after a clear, modulo 2^32. -/
def Obligations.RecordsAreLaidOut : Prop :=
  (∀ (s : State) (runs : Bool) (typ : Nat) (pinned : Bool) (payload : Bytes) (seq boot : Nat), payload.length ≤ 224 →
    let b := recordBytes (s.bookBody runs typ pinned payload) seq boot
    b.length = 256
      ∧ byteAt b 0 = typ % 256
      ∧ byteAt b 1 = b2n pinned + 2 * b2n (!runs)
      ∧ leNat (bytesAt b 2 2) = payload.length
      ∧ leNat (bytesAt b 4 4) = seq % 4294967296
      ∧ leNat (bytesAt b 8 4) = boot % 4294967296
      ∧ leNat (bytesAt b 12 8) = (if runs then s.ns else s.book.cycles * 160) % 18446744073709551616
      ∧ byteAt b 20 = s.mode.mode.code
      ∧ bytesAt b 21 7 = List.replicate 7 0#8
      ∧ bytesAt b 28 payload.length = payload
      ∧ bytesAt b (28 + payload.length) (224 - payload.length) = List.replicate (224 - payload.length) 0#8
      ∧ leNat (bytesAt b 252 4) = crc32cF (bytesAt b 0 252) % 4294967296) ∧
  (∀ (s : State) (r : QRec) (rest : List QRec), s.book.queue = r :: rest → s.book.clearing = false → s.mode.mode ≠ .off →
    let seq := (s.book.marker.headSeq + 1) % 4294967296
    let t := bookCommit true s
    t.book.marker.headSeq = seq ∧ t.book.queue = rest
      ∧ Tbl.look t.book.records (r.slot.getD s.book.marker.nextIdx) = some (recordBytes r.body seq s.mode.bootCount)) ∧
  (∀ s : State, s.book.clearing = true → (bookClearDone s).book.marker.headSeq = 0)

/-- A doorbell moves a ring's host index only when the slots it then spans, modulo 65,536, are at most SLOTS; otherwise the ring's DB_ERR and IRQ_HIF_ERR.DOORBELL are set and the index stays (R50). -/
def Obligations.DoorbellsStayWithinTheRing : Prop :=
  ∀ (r : Nat) (v : Word) (s : State), r < 6 → s.barUp = true →
    let host : Int := v.fld 15 0
    let engine : Int := (s.ring r).engine
    let span := if r < 4 then (host - engine) % 65536 else (engine - host) % 65536
    let refused := (s.ringM r fun g => { g with dbErr := true }).setHifErr 0
    (0 ≤ span ∧ span ≤ (s.ring r).slots →
      exec (.hifDb r v) s = .next ((s.ringM r fun g => { g with host := v.fld 15 0 }).wakeHost).settle) ∧
    (¬ (0 ≤ span ∧ span ≤ (s.ring r).slots) → exec (.hifDb r v) s = .next refused.settle) ∧
    nbit refused.hif.err 0 = true ∧ (refused.ring r).host = (s.ring r).host ∧
    (r < s.hif.rings.length → (refused.ring r).dbErr = true)

/-- An access that is not a naturally aligned 32-bit one reads zero or writes nothing, and sets IRQ_HIF_ERR.ACCESS; one to an offset that is not listed does the same but sets no error (R45). -/
def Obligations.BadAccessesReadZero : Prop :=
  ∀ (off bytes : Nat) (write : Bool) (s : State), s.barUp = true →
    let answered (t : State) : State := if write then t else t.emit (.readData 0)
    (off % 4 ≠ 0 ∨ bytes ≠ 4 → regListed (off / 4 * 4) = true →
      exec (.bar0BadAccess off bytes write) s = .next (answered (s.setHifErr 3)).settle
        ∧ nbit (s.setHifErr 3).hif.err 3 = true ∧ ∃ h o, s.setHifErr 3 = { s with hif := h, out := o }) ∧
    (regListed (off / 4 * 4) = false → exec (.bar0BadAccess off bytes write) s = .next (answered s).settle)

/-- A write of a doorbell or of HIF_RESET through the register map is the command of that register, and a write of an offset the map does not list changes nothing. -/
def Obligations.WritesReachTheirRegister : Prop :=
  (∀ (r : Nat) (v : Word) (s : State), r < 6 → exec (.registerWrite (0x100 + 4 * r) v) s = exec (.hifDb r v) s) ∧
  (∀ (t : Nat) (v : Word) (s : State), t < 16 → exec (.registerWrite (0x140 + 4 * t) v) s = exec (.hifTxdb t v) s) ∧
  (∀ (r : Nat) (v : Word) (s : State), r < 16 → exec (.registerWrite (0x180 + 4 * r) v) s = exec (.hifRxdb r v) s) ∧
  (∀ (v : Word) (s : State), exec (.registerWrite 0x24 v) s = exec (.hifReset v) s) ∧
  (∀ (off : Nat) (v : Word) (s : State), regListed off = false → exec (.registerWrite off v) s = .next s.settle)

/-- A rising edge of PPS_IN is stamped in line time and record time of one tick; an edge within 100 ns of the last captured one is ignored; the FIFO holds 16, a new edge at a full one is dropped and sets the overflow flag; CAPTURE_READ removes what it returns and clears the flag (R410). -/
def Obligations.CapturesKeepSixteenEdges : Prop :=
  (∀ (i : Nat) (s : State),
    let c := nth s.time.caps i {}
    let caps (f : CapIn → CapIn) : State := s.timeM fun t => { t with caps := updAt t.caps i f }
    let close : Prop := ∃ x, c.last = some x ∧ s.time.record.t < x + 100 * 65536
    (close → exec (.ppsInEdge i) s = .next s.settle) ∧
    (¬ close → c.fifo.length < 16 →
      exec (.ppsInEdge i) s = .next (caps fun c =>
        { c with fifo := c.fifo ++ [(s.time.line.t, s.time.record.t)], last := some s.time.record.t }).settle) ∧
    (¬ close → 16 ≤ c.fifo.length → exec (.ppsInEdge i) s = .next (caps fun c => { c with overflow := true }).settle)) ∧
  (∀ (c : Packet) (s : State), c.obj < 2 →
    let q := nth s.time.caps c.obj {}
    captureRead c s = .data
      (wd (q.fifo.length + 65536 * b2n q.overflow) :: q.fifo.flatMap fun e => timeWords e.1 ++ timeWords e.2)
      (s.timeM fun t => { t with caps := updAt t.caps c.obj fun q => { q with fifo := [], overflow := false } }))

/-- A designated port's egress stamp FIFO holds 16 entries of messageType, domainNumber, sequenceId and stamp; a new entry at a full one overwrites the oldest and sets the overflow flag; PTP_TS_READ removes what it returns and clears the flag (R402). No other port's FIFO changes. -/
def Obligations.StampsKeepTheNewestSixteen : Prop :=
  (∀ (s : State) (p : Nat) (m : Bytes) (stamp : Nat),
    let q := s.ptpPort p
    let t := s.postStamp p m stamp
    (q.fifo.length < 16 → t.ptpPort p = { q with fifo := q.fifo ++ [(ptpType m, ptpDomain m, ptpSeq m, stamp)] }) ∧
    (16 ≤ q.fifo.length →
      t.ptpPort p = { q with fifo := q.fifo.drop 1 ++ [(ptpType m, ptpDomain m, ptpSeq m, stamp)], overflow := true }) ∧
    (q.fifo.length ≤ 16 → (t.ptpPort p).fifo.length ≤ 16) ∧
    ∀ k, k ≠ p → t.ptpPort k = s.ptpPort k) ∧
  (∀ (c : Packet) (s : State), s.hasPort c.obj = true → (s.ptpPort c.obj).desig = true →
    let q := s.ptpPort c.obj
    ∃ t, ptpTsRead c s = .data (wd (q.fifo.length + 65536 * b2n q.overflow)
        :: q.fifo.flatMap fun e => wd (e.1 + 256 * e.2.1 + 65536 * e.2.2.1) :: timeWords e.2.2.2) t
      ∧ t.ptpPort c.obj = { q with fifo := [], overflow := false } ∧ ∀ k, k ≠ c.obj → t.ptpPort k = s.ptpPort k)

/-- The cases of the lock table: a read of a free lock acquires it, of a held one answers its holder; of two masters that read a free lock together the lower acquires it; only the holder's RELEASE, or FORCE by master 1, frees it. Masters 0 and 1 read a word, master 2 its SMBus byte and master 3 a LOCK_RESULT message, and master 3 reads only while the Trellis is up (R71, R72, R76, R460). -/
def Obligations.LocksFollowTheTable : Prop :=
  ∀ (s : State) (n : Nat), n < 32 → n < s.locks.length →
    let freed (t : State) : State := t.locksM fun l => updAt l n fun _ => none
    let taken (m : Nat) : State := s.locksM fun l => updAt l n fun _ => some m
    let answer (m result owner : Nat) (t : State) : State :=
      if m = 2 then t.smbAnswer (0x40 + n) false [by8 (result + 16 * owner)]
      else if m = 3 then t.twinSend 2 0x33 [by8 n, 0#8, by8 result, by8 owner]
      else t.emit (.readData (result + 256 * owner))
    (∀ m, m < 4 →
      (s.masterUp m = false → exec (.lockAcquire n [m]) s = .next s.settle) ∧
      (s.masterUp m = true → nth s.locks n none = none → exec (.lockAcquire n [m]) s = .next (answer m 1 m (taken m)).settle) ∧
      (∀ o, s.masterUp m = true → nth s.locks n none = some o →
        exec (.lockAcquire n [m]) s = .next (answer m (if o = m then 3 else 2) o s).settle)) ∧
    (nth s.locks n none = none → s.masterUp 0 = true → s.barUp = true →
      exec (.lockAcquire n [1, 0]) s = .next (((taken 0).emit (.readData 1)).emit (.readData 2)).settle) ∧
    (∀ o m, nth s.locks n none = some o → s.masterUp m = true →
      exec (.lockRelease n m) s = .next (if o = m then freed s else s).settle ∧
      exec (.force n m) s = .next (if m = 1 then ((freed s).setAlert 3).bookLog 0x13 [by8 n, by8 o] else s).settle) ∧
    s.masterUp 3 = (s.partnered && s.smbUp)

/-- Changing the mode sets HIF_MODE's three fields, counts one transition and queues a MODE record; a mode from CONFIG on also posts MODE_CHANGE, whose one word has the previous mode, the cause and the low half of the count (R99). -/
def Obligations.ModeChangesAreReported : Prop :=
  ∀ (s : State) (m : Mode) (cause : Nat), cause < 256 →
    let t := s.goMode m cause
    t.mode.mode = m ∧ t.mode.prev = s.mode.mode ∧ t.mode.cause = cause
      ∧ t.mode.history = (s.mode.history + 1) % 4294967296 ∧ t.pending = s.pending ∧ t.ddr = s.ddr ∧ t.flt = s.flt
      ∧ (m.isUp = true → ∃ (u : State) (w : Word), t = u.postEvent 0x0001 m.code [w]
          ∧ w.fld 3 0 = s.mode.mode.code ∧ w.fld 7 4 = 0 ∧ w.fld 15 8 = cause ∧ w.fld 31 16 = t.mode.history % 65536)

/-- A fault whose capture register is full is only counted; one that finds it empty takes the capture, and the first eight of a boot are kept in order (R565). With the report reaction, the FAULT event carries the capture, its position among the boot's captures and the default that applied, or 0x20 for the source's own entry. -/
def Obligations.FirstFaultsAreCaptured : Prop :=
  ∀ (s : State) (src cls master access addr syn : Nat), faultClass src = some cls →
    ((Tbl.lookD s.flt.src src {}).capture.isSome = true → s.fault src master access addr syn = s.countFault src cls) ∧
    ((Tbl.lookD s.flt.src src {}).capture = none →
      ∃ cap : Capture, cap.source = src ∧ cap.cls = cls ∧ cap.master = master ∧ cap.access = access ∧ cap.addr = addr % 2 ^ 64
        ∧ cap.time = s.time.record.t ∧ cap.reactions = s.flt.reaction src cls ∧ (eccSource src = false → cap.syndrome = syn)
        ∧ let t := s.fault src master access addr syn
          let e := Tbl.lookD t.flt.src src {}
          e.capture = some cap ∧ e.since = 1 ∧ e.count = sat32 (Tbl.lookD s.flt.src src {}).count
            ∧ t.flt.taken = sat32 s.flt.taken
            ∧ t.flt.first = (if s.flt.taken < 8 then s.flt.first ++ [cap] else s.flt.first)
            ∧ t.flt.due = s.flt.due ++ duesOf src cap.reactions cap
            ∧ (nbit cap.reactions 1 = false → t.cmds.eventSeq = s.cmds.eventSeq)
            ∧ (nbit cap.reactions 1 = true → ∃ u : State, t = u.postEvent 0x1001 src (bytesWords cap.bytes ++
                [wd (min (s.flt.taken + 1) 255),
                 wd (if src = 0 then 0x13 else if (Tbl.lookD s.flt.src src {}).own.isSome then 0x20 else nth s.flt.defaults cls 0)])))

/-- A write of any BAR0 register but HIF_RESET changes the host interface, the rings, the mailboxes, the locks, the Vintner's controls and the cellar window, with what those post, wake and send; no table, clock, mode, memory byte or frame changes. -/
def Obligations.RegisterWritesReachNoTable : Prop :=
  ∀ (off : Nat) (v : Word) (s : State), off ≠ 0x24 → Safety.Tables s (s.regWrite off v)

/-- Every one of the system commands that passes its checks runs (NOP, SYNC_SUMMARY, DEVICE_IDENTITY, MODE_SET, CFG_BATCH_BEGIN, CFG_BATCH_END, KWK_ESTABLISH). -/
def Obligations.SystemCommandsRun : Prop :=
    (∀ (c : Packet) (s0 : State), Ready.nop c s0 = true →
      let s := s0.began 0x0000 c
      exec (.nop c) s0 = .next (s.finish 0x0000 c
        (.ok s)).settle) ∧
    (∀ (c : Packet) (s0 : State), Ready.syncSummary c s0 = true →
      let s := s0.began 0x0001 c
      exec (.syncSummary c) s0 = .next (s.finish 0x0001 c
        (.data (bytesWords (if s.mode.mode.isUp then s.summary else s.summaryReduced)) s)).settle) ∧
    (∀ (c : Packet) (s0 : State), Ready.deviceIdentity c s0 = true →
      let s := s0.began 0x0002 c
      exec (.deviceIdentity c) s0 = .next (s.finish 0x0002 c
        (let b := s.identityBody (bytesAt c.bytes 0 32)
         let g := P384.sign (P384.scalar Config.identityKey) (P384.scalar (Config.ecdsaNonce s.free)) b
         .data (bytesWords (b ++ beBytes 48 g.1 ++ beBytes 48 g.2)) s.drawn)).settle) ∧
    (∀ (c : Packet) (s0 : State), Ready.modeSet c s0 = true →
      let s := s0.began 0x0003 c
      exec (.modeSet c) s0 = .next (s.finish 0x0003 c
        (let cur := s.mode.mode
         let tgt := modeOf ((c.w 0).fld 3 0)
         if tgt = cur then .done .ok (cur.code + 16 * cur.code + 256 * (s.mode.history % 16777216)) [] s
         else
           match tgt with
           | .boot => if (s.requestBoot 1).mode.mode == .boot then .done .ok (s.requestBoot 1).modeDetail [] (s.requestBoot 1) else .hold 0 (s.requestBoot 1)
           | .dormant => .done .ok (s.nextDetail .dormant) [] (s.fltM fun f => { f with due := f.due ++ [.dormant] })
           | .safe => .done .ok (s.nextDetail .safe) [] (s.fltM fun f => { f with due := f.due ++ [.safe 1 none] })
           | .forward =>
             let t : State := if cur = .twinActive then
                 (if ((s.goMode .forward 1).leaveActive).twin.up then ((s.goMode .forward 1).leaveActive).twinGo .paired 0
                  else (s.goMode .forward 1).leaveActive)
               else (s.goMode .forward 1).claimOwn
             .done .ok t.modeDetail [] t
           | .twinActive => .pend 0 (s.modeM fun m => { m with pendingTarget := some .twinActive }).startSync
           | .twinStandby =>
             let t : State := s.modeM fun m => { m with pendingTarget := some .twinStandby }
             .pend 0 (if cur = .twinActive then t.startHandover else t)
           | .drain => .done .ok (s.startDrain ((c.w 0).fld 31 16)).modeDetail [] (s.startDrain ((c.w 0).fld 31 16))
           | .diagnostic => .done .ok (s.goMode .diagnostic 1).runAll.modeDetail [] (s.goMode .diagnostic 1).runAll
           | _ => .done .ok s.leaveDiagnostic.modeDetail [] s.leaveDiagnostic)).settle) ∧
    (∀ (c : Packet) (s0 : State), Ready.cfgBatchBegin c s0 = true →
      let s := s0.began 0x0004 c
      exec (.cfgBatchBegin c) s0 = .next (s.finish 0x0004 c
        (.ok (s.cmdsM fun k => { k with batchOpen := true, staged := [] }))).settle) ∧
    (∀ (c : Packet) (s0 : State), Ready.cfgBatchEnd c s0 = true →
      let s := s0.began 0x0005 c
      exec (.cfgBatchEnd c) s0 = .next (s.finish 0x0005 c
        (.done .ok s.cmds.staged.length [] s.noBatch)).settle) ∧
    (∀ (c : Packet) (s0 : State), Ready.cfgBatchEnd2 c s0 = true →
      let s := s0.began 0x0005 c
      ∀ t, s.batchDone c = .ok t →
      exec (.cfgBatchEnd c) s0 = .next (s.finish 0x0005 c
        (if (t.twin.waits.any fun w => samePath w.path c.path && w.tag == c.tagNo) then
           .hold 0 (s.mirrorBatch t c)
         else .done .ok s.cmds.staged.length [] t)).settle) ∧
    (∀ (c : Packet) (s0 : State), Ready.kwkEstablish c s0 = true →
      let s := s0.began 0x0006 c
      exec (.kwkEstablish c) s0 = .next (s.finish 0x0006 c
        (let gen := (s.cmds.kwkGen + 1) % 4294967296
         let k := s.kwkDerive gen c.bytes
         .done .ok gen (bytesWords k.2) (s.cmdsM fun m => { m with kwkGen := gen, kwk := some k.1 }))).settle)

/-- Every one of the port commands that passes its checks runs (PORT_LAYOUT_SET, PORT_SET, PORT_STATUS, LB_PORT_SET, LB_STATUS). -/
def Obligations.PortCommandsRun : Prop :=
    (∀ (c : Packet) (s0 : State), Ready.portLayoutSet c s0 = true →
      let s := s0.began 0x0100 c
      let g := c.obj
      let w := c.w 0
      exec (.portLayoutSet c) s0 = .next (s.finish 0x0100 c
        (let s := (layoutPorts g (s.layout g)).foldl (fun s p => s.linkGoesDown p 4 0) s
         let s := (layoutPorts g w).foldl (fun s p => s.mportM p fun m => { m with downAt := s.time.record.t }) (s.setLayout g w)
         .done .ok (layoutPorts g w).length [] s)).settle) ∧
    (∀ (c : Packet) (s0 : State), Ready.portSet c s0 = true →
      let s := s0.began 0x0101 c
      let p := c.obj
      let w := c.w 0
      let old := s.mport p
      exec (.portSet c) s0 = .next (s.finish 0x0101 c
        (let s :=
          if old.en && !w.bit 0 then s.linkGoesDown p 3 0
          else if old.train != w.bit 6 || old.fec25 != w.bit 5 then s.linkGoesDown p 4 0
          else s
         let s := s.mportM p (portFields c)
         let s :=
          if old.cipher != w.bit 1 then
            let s := s.cipM fun k => { k with ports := if w.bit 1 then Tbl.put k.ports p {} else Tbl.del k.ports p }
            (s.enterFlush p).tryLeave p
          else s
         let s := if old.guardOn && !w.bit 4 && (s.mport p).tripped then (s.clearTrip p).tryLeave p else s
         .ok s)).settle) ∧
    (∀ (c : Packet) (s0 : State), Ready.portStatus c s0 = true →
      let s := s0.began 0x0102 c
      let p := c.obj
      let m := s.mport p
      let k (i : Nat) : Nat := nth m.counts i 0
      let pf := sumL ((List.range 8).map fun i => if nth m.pfc i 0 = 0 then 0 else 2 ^ i)
      exec (.portStatus c) s0 = .next (s.finish 0x0102 c
        (.data [wd (b2n m.up + 2 * b2n m.en + 4 * b2n m.cipher + 8 * b2n m.tripped + 16 * b2n (m.pause != 0)
              + 256 * pf + 65536 * m.cause),
            wd (k 0), wd (k 1), wd (k 2), wd (k 3), wd (k 4), wd (min (k 5) 65535 + 65536 * min (k 6) 65535),
            wd (k 7), wd (k 8), wd (k 9), wd (k 10), wd (k 11), wd (k 12)] s)).settle) ∧
    (∀ (c : Packet) (s0 : State), Ready.lbPortSet c s0 = true →
      let s := s0.began 0x0120 c
      let p := c.obj
      let share := (c.w 0).fld 12 0
      let xoff := (c.w 1).fld 12 0
      let xon := (c.w 1).fld 28 16
      let mode := (c.w 2).fld 1 0
      let mask := (c.w 2).fld 15 8
      let q := (c.w 3).fld 15 0
      exec (.lbPortSet c) s0 = .next (s.finish 0x0120 c
        (let s := s.fcRelease p (s.lb p) mode mask
         let s := s.lbM p fun b => { b with
          share := share, common := (c.w 0).fld 28 16, xoff := xoff, xon := xon, fcMode := mode, pfcMask := mask
          defPri := (c.w 2).fld 18 16, xoffQuanta := q, refresh := (c.w 3).fld 31 16 }
         .ok (s.fcUpdate p))).settle) ∧
    (∀ (c : Packet) (s0 : State), Ready.lbStatus c s0 = true →
      let s := s0.began 0x0121 c
      let g := c.obj
      exec (.lbStatus c) s0 = .next (s.finish 0x0121 c
        (let lbg := nth s.ing.groups g {}
         let ws := (List.range 8).flatMap fun k =>
           let p := 8 * g + k
           if s.hasPort p then
             let b := s.lb p
             [wd (s.lbOcc p + 65536 * b.peak), wd (b2n b.xoffOn + 256 * b.pfcOn + 65536 * b.xoffs), wd b.overrun, wd b.discards]
           else [0#32, 0#32, 0#32, 0#32]
         let inUse := sumL (lbg.frames.map (·.cells))
         let t := s.ingM fun i => { i with
           groups := updAt i.groups g fun x => { x with heldLands := 0 }
           ports := i.ports.mapV fun p b => if p / 8 == g then { b with peak := s.lbOcc p, xoffs := 0, overrun := 0, discards := 0 } else b }
         .data (wd (inUse + 65536 * s.commonUse g) :: wd lbg.heldLands :: ws) t)).settle)

/-- Every one of the parse and fragment commands that passes its checks runs (PARSE_INFO, PARSE_STATE_SET, PARSE_TRANS_SET, PARSE_EXCEPT_SET, PARSE_DEFAULT_LOAD, PARSE_READ, FRAG_CONFIG, FRAG_STATUS). -/
def Obligations.ParseCommandsRun : Prop :=
    (∀ (c : Packet) (s0 : State), Ready.parseInfo c s0 = true →
      let s := s0.began 0x0200 c
      exec (.parseInfo c) s0 = .next (s.finish 0x0200 c
        (.data (s.parse.counts.map wd) s)).settle) ∧
    (∀ (c : Packet) (s0 : State), Ready.parseStateSet c s0 = true →
      let s := s0.began 0x0201 c
      exec (.parseStateSet c) s0 = .next (s.finish 0x0201 c (Res.logged 0x0201 c
        (.ok (s.stagedM fun a => { a with states := Tbl.put a.states c.obj (c.params.take 9) })))).settle) ∧
    (∀ (c : Packet) (s0 : State), Ready.parseTransSet c s0 = true →
      let s := s0.began 0x0202 c
      exec (.parseTransSet c) s0 = .next (s.finish 0x0202 c (Res.logged 0x0202 c
        (.ok (s.stagedM fun a => { a with trans := Tbl.put a.trans c.obj (c.params.take 2) })))).settle) ∧
    (∀ (c : Packet) (s0 : State), Ready.parseExceptSet c s0 = true →
      let s := s0.began 0x0203 c
      exec (.parseExceptSet c) s0 = .next (s.finish 0x0203 c (Res.logged 0x0203 c
        (.ok (s.stageExcept (c.params.take 16))))).settle) ∧
    (∀ (c : Packet) (s0 : State), Ready.parseDefaultLoad c s0 = true →
      let s := s0.began 0x0204 c
      exec (.parseDefaultLoad c) s0 = .next (s.finish 0x0204 c (Res.logged 0x0204 c
        (.ok (s.stagedM fun a => { a with states := defaultStates, trans := defaultTrans })))).settle) ∧
    (∀ (c : Packet) (s0 : State), Ready.parseRead c s0 = true →
      let s := s0.began 0x0205 c
      ∀ a, s.arraysOf ((c.w 0).fld 15 0) = some a →
      exec (.parseRead c) s0 = .next (s.finish 0x0205 c
        (.data (if c.objectId.fld 31 30 = 0 then (Tbl.lookD a.states (c.objectId.fld 9 0) (List.replicate 8 0#32)).take 8
           else if c.objectId.fld 31 30 = 1 then Tbl.lookD a.trans (c.objectId.fld 9 0) [0#32, 0#32] else a.except) s)).settle) ∧
    (∀ (c : Packet) (s0 : State), Ready.fragConfig c s0 = true →
      let s := s0.began 0x0210 c
      let h := (c.w 0).fld 16 0
      let toHost := (c.w 1).bit 0
      let q := (c.w 1).fld 31 16
      exec (.fragConfig c) s0 = .next (s.finish 0x0210 c
        (let s := if s.frag.orphanHost then s.refQueue false s.frag.orphanQueue else s
         let s := if toHost then s.refQueue true q else s
         .ok (s.fragM fun f => { f with timeoutUs := h, orphanHost := toHost, orphanQueue := q, enable := (c.w 2).bit 0 }))).settle) ∧
    (∀ (c : Packet) (s0 : State), Ready.fragStatus c s0 = true →
      let s := s0.began 0x0211 c
      let n := s.frag.held.length
      exec (.fragStatus c) s0 = .next (s.finish 0x0211 c
        (.data (wd (s.frag.table.length + 65536 * n) :: wd s.frag.peak :: s.frag.counts.map wd)
          (s.fragM fun f => { f with peak := n }))).settle)

/-- Every one of the lookup commands that passes its checks runs (EM_TABLE_DEFINE, EM_INSERT, EM_MODIFY, EM_DELETE, EM_SEARCH, EM_READ, EM_STATUS, PFX_REALM_DEFINE, PFX_ADD, PFX_MODIFY, PFX_DELETE, PFX_SEARCH, PFX_STATUS, LOOKUP_PROFILE_SET, LOOKUP_MAP_SET). -/
def Obligations.LookupCommandsRun : Prop :=
    (∀ (c : Packet) (s0 : State), Ready.emTableDefine c s0 = true →
      let s := s0.began 0x0300 c
      let t := c.obj
      exec (.emTableDefine c) s0 = .next (s.finish 0x0300 c (Res.logged 0x0300 c
        (.ok (s.stagedM fun a => { a with em := Tbl.del a.em t })))).settle) ∧
    (∀ (c : Packet) (s0 : State), Ready.emTableDefine2 c s0 = true →
      let s := s0.began 0x0300 c
      let t := c.obj
      let d := emDefOf c
      exec (.emTableDefine c) s0 = .next (s.finish 0x0300 c (Res.logged 0x0300 c
        (.ok (s.stagedM fun a => { a with em := Tbl.put a.em t d })))).settle) ∧
    (∀ (c : Packet) (s0 : State), Ready.emInsert c s0 = true →
      let s := s0.began 0x0301 c
      ∀ d, Tbl.look s.staged.em c.obj = some d →
      ∀ n m t, s.emPlace c.obj d
        { key := (pktKey c 1 (if d.wide then 10 else 4)).take d.keyLen, birth := s.vintN, death := 0, deathSet := false
          action := (c.w 0).fld 19 0 } = (some (n, m), t) →
      exec (.emInsert c) s0 = .next (s.finish 0x0301 c (Res.logged 0x0301 c
        (.done .ok (n + 1048576 * m) [] (t.refAct true ((c.w 0).fld 19 0))))).settle) ∧
    (∀ (c : Packet) (s0 : State), Ready.emModify c s0 = true →
      let s := s0.began 0x0302 c
      ∀ d, Tbl.look s.staged.em c.obj = some d →
      ∀ n e, s.emFind d ((pktKey c 1 (if d.wide then 10 else 4)).take d.keyLen) s.vintN = some (n, e) →
      exec (.emModify c) s0 = .next (s.finish 0x0302 c (Res.logged 0x0302 c
        (if e.birth = s.vintN then
           .done .ok n [] (((s.refAct false e.action).refAct true ((c.w 0).fld 19 0)).lookupM fun k =>
             { k with slots := Tbl.put k.slots n { e with action := (c.w 0).fld 19 0 } })
         else s.emNew c.obj d ((pktKey c 1 (if d.wide then 10 else 4)).take d.keyLen) ((c.w 0).fld 19 0) (some (n, e))))).settle) ∧
    (∀ (c : Packet) (s0 : State), Ready.emDelete c s0 = true →
      let s := s0.began 0x0303 c
      ∀ d, Tbl.look s.staged.em c.obj = some d →
      ∀ n e, s.emFind d ((pktKey c 0 (if d.wide then 10 else 4)).take d.keyLen) s.vintN = some (n, e) →
      exec (.emDelete c) s0 = .next (s.finish 0x0303 c (Res.logged 0x0303 c
        (.ok (if e.birth = s.vintN then (s.refAct false e.action).lookupM fun k => { k with slots := Tbl.del k.slots n }
          else s.emKill n e)))).settle) ∧
    (∀ (c : Packet) (s0 : State), Ready.emSearch c s0 = true →
      let s := s0.began 0x0304 c
      ∀ a, s.arraysOf ((c.w 0).fld 15 0) = some a →
      ∀ d, Tbl.look a.em c.obj = some d →
      exec (.emSearch c) s0 = .next (s.finish 0x0304 c
        (match s.emFind d ((pktKey c 1 (if d.wide then 10 else 4)).take d.keyLen)
            (if (c.w 0).fld 15 0 = 0 then s.epoch else (c.w 0).fld 15 0) with
         | some (n, e) => .data (wd (n + 0x80000000) :: e.words d.wide) s
         | none => .data (0#32 :: emZero d.wide) s)).settle) ∧
    (∀ (c : Packet) (s0 : State), Ready.emRead c s0 = true →
      let s := s0.began 0x0305 c
      exec (.emRead c) s0 = .next (s.finish 0x0305 c
        (match s.emHolders.find? fun h => h.2.hasSlot c.obj with
        | none => .data (0#32 :: emZero false) s
        | some (t, d) =>
          let n := if d.wide then c.obj / 2 * 2 else c.obj
          .data (wd (t + 16 * b2n d.wide + 32) :: match Tbl.look s.lookup.slots n with
            | some e => e.words d.wide
            | none => emZero d.wide) s)).settle) ∧
    (∀ (c : Packet) (s0 : State), Ready.emStatus c s0 = true →
      let s := s0.began 0x0306 c
      let k := Tbl.lookD s.lookup.counts c.obj {}
      exec (.emStatus c) s0 = .next (s.finish 0x0306 c
        (let (vis, used, all) := match Tbl.look s.curSlot.arrays.em c.obj with
          | some d =>
            let es := s.emEntries d
            ((es.filter fun e => visible e.2.birth e.2.death e.2.deathSet s.epoch).length, es.length, d.slots)
          | none => (0, 0, 0)
         .data [wd vis, wd used, wd all, wd k.refused, wd (k.maxMoves + 65536 * k.moved), wd k.noTable, wd k.lookups, wd k.hits]
          (s.emCountM c.obj fun k => { k with lookups := 0, hits := 0 }))).settle) ∧
    (∀ (c : Packet) (s0 : State), Ready.pfxRealmDefine c s0 = true →
      let s := s0.began 0x0310 c
      let en := (c.w 0).bit 31
      let u := (c.w 0).fld 19 0
      exec (.pfxRealmDefine c) s0 = .next (s.finish 0x0310 c (Res.logged 0x0310 c
        (.ok (s.stagedM fun a => { a with realms := if en then Tbl.put a.realms c.obj u else Tbl.del a.realms c.obj })))).settle) ∧
    (∀ (c : Packet) (s0 : State), Ready.pfxAdd c s0 = true →
      let s := s0.began 0x0311 c
      exec (.pfxAdd c) s0 = .next (s.finish 0x0311 c (Res.logged 0x0311 c
        (let t : State := (s.refAct true ((c.w 1).fld 19 0)).lookupM fun k => { k with
           pfx := k.pfx ++ [{ realm := c.obj, v6 := (c.w 0).bit 8, len := (c.w 0).fld 7 0, addr := pfxAddr c, birth := s.vintN, death := 0, deathSet := false, action := (c.w 1).fld 19 0 }] }
         .done .ok (t.pfxUsed c.obj) [] t))).settle) ∧
    (∀ (c : Packet) (s0 : State), Ready.pfxModify c s0 = true →
      let s := s0.began 0x0312 c
      ∀ o, s.pfxExact c.obj ((c.w 0).bit 8) ((c.w 0).fld 7 0) (pfxAddr c) s.vintN = some o →
      exec (.pfxModify c) s0 = .next (s.finish 0x0312 c (Res.logged 0x0312 c
        (if o.birth = s.vintN then
           .done .ok (s.pfxUsed c.obj) [] (((s.refAct false o.action).refAct true ((c.w 1).fld 19 0)).lookupM fun k =>
             { k with pfx := k.pfx.map fun y => if y == o then { y with action := (c.w 1).fld 19 0 } else y })
         else s.pfxNew { o with birth := s.vintN, death := 0, deathSet := false, action := (c.w 1).fld 19 0 } (some o)))).settle) ∧
    (∀ (c : Packet) (s0 : State), Ready.pfxDelete c s0 = true →
      let s := s0.began 0x0313 c
      ∀ o, s.pfxExact c.obj ((c.w 0).bit 8) ((c.w 0).fld 7 0) (pfxAddr c) s.vintN = some o →
      exec (.pfxDelete c) s0 = .next (s.finish 0x0313 c (Res.logged 0x0313 c
        (let t : State := (s.refAct false o.action).lookupM fun k => { k with
           pfx := if o.birth = s.vintN then k.pfx.filter (· != o)
             else k.pfx.map fun y => if y == o then { y with death := s.vintN, deathSet := true } else y }
         .done .ok (t.pfxUsed c.obj) [] t))).settle) ∧
    (∀ (c : Packet) (s0 : State), Ready.pfxSearch c s0 = true →
      let s := s0.began 0x0314 c
      exec (.pfxSearch c) s0 = .next (s.finish 0x0314 c
        (let v6 := (c.w 0).bit 16
         let len := (c.w 0).fld 31 24
         let a := beAt (pktKey c 1 4) 0 (if v6 then 16 else 4)
         let p := if (c.w 0).fld 15 0 = 0 then s.epoch else (c.w 0).fld 15 0
         match (if (c.w 0).bit 17 then s.pfxExact c.obj v6 len (a / 2 ^ (famBits v6 - len) * 2 ^ (famBits v6 - len)) p else s.pfxFind c.obj v6 a p) with
         | none => .data (List.replicate 8 0#32) s
         | some x =>
           .data ([wd (x.len + 0x80000000), wd x.action, wd (x.birth + 65536 * x.death), wd (b2n x.deathSet)]
             ++ bytesWords (bytesAt (beBytes (famBits x.v6 / 8) x.addr) 0 16)) s)).settle) ∧
    (∀ (c : Packet) (s0 : State), Ready.pfxStatus c s0 = true →
      let s := s0.began 0x0316 c
      let mine := s.lookup.pfx.filter fun x => x.realm == c.obj
      exec (.pfxStatus c) s0 = .next (s.finish 0x0316 c
        (.data [wd (s.pfxUsed c.obj), wd (mine.filter fun x => !x.v6).length, wd (mine.filter fun x => x.v6).length,
            wd (524288 - s.pfxAll), wd (Tbl.lookD s.lookup.pfxLookups c.obj 0), wd (Tbl.lookD s.lookup.pfxHits c.obj 0)]
          (s.lookupM fun k => { k with pfxLookups := Tbl.del k.pfxLookups c.obj, pfxHits := Tbl.del k.pfxHits c.obj }))).settle) ∧
    (∀ (c : Packet) (s0 : State), Ready.lookupProfileSet c s0 = true →
      let s := s0.began 0x0320 c
      exec (.lookupProfileSet c) s0 = .next (s.finish 0x0320 c (Res.logged 0x0320 c
        (.ok (s.stagedM fun a => { a with profiles := Tbl.put a.profiles c.obj (c.params.take 2) })))).settle) ∧
    (∀ (c : Packet) (s0 : State), Ready.lookupMapSet c s0 = true →
      let s := s0.began 0x0321 c
      exec (.lookupMapSet c) s0 = .next (s.finish 0x0321 c (Res.logged 0x0321 c
        (.ok (s.stagedM fun a => { a with map := c.params.take 16 })))).settle)

/-- Every one of the associative search commands that passes its checks runs (TCAM_BANK_WIDTH, TCAM_GROUP_DEFINE, TCAM_PROFILE_SET, TCAM_INSERT, TCAM_DELETE, TCAM_READ, TCAM_SEARCH, TCAM_STATUS). -/
def Obligations.TcamCommandsRun : Prop :=
    (∀ (c : Packet) (s0 : State), Ready.tcamBankWidth c s0 = true →
      let s := s0.began 0x0400 c
      let wc := (c.w 0).fld 1 0
      exec (.tcamBankWidth c) s0 = .next (s.finish 0x0400 c
        (.ok (s.tcamM fun t => { t with widths := Tbl.put t.widths c.obj wc }))).settle) ∧
    (∀ (c : Packet) (s0 : State), Ready.tcamGroupDefine c s0 = true →
      let s := s0.began 0x0401 c
      exec (.tcamGroupDefine c) s0 = .next (s.finish 0x0401 c (Res.logged 0x0401 c
        (.ok (s.stagedM fun a => { a with groups := Tbl.del a.groups c.obj })))).settle) ∧
    (∀ (c : Packet) (s0 : State), Ready.tcamGroupDefine2 c s0 = true →
      let s := s0.began 0x0401 c
      let g := tcamGroupOf c
      exec (.tcamGroupDefine c) s0 = .next (s.finish 0x0401 c (Res.logged 0x0401 c
        (.ok (s.stagedM fun a => { a with groups := Tbl.put a.groups c.obj g })))).settle) ∧
    (∀ (c : Packet) (s0 : State), Ready.tcamProfileSet c s0 = true →
      let s := s0.began 0x0402 c
      exec (.tcamProfileSet c) s0 = .next (s.finish 0x0402 c (Res.logged 0x0402 c
        (.ok (s.stagedM fun a => { a with tcamEn := Tbl.put a.tcamEn c.obj ((c.w 0).fld 3 0) })))).settle) ∧
    (∀ (c : Packet) (s0 : State), Ready.tcamInsert c s0 = true →
      let s := s0.began 0x0403 c
      let row := entryRow c
      let wc := s.tcam.widthOf (row / 2048)
      let w := tcamUnits wc
      let key := pktKey c 1 (5 * w)
      let mask := pktKey c (1 + 5 * w) (5 * w)
      let t := s.readEntry row
      let birth := match Tbl.look t.tcam.ents row with
        | some e => e.birth
        | none => 0
      exec (.tcamInsert c) s0 = .next (s.finish 0x0403 c (Res.logged 0x0403 c
        (let e : TcamEnt := { width := wc, key := key, mask := mask, birth := t.vintN, death := 0, deathSet := false, action := (c.w 0).fld 19 0 }
         .ok ((((t.tcamClear row).tcamM fun k => { k with ents := Tbl.put k.ents row e }).tcamPlant row).refAct true e.action)))).settle) ∧
    (∀ (c : Packet) (s0 : State), Ready.tcamDelete c s0 = true →
      let s := s0.began 0x0404 c
      ∀ e, Tbl.look (s.readEntry (entryRow c)).tcam.ents (entryRow c) = some e →
      exec (.tcamDelete c) s0 = .next (s.finish 0x0404 c (Res.logged 0x0404 c
        (let t := s.readEntry (entryRow c)
         .ok (if e.birth = t.vintN then (t.refAct false e.action).tcamClear (entryRow c)
          else ((t.refAct false e.action).tcamM fun k =>
            { k with ents := Tbl.put k.ents (entryRow c) { e with death := t.vintN, deathSet := true } }).tcamPlant (entryRow c))))).settle) ∧
    (∀ (c : Packet) (s0 : State), Ready.tcamRead c s0 = true →
      let s := s0.began 0x0405 c
      exec (.tcamRead c) s0 = .next (s.finish 0x0405 c
        (let row := entryRow c
         let h := s.tcam.headOf row
         let wc := s.tcam.widthOf (row / 2048)
         let w := tcamUnits wc
         let (_, s) := s.tcamShadow h (s.tcam.rowsAt h) 0x10 1
         let t := s.tcam
         let st := b2n (t.same false h) + 2 * b2n (t.same true h) + 4 * b2n (t.repairA.contains h || t.repairB.contains h)
         let w0 := wd (h / 2048 + 65536 * (h % 2048) + 268435456 * wc)
         match Tbl.look t.ents h with
         | some e =>
           .data ([w0] ++ bytesWords ((t.record h).drop 32) ++ [wd st]
             ++ bytesWords e.key ++ bytesWords e.mask) s
         | none => .data ([w0, 0#32, 0#32, wd st] ++ List.replicate (10 * w) 0#32) s)).settle) ∧
    (∀ (c : Packet) (s0 : State), Ready.tcamSearch c s0 = true →
      let s := s0.began 0x0406 c
      ∀ a, s.tcamArrays ((c.w 0).fld 15 0) = some a →
      ∀ g, Tbl.look a.groups c.obj = some g →
      exec (.tcamSearch c) s0 = .next (s.finish 0x0406 c
        (let w := tcamUnits g.width
         let p := if (c.w 0).fld 15 0 = 0 then s.epoch else (c.w 0).fld 15 0
         let key := pktKey c 3 (5 * w)
         let ca := s.tcam.candidates false g key
         let cb := s.tcam.candidates true g key
         let from_ := g.rank ((c.w 1).fld 5 0 * 2048 + (c.w 1).fld 26 16)
         let hs := (g.order.flatMap fun b => sortNat ((ca ++ cb.filter fun h => !ca.contains h).filter fun h => h / 2048 == b)).filter fun h => !(c.w 1).bit 31 || decide (from_ < g.rank h)
         let r := s.tcamReport c.obj g key p ((c.w 0).bit 16) ca cb ((c.w 2).fld 6 0) hs []
         .data (wd (r.1.length / 3 + 2147483648 * b2n r.2.1) :: r.1) r.2.2)).settle) ∧
    (∀ (c : Packet) (s0 : State), Ready.tcamStatus c s0 = true →
      let s := s0.began 0x0407 c
      let k := Tbl.lookD s.tcam.counts c.obj {}
      exec (.tcamStatus c) s0 = .next (s.finish 0x0407 c
        (if c.obj = 4 then .data (s.tcam.device.map wd) s
        else .data [wd k.searches, wd k.hits, wd k.multi, wd k.stepLimit, wd k.stale, wd k.noGroup]
          (s.tcamGroupM c.obj fun k => { k with searches := 0, hits := 0 }))).settle)

/-- Every one of the vintage commands that passes its checks runs (VINT_OPEN, VINT_STAGE, VINT_COMMIT, VINT_ABORT, VINT_STATUS, VINT_COMMIT_AT). -/
def Obligations.VintageCommandsRun : Prop :=
    (∀ (c : Packet) (s0 : State), Ready.vintOpen c s0 = true →
      let s := s0.began 0x0500 c
      exec (.vintOpen c) s0 = .next (s.finish 0x0500 c
        (if s.freeRegions = 0 then .pend 0 s else .data [wd s.openNext.1] s.openNext.2)).settle) ∧
    (∀ (c : Packet) (s0 : State), Ready.vintStage c s0 = true →
      let s := s0.began 0x0501 c
      exec (.vintStage c) s0 = .next (s.finish 0x0501 c
        (stageRun c (c.params.length + 1) 0 0 c.params s)).settle) ∧
    (∀ (c : Packet) (s0 : State), Ready.vintCommit c s0 = true →
      let s := s0.began 0x0502 c
      ∀ v, s.vin.vint = some v →
      exec (.vintCommit c) s0 = .next (s.finish 0x0502 c
        (let t : State := (s.vintM fun v => { v with at? := none, atOnce := false }).commitSlot
         if t.vin.vint.isNone then .done .ok 0 (commitWords ((t.vin.last).getD v) t.ns32) t
         else .pend 0 t)).settle) ∧
    (∀ (c : Packet) (s0 : State), Ready.vintCommit2 c s0 = true →
      let s := s0.began 0x0502 c
      ∀ v, s.vin.vint = some v →
      exec (.vintCommit c) s0 = .next (s.finish 0x0502 c
        (let t : State := (s.vintM fun v => { v with standalone := true }).commitCycle .ok 0
         .data (commitWords { v with standalone := true } t.ns32) t)).settle) ∧
    (∀ (c : Packet) (s0 : State), Ready.vintAbort c s0 = true →
      let s := s0.began 0x0503 c
      ∀ v, s.vin.vint = some v →
      exec (.vintAbort c) s0 = .next (s.finish 0x0503 c
        (.data [wd v.ops] (if s.mode.mode == .twinActive then s.twinSend 0 0x16 (leBytes 4 v.handle) else s).abortVint)).settle) ∧
    (∀ (c : Packet) (s0 : State), Ready.vintStatus c s0 = true →
      let s := s0.began 0x0504 c
      exec (.vintStatus c) s0 = .next (s.finish 0x0504 c
        (.data (s.vintWords (match s.vin.vint with
           | some v => some v
           | none => s.vin.last)) s.drawn)).settle) ∧
    (∀ (c : Packet) (s0 : State), Ready.vintStatus2 c s0 = true →
      let s := s0.began 0x0504 c
      ∀ v, ([s.vin.vint, s.vin.last].findSome? fun o => o.filter fun (v : Vintage) => v.handle == c.handle.toNat) = some v →
      exec (.vintStatus c) s0 = .next (s.finish 0x0504 c
        (.data (s.vintWords (some v)) s.drawn)).settle) ∧
    (∀ (c : Packet) (s0 : State), Ready.vintCommitAt c s0 = true →
      let s := s0.began 0x0505 c
      ∀ v, s.vin.vint = some v →
      exec (.vintCommitAt c) s0 = .next (s.finish 0x0505 c
        (let t : State := (s.vintM fun v => { v with at? := some ((c.n 0 + 1000000000 * (c.n 1 + 4294967296 * (c.w 2).fld 15 0)) * 65536), atOnce := decide ((c.n 0 + 1000000000 * (c.n 1 + 4294967296 * (c.w 2).fld 15 0)) * 65536 < s.time.line.t + 131072000) }).commitSlot
         if t.vin.vint.isNone then .done .okAdjusted (lateOf ((c.n 0 + 1000000000 * (c.n 1 + 4294967296 * (c.w 2).fld 15 0)) * 65536) s.time.line.t).2 (commitWords ((t.vin.last).getD v) t.ns32) t
         else .pend 0 t)).settle) ∧
    (∀ (c : Packet) (s0 : State), Ready.vintCommitAt2 c s0 = true →
      let s := s0.began 0x0505 c
      ∀ v, s.vin.vint = some v →
      exec (.vintCommitAt c) s0 = .next (s.finish 0x0505 c
        (let t : State := (s.vintM fun v => { v with standalone := true }).commitCycle .ok 0
         .data (commitWords { v with standalone := true } t.ns32) t)).settle)

/-- Every one of the action commands that passes its checks runs (ACT_WRITE, ACT_DELETE, ACT_READ, TEMPLATE_WRITE, TEMPLATE_DELETE, NEXTHOP_WRITE, NEXTHOP_DELETE, MIRROR_SESSION_SET, BYPASS_CLASS_SET, METER_PROFILE_SET, METER_SET, METER_READ, ACTION_CONFIG, ACT_STATUS, REASON_COUNTS). -/
def Obligations.ActionCommandsRun : Prop :=
    (∀ (c : Packet) (s0 : State), Ready.actWrite c s0 = true →
      let s := s0.began 0x0600 c
      let a := c.params
      let n := s.vintN
      let old := Tbl.look s.act.acts c.obj
      let mine := (old.map fun (e : ActEnt) => e.birth == n) == some true
      exec (.actWrite c) s0 = .next (s.finish 0x0600 c (Res.logged 0x0600 c
        (let s := match old with
          | some e => if mine then s.refsOfAct false none e.words else s
          | none => s
         let e : ActEnt := { birth := n, death := 0, deathSet := false, words := a, refs := s.trueRefs c.obj }
         .ok ((s.actM fun k => { k with acts := Tbl.put k.acts c.obj e }).refsOfAct true none a)))).settle) ∧
    (∀ (c : Packet) (s0 : State), Ready.actDelete c s0 = true →
      let s := s0.began 0x0601 c
      ∀ e, s.actAt c.obj s.vintN = some e →
      exec (.actDelete c) s0 = .next (s.finish 0x0601 c (Res.logged 0x0601 c
        (if e.birth = s.vintN then .ok ((s.refsOfAct false none e.words).actM fun k => { k with acts := Tbl.del k.acts c.obj })
         else .ok ((s.refsOfAct false (some s.vintN) e.words).actM fun k =>
           { k with acts := Tbl.upd k.acts c.obj e fun x => { x with death := s.vintN, deathSet := true } })))).settle) ∧
    (∀ (c : Packet) (s0 : State), Ready.actRead c s0 = true →
      let s := s0.began 0x0602 c
      let kind := c.obj / 1073741824
      let i := c.obj % 131072
      exec (.actRead c) s0 = .next (s.finish 0x0602 c
        (.data (match kind with
          | 0 => (match Tbl.look s.act.acts i with
            | some e => wd (e.birth + 65536 * e.death) :: wd ((nth e.words 0 0#32).toNat + 2 * b2n e.deathSet) :: (e.words.drop 1).take 5
                ++ [wd ((nth e.words 6 0#32).toNat + 65536 * e.refs)]
            | none => List.replicate 8 0#32)
          | 1 => (match Tbl.look s.act.tmpls i with
            | some e => wd (e.birth + 65536 * e.death) :: wd (1 + 2 * b2n e.deathSet + 256 * e.len + 65536 * e.refs) :: bytesWords e.data
            | none => List.replicate 34 0#32)
          | 2 => (match Tbl.look s.act.hops i with
            | some e => [wd (e.birth + 65536 * e.death), wd ((nth e.words 0 0#32).toNat + 2 * b2n e.deathSet), nth e.words 1 0#32,
                wd ((nth e.words 2 0#32).toNat + 65536 * e.refs)]
            | none => List.replicate 4 0#32)
          | _ => (s.mirrorPos i).flatMap fun m => wd (m.birth + 65536 * m.death) :: m.words) s)).settle) ∧
    (∀ (c : Packet) (s0 : State), Ready.templateWrite c s0 = true →
      let s := s0.began 0x0603 c
      let n := s.vintN
      exec (.templateWrite c) s0 = .next (s.finish 0x0603 c (Res.logged 0x0603 c
        (let e : Template := { birth := n, death := 0, deathSet := false, len := (c.w 0).fld 7 0, data := pktKey c 1 32, refs := s.tmplRefs c.obj }
         .ok (s.actM fun k => { k with tmpls := Tbl.put k.tmpls c.obj e })))).settle) ∧
    (∀ (c : Packet) (s0 : State), Ready.templateDelete c s0 = true →
      let s := s0.began 0x0604 c
      ∀ e, s.tmplAt c.obj s.vintN = some e →
      exec (.templateDelete c) s0 = .next (s.finish 0x0604 c (Res.logged 0x0604 c
        (if e.birth = s.vintN then .ok (s.actM fun k => { k with tmpls := Tbl.del k.tmpls c.obj })
         else .ok (s.actM fun k => { k with tmpls := Tbl.put k.tmpls c.obj { e with death := s.vintN, deathSet := true } })))).settle) ∧
    (∀ (c : Packet) (s0 : State), Ready.nexthopWrite c s0 = true →
      let s := s0.began 0x0605 c
      let n := s.vintN
      let old := Tbl.look s.act.hops c.obj
      let mine := (old.map fun (e : NextHop) => e.birth == n) == some true
      exec (.nexthopWrite c) s0 = .next (s.finish 0x0605 c (Res.logged 0x0605 c
        (let s := match old with
          | some e => if mine then s.refsOfHop false none e.words else s
          | none => s
         let e : NextHop := { birth := n, death := 0, deathSet := false, words := c.params, refs := s.hopRefs c.obj }
         .ok ((s.actM fun k => { k with hops := Tbl.put k.hops c.obj e }).refsOfHop true none c.params)))).settle) ∧
    (∀ (c : Packet) (s0 : State), Ready.nexthopDelete c s0 = true →
      let s := s0.began 0x0606 c
      ∀ e, s.hopAt c.obj s.vintN = some e →
      exec (.nexthopDelete c) s0 = .next (s.finish 0x0606 c (Res.logged 0x0606 c
        (if e.birth = s.vintN then .ok ((s.refsOfHop false none e.words).actM fun k => { k with hops := Tbl.del k.hops c.obj })
         else .ok ((s.refsOfHop false (some s.vintN) e.words).actM fun k =>
           { k with hops := Tbl.put k.hops c.obj { e with death := s.vintN, deathSet := true } })))).settle) ∧
    (∀ (c : Packet) (s0 : State), Ready.mirrorSessionSet c s0 = true →
      let s := s0.began 0x0607 c
      ∀ i, ((List.range 4).find? fun i => (nth (s.mirrorPos c.obj) i {}).at_ s.vintN) = some i →
      exec (.mirrorSessionSet c) s0 = .next (s.finish 0x0607 c (Res.logged 0x0607 c
        (.ok (((s.refsOfMirror false none (nth (s.mirrorPos c.obj) i {}).words).actM fun k => { k with
          mirrors := Tbl.put k.mirrors c.obj (updAt (s.mirrorPos c.obj) i fun _ => { birth := s.vintN, death := 0, words := c.params }) }).refsOfMirror
          true none c.params)))).settle) ∧
    (∀ (c : Packet) (s0 : State), Ready.mirrorSessionSet2 c s0 = true →
      let s := s0.began 0x0607 c
      ∀ i, ((List.range 4).find? fun i => (nth (s.mirrorPos c.obj) i {}).at_ s.vintN) = some i →
      ∀ j, s.mirrorFree c.obj = some j →
      exec (.mirrorSessionSet c) s0 = .next (s.finish 0x0607 c (Res.logged 0x0607 c
        (.ok (((s.refsOfMirror false (some s.vintN) (nth (s.mirrorPos c.obj) i {}).words).actM fun k => { k with
          mirrors := Tbl.put k.mirrors c.obj (updAt (updAt (s.mirrorPos c.obj) i fun _ => { nth (s.mirrorPos c.obj) i {} with death := s.vintN }) j
            fun _ => { birth := s.vintN, death := 0, words := c.params }) }).refsOfMirror true none c.params)))).settle) ∧
    (∀ (c : Packet) (s0 : State), Ready.mirrorSessionSet3 c s0 = true →
      let s := s0.began 0x0607 c
      ∀ j, s.mirrorFree c.obj = some j →
      exec (.mirrorSessionSet c) s0 = .next (s.finish 0x0607 c (Res.logged 0x0607 c
        (.ok ((s.actM fun k => { k with
          mirrors := Tbl.put k.mirrors c.obj (updAt (s.mirrorPos c.obj) j fun _ => { birth := s.vintN, death := 0, words := c.params }) }).refsOfMirror
          true none c.params)))).settle) ∧
    (∀ (c : Packet) (s0 : State), Ready.bypassClassSet c s0 = true →
      let s := s0.began 0x0608 c
      exec (.bypassClassSet c) s0 = .next (s.finish 0x0608 c (Res.logged 0x0608 c
        (.ok (s.stagedM fun a => { a with bypass := (c.w 0).fld 3 0 })))).settle) ∧
    (∀ (c : Packet) (s0 : State), Ready.meterProfileSet c s0 = true →
      let s := s0.began 0x0609 c
      exec (.meterProfileSet c) s0 = .next (s.finish 0x0609 c
        (.ok (s.actM fun a => { a with mprofiles := Tbl.put a.mprofiles c.obj c.params }))).settle) ∧
    (∀ (c : Packet) (s0 : State), Ready.meterSet c s0 = true →
      let s := s0.began 0x060A c
      let m := Tbl.lookD s.act.meters c.obj {}
      let pi := (c.w 0).fld 11 0
      let en := (c.w 0).bit 15
      let p := Tbl.lookD s.act.mprofiles pi []
      let fill := (en && !m.enable) || (c.w 0).bit 16
      exec (.meterSet c) s0 = .next (s.finish 0x060A c
        (.ok (s.actM fun a => { a with meters := Tbl.put a.meters c.obj { m with
          profile := pi, enable := en
          cb := if fill then 256 * (nth p 3 0#32).toNat else m.cb
          pb := if fill then 256 * (nth p 4 0#32).toNat else m.pb
          clock := if fill then s.time.core else m.clock } }))).settle) ∧
    (∀ (c : Packet) (s0 : State), Ready.meterRead c s0 = true →
      let s := s0.began 0x060B c
      let m := Tbl.lookD s.act.meters c.obj {}
      exec (.meterRead c) s0 = .next (s.finish 0x060B c
        (.data [wd m.cb, wd m.pb, wd m.clock, wd (m.profile + 32768 * b2n m.enable + 65536 * m.refs)] s)).settle) ∧
    (∀ (c : Packet) (s0 : State), Ready.actionConfig c s0 = true →
      let s := s0.began 0x060C c
      let q := (c.w 0).fld 31 16
      exec (.actionConfig c) s0 = .next (s.finish 0x060C c
        (let old := s.act.hostQueue
         let s := if old = 65535 then s else s.refQueue false old
         let s := if q = 65535 then s else s.refQueue true q
         .ok (s.actM fun a => { a with ttlToHost := (c.w 0).bit 0, bypassStrict := (c.w 0).bit 1, hostQueue := q }))).settle) ∧
    (∀ (c : Packet) (s0 : State), Ready.actStatus c s0 = true →
      let s := s0.began 0x060D c
      exec (.actStatus c) s0 = .next (s.finish 0x060D c
        (.data (s.act.counts.map wd) s)).settle) ∧
    (∀ (c : Packet) (s0 : State), Ready.reasonCounts c s0 = true →
      let s := s0.began 0x060E c
      exec (.reasonCounts c) s0 = .next (s.finish 0x060E c
        (.data ((List.range 256).map fun r => wd (Tbl.lookD (if c.obj = 0 then s.act.drops else s.act.toHost) r 0)) s)).settle)

/-- Every one of the cipher commands that passes its checks runs (SA_INSTALL, SA_RETIRE, SA_SWITCH, SA_READ, SA_SPILL_POLICY, CIPHER_PORT_SET, BINDING_READ, CIPHER_STATUS). -/
def Obligations.CipherCommandsRun : Prop :=
    (∀ (c : Packet) (s0 : State), Ready.saInstall c s0 = true →
      let s := s0.began 0x0700 c
      ∀ key, Aes.unwrap (s.cmds.kwk.getD []) ((wordsBytes (c.params.drop 16)).take (if (c.w 0).bit 3 then 40 else 24)) = some key →
      ∀ d t, s.placeSa c.obj (installCtx c key ((s.cip.installs + 1) % 4294967296)) = .ok (d, t) →
      exec (.saInstall c) s0 = .next (s.finish 0x0700 c
        (let inMac := !(c.w 0).bit 0 && !(c.w 0).bit 1
         let u : State := t.cipM fun k => { k with installs := s.cip.installs + 1 }
         let u : State := if u.mirrors then
             (if inMac then (u.sendContext c.obj (installCtx c key ((s.cip.installs + 1) % 4294967296))).sendSci ((c.w 1).fld 2 0) ((c.w 1).fld 13 8)
                 (beNat (wordsBytes [c.w 4, c.w 5]))
              else u.sendContext c.obj (installCtx c key ((s.cip.installs + 1) % 4294967296)))
           else u
         mirrored c d (.install c.obj) u)).settle) ∧
    (∀ (c : Packet) (s0 : State), Ready.saRetire c s0 = true →
      let s := s0.began 0x0701 c
      ∀ r, s.sa c.obj = some r →
      exec (.saRetire c) s0 = .next (s.finish 0x0701 c
        (let slot := s.sciSlot c.obj
         let t : State := (s.clearSci c.obj).saM c.obj fun r => { r with retiring := true }
         let t : State := if t.mirrors then
             (match slot with
              | some (g, p, sci, _, _) => (t.sendRetire c.obj).sendSci g p sci
              | none => t.sendRetire c.obj)
           else t
         let t : State := if t.mode.mode = .twinActive then
             t.twinM fun k => { k with
               waits := k.waits ++ [{ path := c.path, tag := c.tagNo, counter := t.twin.mirrorSent, detail := 0, undo := .retire c.obj slot }] }
           else t
         if r.refs ≠ 0 ∨ r.fetching then .pend 0 t
         else if t.retireWaits c.obj then .hold 0 t
         else .ok ((t.removeSa c.obj).cipM fun k => { k with retirements := sat32 k.retirements }))).settle) ∧
    (∀ (c : Packet) (s0 : State), Ready.saSwitch c s0 = true →
      let s := s0.began 0x0702 c
      exec (.saSwitch c) s0 = .next (s.finish 0x0702 c
        (match s.binding c.obj, s.boundSa c.obj with
         | some e, some o =>
           let t : State := (s.cipM fun k => { k with bindings := Tbl.put k.bindings c.obj { e with valid := false } }).freezeSa o
           mirrored c o (.switch c.obj (some e)) (if t.mirrors then t.sendBinding c.obj else t)
         | _, _ => .done .ok 0xFFFFFFFF [] s)).settle) ∧
    (∀ (c : Packet) (s0 : State), Ready.saSwitch2 c s0 = true →
      let s := s0.began 0x0702 c
      exec (.saSwitch c) s0 = .next (s.finish 0x0702 c
        (.done .ok ((c.w 0).fld 21 0) [] s)).settle) ∧
    (∀ (c : Packet) (s0 : State), Ready.saSwitch3 c s0 = true →
      let s := s0.began 0x0702 c
      ∀ r, s.sa ((c.w 0).fld 21 0) = some r →
      ∀ a, r.ctx = some a →
      exec (.saSwitch c) s0 = .next (s.finish 0x0702 c
        (let t : State := s.bindTo c.obj ((c.w 0).fld 21 0) a
         let t : State := match s.boundSa c.obj with
           | some o => t.freezeSa o
           | none => t
         mirrored c ((s.boundSa c.obj).getD 0xFFFFFFFF) (.switch c.obj (s.binding c.obj)) (if t.mirrors then t.sendBinding c.obj else t))).settle) ∧
    (∀ (c : Packet) (s0 : State), Ready.saRead c s0 = true →
      let s := s0.began 0x0703 c
      ∀ r, s.sa c.obj = some r →
      exec (.saRead c) s0 = .next (s.finish 0x0703 c
        (.data (bytesWords (saShow c.obj (r.ctx.map fun a => { a with pin := s.saPinned r }) r)
          ++ [wd (b2n (r.ctx.isSome || r.lost) + 2 * b2n (r.ctx.isNone && !r.lost) + 4 * b2n r.lost + 8 * b2n (s.saPinned r) + 16 * b2n r.retiring),
             wd ((s.bindingOf c.obj).getD 0xFFFFFFFF)]) s)).settle) ∧
    (∀ (c : Packet) (s0 : State), Ready.saRead2 c s0 = true →
      let s := s0.began 0x0703 c
      ∀ r, s.sa c.obj = some r →
      ∀ n a t, s.openRec c.obj = (some (n, a), t) →
      exec (.saRead c) s0 = .next (s.finish 0x0703 c
        (.data (bytesWords (saShow c.obj (some a) r)
          ++ [wd (b2n (r.ctx.isSome || r.lost) + 2 * b2n (r.ctx.isNone && !r.lost) + 4 * b2n r.lost + 8 * b2n (s.saPinned r) + 16 * b2n r.retiring),
             wd ((s.bindingOf c.obj).getD 0xFFFFFFFF)]) t)).settle) ∧
    (∀ (c : Packet) (s0 : State), Ready.saSpillPolicy c s0 = true →
      let s := s0.began 0x0704 c
      exec (.saSpillPolicy c) s0 = .next (s.finish 0x0704 c
        (.ok (s.cipM fun k => { k with
          spillEnable := (c.w 0).bit 0, pinEspInbound := (c.w 0).bit 1, spillBase := c.n 1 + 4294967296 * c.n 2, spillPlaced := true }))).settle) ∧
    (∀ (c : Packet) (s0 : State), Ready.saSpillPolicy2 c s0 = true →
      let s := s0.began 0x0704 c
      ∀ r, s.sa c.obj = some r →
      exec (.saSpillPolicy c) s0 = .next (s.finish 0x0704 c
        (.ok (if s.saPinned r && r.ctx.isSome then ((s.saM c.obj fun r => { r with pin := true }).ctxM c.obj fun a => { a with pin := true })
          else (((s.fetchSa c.obj).2.saM c.obj fun r => { r with pin := true }).ctxM c.obj fun a => { a with pin := true })))).settle) ∧
    (∀ (c : Packet) (s0 : State), Ready.saSpillPolicy3 c s0 = true →
      let s := s0.began 0x0704 c
      exec (.saSpillPolicy c) s0 = .next (s.finish 0x0704 c
        (.ok ((s.saM c.obj fun r => { r with pin := false }).ctxM c.obj fun a => { a with pin := false }))).settle) ∧
    (∀ (c : Packet) (s0 : State), Ready.cipherPortSet c s0 = true →
      let s := s0.began 0x0705 c
      exec (.cipherPortSet c) s0 = .next (s.finish 0x0705 c
        (let t : State := s.cipM fun k => { k with ports := Tbl.put k.ports c.obj { accept := (c.w 0).fld 1 0, landUnprotected := (c.w 0).bit 2 } }
         mirrored c 0 (.port c.obj (Tbl.lookD s.cip.ports c.obj {})) (if t.mirrors then t.sendPort c.obj else t))).settle) ∧
    (∀ (c : Packet) (s0 : State), Ready.bindingRead c s0 = true →
      let s := s0.began 0x0706 c
      exec (.bindingRead c) s0 = .next (s.finish 0x0706 c
        (.data (bytesWords (s.bindingBytes c.obj)) s)).settle) ∧
    (∀ (c : Packet) (s0 : State), Ready.cipherStatus c s0 = true →
      let s := s0.began 0x0707 c
      exec (.cipherStatus c) s0 = .next (s.finish 0x0707 c
        (.data (if c.obj < 8 then (s.cipCounts c.obj).map wd
          else
            let n (f : SaRes → Bool) : Word := wd (s.cip.sas.filter fun e => f e.2).length
            [n (fun r => r.ctx.isSome || r.lost), n (fun r => (r.ctx.isSome || r.lost) && s.saPinned r), wd s.spilled, wd s.windowSlots.length,
             wd (nth s.cip.device 0 0), wd (nth s.cip.device 1 0), wd (nth s.cip.device 2 0), wd (nth s.cip.device 3 0)]) s)).settle)

/-- Every one of the crosspoint core and buffer pool commands that passes its checks runs (CORE_XP_SET, CORE_COLUMN_SET, CORE_XP_STATUS, CORE_COLUMN_STATUS, CORE_PORT_FLUSH, CORE_PORT_STATUS, POOL_CARVE, POOL_COLUMN_SET, POOL_MODE_SET, POOL_QUOTA_SET, POOL_STATUS, POOL_BUFFER_READ, POOL_QUARANTINE_RELEASE). -/
def Obligations.CoreCommandsRun : Prop :=
    (∀ (c : Packet) (s0 : State), Ready.coreXpSet c s0 = true →
      let s := s0.began 0x0800 c
      let src := c.obj / 16
      let col := c.obj % 16
      let r := (c.w 0).fld 15 0
      let l := (c.w 0).fld 31 16
      exec (.coreXpSet c) s0 = .next (s.finish 0x0800 c
        (let old := (s.xp src col).rmin
         let s := s.xpM src col fun x => { x with rmin := r, slimit := l }
         let others := sumL ((List.range 11).map fun x => if x = src then 0 else (s.xp x col).pending)
         let p := (s.xp src col).pending
         let due := s.sharedUse col - s.region col - others
         .ok ((s.xpM src col fun x => { x with pending := min (p + (r - old)) due }).fixPending col))).settle) ∧
    (∀ (c : Packet) (s0 : State), Ready.coreColumnSet c s0 = true →
      let s := s0.began 0x0801 c
      let h := (c.w 0).fld 31 16
      exec (.coreColumnSet c) s0 = .next (s.finish 0x0801 c
        (.ok (s.colM c.obj fun k => { k with alpha := (c.w 0).fld 2 0, holdUnits := h }))).settle) ∧
    (∀ (c : Packet) (s0 : State), Ready.coreXpStatus c s0 = true →
      let s := s0.began 0x0802 c
      let src := c.obj / 16
      let col := c.obj % 16
      let x := s.xp src col
      exec (.coreXpStatus c) s0 = .next (s.finish 0x0802 c
        (.data [wd (s.rUsed src col + 65536 * s.sUsed src col), wd (x.peak + 65536 * x.pending), wd x.residue.length, wd x.aged, wd x.resFull,
            wd x.noCredit, wd x.written, wd x.waits]
          (s.xpM src col fun x => { x with peak := (s.col col).occ src, waits := 0 }))).settle) ∧
    (∀ (c : Packet) (s0 : State), Ready.coreColumnStatus c s0 = true →
      let s := s0.began 0x0803 c
      let k := s.col c.obj
      let held := if c.obj = 9 then sumL (s.frag.held.map (·.units)) else 0
      exec (.coreColumnStatus c) s0 = .next (s.finish 0x0803 c
        (.data [wd (k.inUse + 65536 * s.region c.obj), wd (s.sharedUse c.obj + 65536 * held), wd k.peak, wd k.flushed, wd k.flushDrops,
            wd k.writeClocks, wd k.grantWaits, wd (k.alpha + 8 * b2n s.core.compat)]
          (s.colM c.obj fun k => { k with peak := k.inUse, writeClocks := 0, grantWaits := 0 }))).settle) ∧
    (∀ (c : Packet) (s0 : State), Ready.corePortFlush c s0 = true →
      let s := s0.began 0x0804 c
      let p := c.obj
      exec (.corePortFlush c) s0 = .next (s.finish 0x0804 c
        (let s := (s.enterFlush p).cportM p fun k => { k with cmdFlush := true }
         .pend 0 (if s.mayRun p then s.leaveFlush p else s))).settle) ∧
    (∀ (c : Packet) (s0 : State), Ready.corePortStatus c s0 = true →
      let s := s0.began 0x0805 c
      let p := c.obj
      let k := s.cport p
      exec (.corePortStatus c) s0 = .next (s.finish 0x0805 c
        (.data ([wd ((s.egress p).code + 4 * b2n (s.portLink p) + 8 * b2n k.cmdFlush), wd k.marked.length] ++ w64 k.downDiscards) s)).settle) ∧
    (∀ (c : Packet) (s0 : State), Ready.poolCarve c s0 = true →
      let s := s0.began 0x0810 c
      let w := c.w 0
      let new := [w.fld 9 0, w.fld 19 10, w.fld 29 20]
      let k := s.col c.obj
      exec (.poolCarve c) s0 = .next (s.finish 0x0810 c
        (if new = k.segs then .ok s
         else
          .pend 0 (s.colM c.obj fun k => k.carveStart new))).settle) ∧
    (∀ (c : Packet) (s0 : State), Ready.poolColumnSet c s0 = true →
      let s := s0.began 0x0811 c
      exec (.poolColumnSet c) s0 = .next (s.finish 0x0811 c
        (.ok (s.colM c.obj fun k => { k with fallback := (c.w 0).bit 0 }))).settle) ∧
    (∀ (c : Packet) (s0 : State), Ready.poolModeSet c s0 = true →
      let s := s0.began 0x0812 c
      let on := (c.w 0).bit 0
      exec (.poolModeSet c) s0 = .next (s.finish 0x0812 c
        (if on = s.core.compat then .ok s
         else .ok (s.coreM fun k => { k with compat := on, cols := k.cols.map fun x => { x with quota := if on then x.quotas else [] } }))).settle) ∧
    (∀ (c : Packet) (s0 : State), Ready.poolQuotaSet c s0 = true →
      let s := s0.began 0x0813 c
      let src := c.obj / 16
      let col := c.obj % 16
      let k := s.col col
      let new := (List.range 4).foldl (fun t p => Tbl.put t (4 * src + p) ((c.w p).fld 15 0)) k.quota
      exec (.poolQuotaSet c) s0 = .next (s.finish 0x0813 c
        (.ok (s.colM col fun k => { k with quota := new }))).settle) ∧
    (∀ (c : Packet) (s0 : State), Ready.poolStatus c s0 = true →
      let s := s0.began 0x0814 c
      let k := s.col c.obj
      let n (i : Nat) : Word := wd (nth k.counts i 0)
      exec (.poolStatus c) s0 = .next (s.finish 0x0814 c
        (.data ((List.range 4).map (fun p => wd (k.segsOf p + 65536 * k.freeCount p))
          ++ [wd (k.guardsFree + 65536 * b2n k.fallback + 131072 * b2n s.core.compat + 262144 * b2n k.carve.isSome),
              wd (k.quarUnits + 65536 * k.quarBufs.length), n 0, n 1, n 2, n 3, n 4, n 5, n 6, n 7, wd (min k.lowFree k.minFree),
              wd (k.bufs.filter fun e => e.2.refs != 0).length])
          (s.colM c.obj fun k => { k with lowFree := k.minFree }))).settle) ∧
    (∀ (c : Packet) (s0 : State), Ready.poolBufferRead c s0 = true →
      let s := s0.began 0x0815 c
      let col := c.obj % 16
      let unit := c.obj / 16
      let k := s.col col
      let p := k.segPool (unit / 64)
      let h := k.header unit p
      let bad := match Tbl.look k.bufs unit with
        | some b => b.parityBad
        | none => false
      exec (.poolBufferRead c) s0 = .next (s.finish 0x0815 c
        (.data [wd (h + 2147483648 * b2n ((popCnt 31 h % 2 == 1) != bad)),
            wd (match Tbl.look k.bufs unit with
              | some b => if b.refs = 0 then k.link col unit p else 0
              | none => k.link col unit p)] s)).settle) ∧
    (∀ (c : Packet) (s0 : State), Ready.poolQuarantineRelease c s0 = true →
      let s := s0.began 0x0816 c
      let go := (s.col c.obj).quarBufs.filter fun e => e.2.refs == 0
      exec (.poolQuarantineRelease c) s0 = .next (s.finish 0x0816 c
        (let s := s.colM c.obj fun k => go.foldl (fun k e => Column.release k e.1) k
         .data [wd go.length] ((s.carveGo c.obj).fixPending c.obj))).settle)

/-- Every one of the scheduler commands that passes its checks runs (SCHED_PORT_SET, SCHED_GROUP_SET, SCHED_QUEUE_SET, SCHED_PORT_STATUS, SCHED_GROUP_STATUS, SCHED_QUEUE_STATUS, SCHED_QUEUE_STATS, SCHED_STATUS, SCHED_SAMPLE_RING_SET, SCHED_SAMPLE_READ). -/
def Obligations.SchedulerCommandsRun : Prop :=
    (∀ (c : Packet) (s0 : State), Ready.schedPortSet c s0 = true →
      let s := s0.began 0x0900 c
      let p := c.obj
      let en := (c.w 0).bit 8
      let half (k : Nat) : Nat × Nat × Nat := (1 + k / 2, 16 * (k % 2) + 15, 16 * (k % 2))
      exec (.schedPortSet c) s0 = .next (s.finish 0x0900 c
        (.ok (s.nodeM p fun n => { n with
          spMask := (c.w 0).fld 7 0, adjust := sgn 8 ((c.w 0).fld 23 16)
          quanta := (List.range 8).map fun k => (c.w (half k).1).fld (half k).2.1 (half k).2.2
          shaper := n.shaper.set en (c.n 5) (c.n 6) }))).settle) ∧
    (∀ (c : Packet) (s0 : State), Ready.schedGroupSet c s0 = true →
      let s := s0.began 0x0901 c
      let g := c.obj
      let x := s.sgrp g
      exec (.schedGroupSet c) s0 = .next (s.finish 0x0901 c
        (.ok (s.sgrpM g fun x => { x with en := false, shaper := {}, deficit := 0 }))).settle) ∧
    (∀ (c : Packet) (s0 : State), Ready.schedGroupSet2 c s0 = true →
      let s := s0.began 0x0901 c
      let g := c.obj
      let w := c.w 0
      let x := s.sgrp g
      let port := w.fld 14 8
      exec (.schedGroupSet c) s0 = .next (s.finish 0x0901 c
        (.ok (s.sgrpM g fun y => { y with
          en := true, port := port, cls := w.fld 18 16, quantum := (c.w 1).fld 15 0
          shaper := y.shaper.set (w.bit 1) (c.n 2) (c.n 3)
          adaptive := w.bit 2, bound := c.n 4
          mean := if y.en then y.mean else 67108864
          k := if y.en && w.bit 2 then y.k else 1
          kNext := if y.en && w.bit 2 then y.kNext else 1
          deficit := if !x.en || x.port != port || x.cls != w.fld 18 16 then 0 else y.deficit }))).settle) ∧
    (∀ (c : Packet) (s0 : State), Ready.schedQueueSet c s0 = true →
      let s := s0.began 0x0902 c
      let q := c.obj
      let f := s.fq q
      exec (.schedQueueSet c) s0 = .next (s.finish 0x0902 c
        (.ok (s.fqM q fun f => { f with en := false, shaper := {}, sampleEn := false, toRing := false, deficit := 0 }))).settle) ∧
    (∀ (c : Packet) (s0 : State), Ready.schedQueueSet2 c s0 = true →
      let s := s0.began 0x0902 c
      let q := c.obj
      let w := c.w 0
      let f := s.fq q
      let g := w.fld 27 16
      exec (.schedQueueSet c) s0 = .next (s.finish 0x0902 c
        (.ok (s.fqM q fun f => { f with
          en := true, group := g, quantum := (c.w 1).fld 15 0
          shaper := f.shaper.set (w.bit 1) (c.n 2) (c.n 3)
          sampleEn := w.bit 2, toRing := w.bit 3, sampleN := (c.w 1).fld 31 16
          deficit := if f.en && f.group == g then f.deficit else 0 }))).settle) ∧
    (∀ (c : Packet) (s0 : State), Ready.schedPortStatus c s0 = true →
      let s := s0.began 0x0903 c
      let p := c.obj
      let n := s.node p
      let elig := sumL ((List.range 8).map fun k => match s.classCand p k with
        | some x => if s.classOk p x then 2 ^ k else 0
        | none => 0)
      let paused := sumL ((List.range 8).map fun k => if s.pfcPaused p k then 2 ^ k else 0)
      let bytes := if p = 65 then [sumL (s.sched.recirc0.map (·.len)), sumL (s.sched.recirc1.map (·.len)), 0, 0, 0, 0, 0, 0]
        else (List.range 8).map fun k => s.classBytes p k
      exec (.schedPortStatus c) s0 = .next (s.finish 0x0903 c
        (.data ([wd (elig + 256 * paused + 65536 * b2n (decide (p < 64) && (s.mport p).pause != 0) + 131072 * b2n (s.nodeReady p)),
            n.shaper.words] ++ bytes.map wd ++ [wd n.selections, wd n.oversize]) s)).settle) ∧
    (∀ (c : Packet) (s0 : State), Ready.schedGroupStatus c s0 = true →
      let s := s0.began 0x0904 c
      let x := s.sgrp c.obj
      let time := if !x.en then 0 else x.k * sumL (s.backlog c.obj) * 8000000 / s.groupRate x
      exec (.schedGroupStatus c) s0 = .next (s.finish 0x0904 c
        (.data [wd (b2n x.en + 2 * b2n x.adaptive + 256 * x.port + 65536 * x.cls), wd (s.groupQueues c.obj).length, wd (x.mean / 65536),
          wd x.k, wd time, wd x.miss, x.shaper.words, wd (x.deficit % 16777216)] s)).settle) ∧
    (∀ (c : Packet) (s0 : State), Ready.schedQueueStatus c s0 = true →
      let s := s0.began 0x0905 c
      let q := c.obj
      let f := s.fq q
      let g := s.sgrp f.group
      let p := g.port
      let head := s.headOf q
      let of (b : QEnt → Bool) : Bool := match head with
        | some e => b e
        | none => false
      let flags := if !f.en then 0 else
        1 + 2 * b2n (s.queueOk p q) + 4 * b2n (f.shaper.en && f.shaper.rate == 0) + 8 * b2n (of fun e => s.awaitsSa e.copy)
          + 16 * b2n (s.pfcPaused p g.cls || (decide (p < 64) && (s.mport p).pause != 0)) + 32 * b2n (of fun e => !s.gateFits p g.cls e) + 64 * b2n (s.egress p != .enabled)
          + 128 * b2n (f.shaper.dry || g.shaper.dry || (s.node p).shaper.dry) + 65536 * f.group
      exec (.schedQueueStatus c) s0 = .next (s.finish 0x0905 c
        (.data [wd flags, wd (min f.q.length 65535), wd (sumL (f.q.map (·.len))), wd (f.deficit % 16777216), f.shaper.words,
          wd (Tbl.lookD s.sched.refs q 0 + 65536 * Tbl.lookD s.sched.refDeath q 0), wd f.frames, wd f.bytes] s)).settle) ∧
    (∀ (c : Packet) (s0 : State), Ready.schedQueueStats c s0 = true →
      let s := s0.began 0x0906 c
      let x := (s.fq c.obj).stats
      exec (.schedQueueStats c) s0 = .next (s.finish 0x0906 c
        (.data [wd x.n, wd x.dMin, wd x.dMax, wd x.dMean, wd x.sMin, wd x.sMax, wd x.sMean, wd (b2n (x.n != 0))]
          (if Tbl.has s.sched.queues c.obj then s.fqM c.obj fun f => { f with stats := {} } else s))).settle) ∧
    (∀ (c : Packet) (s0 : State), Ready.schedStatus c s0 = true →
      let s := s0.began 0x0907 c
      let free (k : Nat) : Nat := if k < 11 then 49152 - (s.col k).qents else 0
      exec (.schedStatus c) s0 = .next (s.finish 0x0907 c
        (.data ((List.range 6).map (fun k => wd (free (2 * k) + 65536 * free (2 * k + 1)))
          ++ [wd s.sched.qWaits, wd s.sched.misqueued] ++ w64 s.sched.ringSeq
          ++ [wd s.sched.skipped, wd (b2n s.sched.ringEn + 256 * s.sched.ringLog2)]) s)).settle) ∧
    (∀ (c : Packet) (s0 : State), Ready.schedSampleRingSet c s0 = true →
      let s := s0.began 0x0908 c
      exec (.schedSampleRingSet c) s0 = .next (s.finish 0x0908 c
        (.ok (s.schedM fun k => { k with ringEn := false, ringLog2 := 0, ringBase := 0 }))).settle) ∧
    (∀ (c : Packet) (s0 : State), Ready.schedSampleRingSet2 c s0 = true →
      let s := s0.began 0x0908 c
      let lg := (c.w 0).fld 12 8
      let base := c.n 1 + 4294967296 * c.n 2
      exec (.schedSampleRingSet c) s0 = .next (s.finish 0x0908 c
        (.ok (s.schedM fun k => { k with ringEn := true, ringLog2 := lg, ringBase := base, ringSeq := 0, ringClock := none }))).settle) ∧
    (∀ (c : Packet) (s0 : State), Ready.schedSampleRead c s0 = true →
      let s := s0.began 0x0909 c
      exec (.schedSampleRead c) s0 = .next (s.finish 0x0909 c
        (let want := c.n 0 + 4294967296 * c.n 1
         let r := s.sampleRange want ((c.w 2).fld 7 0)
         let t := (s.sampleCheck want ((c.w 2).fld 7 0)).2
         .data (w64 r.1 ++ [wd (r.2 + 256 * b2n (decide (want < s.sched.ringSeq - 2 ^ s.sched.ringLog2)))]
           ++ ((List.range r.2).map (r.1 + ·)).flatMap fun q => bytesWords (Mem.reads t.ddr.mem (s.sampleAddr q) 32)) t)).settle)

/-- Every one of the time commands that passes its checks runs (TIME_SET, TIME_GET, TIME_SELECT, PTP_DOMAIN_SET, PTP_PORT_SET, PTP_STATUS, PTP_TS_READ, PULSE_SET, CAPTURE_READ, GATE_LIST_SET, GATE_LIST_READ). -/
def Obligations.TimeCommandsRun : Prop :=
    (∀ (c : Packet) (s0 : State), Ready.timeSet c s0 = true →
      let s := s0.began 0x0A00 c
      let step := (c.w 0).bit 0
      let follow := (c.w 0).bit 1
      let t := instantAt c 1
      let rate := sgn 32 (c.n 4)
      exec (.timeSet c) s0 = .next (s.finish 0x0A00 c
        (let s := s.timeM fun b => { b with follow := follow, ratePpb := rate }
         .ok (if step then ((s.timeM fun b => { b with recordSet := true, record := { t := t, res := 0 }, oldNs := some s.ns32 }).tickJumped t).bwmRestart else s))).settle) ∧
    (∀ (c : Packet) (s0 : State), Ready.timeGet c s0 = true →
      let s := s0.began 0x0A01 c
      let t := s.time
      exec (.timeGet c) s0 = .next (s.finish 0x0A01 c
        (.data (timeWords t.record.t ++ timeWords t.line.t ++ timeWords t.ltA.t ++ timeWords t.ltB.t
          ++ [wd (s.lineSource + 4 * t.domA.servo.code + 16 * t.domB.servo.code + 256 * b2n t.recordSet + 512 * b2n t.autoSwitch
              + 1024 * b2n t.follow),
            wdi (t.slew / 65536), wdi t.domA.adj, wdi t.domB.adj]) s)).settle) ∧
    (∀ (c : Packet) (s0 : State), Ready.timeSelect c s0 = true →
      let s := s0.began 0x0A02 c
      let src := (c.w 0).fld 1 0
      let d := src - 1
      let diff := ((s.domClk d).t : Int) - s.time.line.t
      let set (s : State) : State := s.timeM fun t => { t with autoSwitch := (c.w 0).bit 4, maxSlew := c.n 1 }
      exec (.timeSelect c) s0 = .next (s.finish 0x0A02 c
        (if src = 0 then
          let ppb := s.linePpb
          .ok ((set s).timeM fun t => { t with source := 0, holdPpb := ppb, slew := 0, slewAcc := 0 })
         else if s.time.neverSet then
          let s := ((set s).slewTo d).timeM fun t => { t with slew := 0 }
          .done .okAdjusted 1 [] ((s.setLine (s.domClk d).t).lineSwitched 0 d false diff)
         else .ok (((set s).slewTo d).lineSwitched 0 d true diff))).settle) ∧
    (∀ (c : Packet) (s0 : State), Ready.ptpDomainSet c s0 = true →
      let s := s0.began 0x0A03 c
      let d := c.obj
      let en := (c.w 0).bit 0
      exec (.ptpDomainSet c) s0 = .next (s.finish 0x0A03 c
        (.ok (s.domM d fun p => { p.freed with en := false }))).settle) ∧
    (∀ (c : Packet) (s0 : State), Ready.ptpDomainSet2 c s0 = true →
      let s := s0.began 0x0A03 c
      let d := c.obj
      let en := (c.w 0).bit 0
      let port := (c.w 1).fld 5 0
      let num := (c.w 0).fld 15 8
      let sdo := (c.w 0).fld 19 16
      let id := beNat (wordsBytes [c.w 2, c.w 3])
      let mport := (c.w 4).fld 15 0
      exec (.ptpDomainSet c) s0 = .next (s.finish 0x0A03 c
        (let fresh := !(s.dom d).en || (s.dom d).masterId != id || (s.dom d).masterPort != mport
         .ok (s.domM d fun p =>
           let p := if fresh then p.freed else p
           { p with
             en := true, p2p := (c.w 0).bit 1, number := num, sdo := sdo, port := port
             logSync := sgn 8 ((c.w 1).fld 15 8), timeout := (c.w 1).fld 23 16, masterId := id, masterPort := mport
             kp := c.n 5, ki := c.n 6, stepNs := c.n 7, lockNs := c.n 8, maxAdj := c.n 9 }))).settle) ∧
    (∀ (c : Packet) (s0 : State), Ready.ptpPortSet c s0 = true →
      let s := s0.began 0x0A04 c
      let p := c.obj
      exec (.ptpPortSet c) s0 = .next (s.finish 0x0A04 c
        (.ok (s.ptpPortM p fun q => { q with
          desig := (c.w 0).bit 0, oneStep := (c.w 0).bit 1, inAdj := sgn 32 (c.n 1), outAdj := sgn 32 (c.n 2) }))).settle) ∧
    (∀ (c : Packet) (s0 : State), Ready.ptpStatus c s0 = true →
      let s := s0.began 0x0A05 c
      let p := s.dom c.obj
      let k (i : Nat) : Nat := nth p.counts i 0
      exec (.ptpStatus c) s0 = .next (s.finish 0x0A05 c
        (.data [wdi (p.offset.getD 0 / 65536), wdi (p.delay.getD 0 / 65536), wdi p.adj, wd (k 0), wd (k 1), wd (k 2), wd (k 3),
          wd (p.servo.code + 65536 * min (k 4) 65535)] s)).settle) ∧
    (∀ (c : Packet) (s0 : State), Ready.ptpTsRead c s0 = true →
      let s := s0.began 0x0A06 c
      let p := c.obj
      let q := s.ptpPort p
      let ent (e : Nat × Nat × Nat × Nat) : List Word := wd (e.1 + 256 * e.2.1 + 65536 * e.2.2.1) :: timeWords e.2.2.2
      exec (.ptpTsRead c) s0 = .next (s.finish 0x0A06 c
        (.data (wd (q.fifo.length + 65536 * b2n q.overflow) :: q.fifo.flatMap ent)
          (s.ptpPortM p fun q => { q with fifo := [], overflow := false }))).settle) ∧
    (∀ (c : Packet) (s0 : State), Ready.pulseSet c s0 = true →
      let s := s0.began 0x0A10 c
      let o := c.obj
      let mode := (c.w 0).fld 1 0
      let rec_ := (c.w 0).bit 2
      let low := (c.w 0).bit 3
      let start := instantAt c 1
      let period := c.n 4 + 4294967296 * c.n 5
      let width := c.n 6
      let now := s.pulseNow rec_
      let late := mode != 0 && decide (start < now + twoUs)
      let next := if mode = 2 ∧ late then firstAt start (period * 65536) (now + twoUs + 1)
        else if late then now else start
      exec (.pulseSet c) s0 = .next (s.finish 0x0A10 c
        (let t : State := s.pulseM o fun p => { p with
           mode := mode, record := rec_, low := low, start := start, next := next, period := period, width := width }
         .ok (if (t.pulse o).endAt.isNone then t.drivePps o low else t))).settle) ∧
    (∀ (c : Packet) (s0 : State), Ready.pulseSet2 c s0 = true →
      let s := s0.began 0x0A10 c
      let o := c.obj
      let mode := (c.w 0).fld 1 0
      let rec_ := (c.w 0).bit 2
      let low := (c.w 0).bit 3
      let start := instantAt c 1
      let period := c.n 4 + 4294967296 * c.n 5
      let width := c.n 6
      let now := s.pulseNow rec_
      let late := mode != 0 && decide (start < now + twoUs)
      let next := if mode = 2 ∧ late then firstAt start (period * 65536) (now + twoUs + 1)
        else if late then now else start
      exec (.pulseSet c) s0 = .next (s.finish 0x0A10 c
        (let t : State := s.pulseM o fun p => { p with
           mode := mode, record := rec_, low := low, start := start, next := next, period := period, width := width }
         .done (if late then .okAdjusted else .ok) 0 [] (if (t.pulse o).endAt.isNone then t.drivePps o low else t))).settle) ∧
    (∀ (c : Packet) (s0 : State), Ready.captureRead c s0 = true →
      let s := s0.began 0x0A11 c
      let q := nth s.time.caps c.obj {}
      exec (.captureRead c) s0 = .next (s.finish 0x0A11 c
        (.data (wd (q.fifo.length + 65536 * b2n q.overflow) :: q.fifo.flatMap fun e => timeWords e.1 ++ timeWords e.2)
          (s.timeM fun t => { t with caps := updAt t.caps c.obj fun q => { q with fifo := [], overflow := false } }))).settle) ∧
    (∀ (c : Packet) (s0 : State), Ready.gateListSet c s0 = true →
      let s := s0.began 0x0A20 c
      let p := c.obj
      let now := s.time.line.t
      exec (.gateListSet c) s0 = .next (s.finish 0x0A20 c
        (.ok (s.gateM p fun g => g.remove now))).settle) ∧
    (∀ (c : Packet) (s0 : State), Ready.gateListSet2 c s0 = true →
      let s := s0.began 0x0A20 c
      let p := c.obj
      let w := c.w 0
      let len := w.fld 8 0
      let base := instantAt c 1
      let cyc := c.n 4
      let ents := (List.range len).map fun i => ((c.w (5 + 2 * i)).fld 7 0, c.n (6 + 2 * i))
      let now := s.time.line.t
      exec (.gateListSet c) s0 = .next (s.finish 0x0A20 c
        (let at_ := firstAt base (cyc * 65536) (now + twoUs)
         .done (if now + twoUs ≤ base then .ok else .okAdjusted) (at_ / 65536 % 4294967296) []
           (s.gateM p fun g => { g with admin := some { base := base, cycle := cyc, entries := ents }, switchAt := at_, removeAt := none }))).settle) ∧
    (∀ (c : Packet) (s0 : State), Ready.gateListRead c s0 = true →
      let s := s0.began 0x0A21 c
      let p := c.obj
      let g := s.gate p
      let l := if (c.w 0).bit 0 then g.admin else g.oper
      exec (.gateListRead c) s0 = .next (s.finish 0x0A21 c
        (.data ([wd (b2n g.oper.isSome + 2 * b2n g.admin.isSome + 256 * g.gates + 65536 * g.entry)]
            ++ timeWords (if g.admin.isSome then g.switchAt else 0)
            ++ [wd (if g.oper.isSome then g.cycleStart / 65536 else 0), wd (s.node p).oversize, wd (s.node p).deferred, wd s.time.cancelled]
            ++ match l with
              | some l => l.words
              | none => [])
          (s.nodeM p fun n => { n with deferred := 0 }))).settle)

/-- Every one of the host ring and twin commands that passes its checks runs (HTX_RING_SET, HRX_RING_SET, SEG_PROFILE_SET, HRING_STATUS, TWIN_CONFIG, TWIN_ENROL, TWIN_TAKEOVER, TWIN_STATUS, TWIN_LOCK). -/
def Obligations.HostTrafficAndTwinCommandsRun : Prop :=
    (∀ (c : Packet) (s0 : State), Ready.htxRingSet c s0 = true →
      let s := s0.began 0x0B00 c
      exec (.htxRingSet c) s0 = .next (s.finish 0x0B00 c
        (.ok ((s.hstM fun h => { h with tx := Tbl.put h.tx c.obj { (Tbl.lookD s.hst.tx c.obj {}) with size := 0, waiter := none, stalled := false, stallDrops := 0 } }).hstM
          fun h => { h with pieces := h.pieces.mapV fun t e => if t = c.obj then (0, e.2) else e }))).settle) ∧
    (∀ (c : Packet) (s0 : State), Ready.htxRingSet2 c s0 = true →
      let s := s0.began 0x0B00 c
      exec (.htxRingSet c) s0 = .next (s.finish 0x0B00 c
        (.ok (s.hstM fun h => { h with tx := Tbl.put h.tx c.obj { (Tbl.lookD s.hst.tx c.obj {}) with
          size := (c.w 0).fld 15 0, wbEn := (c.w 0).bit 16, base := c.n 1 + 4294967296 * c.n 2, wb := c.n 3 + 4294967296 * c.n 4
          bufSize := (c.w 5).fld 15 0, holdoff := (c.w 5).fld 31 16, stallUs := (Tbl.lookD s.hst.tx c.obj {}).stallUs, host := 0, engine := 0 } }))).settle) ∧
    (∀ (c : Packet) (s0 : State), Ready.htxRingSet3 c s0 = true →
      let s := s0.began 0x0B00 c
      exec (.htxRingSet c) s0 = .next (s.finish 0x0B00 c
        (.ok (s.hstM fun h => { h with tx := Tbl.put h.tx c.obj { (Tbl.lookD s.hst.tx c.obj {}) with holdoff := (c.w 5).fld 31 16, stallUs := (Tbl.lookD s.hst.tx c.obj {}).stallUs } }))).settle) ∧
    (∀ (c : Packet) (s0 : State), Ready.hrxRingSet c s0 = true →
      let s := s0.began 0x0B01 c
      exec (.hrxRingSet c) s0 = .next (s.finish 0x0B01 c
        (.ok (s.hstM fun h => { h with rx := Tbl.put h.rx c.obj { (Tbl.lookD s.hst.rx c.obj {}) with size := 0, waiter := none, stalled := false, stallDrops := 0 } }))).settle) ∧
    (∀ (c : Packet) (s0 : State), Ready.hrxRingSet2 c s0 = true →
      let s := s0.began 0x0B01 c
      exec (.hrxRingSet c) s0 = .next (s.finish 0x0B01 c
        (let u : State := s.deliverOld c.obj
         .ok (u.hstM fun h => { h with rx := Tbl.put h.rx c.obj { (Tbl.lookD u.hst.rx c.obj {}) with
           size := (c.w 0).fld 15 0, wbEn := (c.w 0).bit 16, base := c.n 1 + 4294967296 * c.n 2, wb := c.n 3 + 4294967296 * c.n 4
           bufSize := (c.w 5).fld 15 0, holdoff := (c.w 5).fld 31 16, stallUs := c.n 6, host := 0, engine := 0 } }))).settle) ∧
    (∀ (c : Packet) (s0 : State), Ready.hrxRingSet3 c s0 = true →
      let s := s0.began 0x0B01 c
      exec (.hrxRingSet c) s0 = .next (s.finish 0x0B01 c
        (.ok (s.hstM fun h => { h with rx := Tbl.put h.rx c.obj { (Tbl.lookD s.hst.rx c.obj {}) with holdoff := (c.w 5).fld 31 16, stallUs := c.n 6 } }))).settle) ∧
    (∀ (c : Packet) (s0 : State), Ready.segProfileSet c s0 = true →
      let s := s0.began 0x0B02 c
      let w := c.w 2
      let mss := (c.w 0).fld 13 0
      let hdr := (c.w 0).fld 23 16
      let l3 := (c.w 1).fld 7 0
      let l4 := (c.w 1).fld 15 8
      let ol3 := (c.w 1).fld 23 16
      let ol4 := (c.w 1).fld 31 24
      let outer := w.bit 3
      let l4p := w.fld 2 1
      exec (.segProfileSet c) s0 = .next (s.finish 0x0B02 c
        (let r : SegProfile :=
          { mss := mss, hdrLen := hdr, l3 := l3, l4 := l4, ol3 := ol3, ol4 := ol4, v6 := w.bit 0, tcp := l4p == 1, outer := outer, ov6 := w.bit 4 }
         .ok (s.hstM fun h => { h with seg := Tbl.put h.seg c.obj r }))).settle) ∧
    (∀ (c : Packet) (s0 : State), Ready.hringStatus c s0 = true →
      let s := s0.began 0x0B03 c
      let rx := nbit c.obj 4
      let r := Tbl.lookD (if rx then s.hst.rx else s.hst.tx) (c.obj % 16) {}
      let k (i : Nat) : Word := wd (nth r.counts i 0)
      exec (.hringStatus c) s0 = .next (s.finish 0x0B03 c
        (.data [wd (r.engine + 65536 * r.host), wd (b2n (r.size != 0) + 2 * b2n r.stalled + 4 * b2n r.waiter.isSome + 65536 * r.reserved),
          k 0, k 1, k 2, k 3, k 4, k 5] s)).settle) ∧
    (∀ (c : Packet) (s0 : State), Ready.twinConfig c s0 = true →
      let s := s0.began 0x0C00 c
      let w := c.w 0
      let k := w.fld 12 8
      exec (.twinConfig c) s0 = .next (s.finish 0x0C00 c
        (let s := (s.twinM fun t => { t with hairpin := w.bit 1, strideLog2 := k }).twinEnable (w.bit 0)
         .ok (if s.mayRun 66 then s.tryLeave 66 else if s.egress 66 = .flush then s else s.enterFlush 66))).settle) ∧
    (∀ (c : Packet) (s0 : State), Ready.twinEnrol c s0 = true →
      let s := s0.began 0x0C01 c
      exec (.twinEnrol c) s0 = .next (s.finish 0x0C01 c
        (let t : State := (s.bookM fun b => { b with marker := { b.marker with fingerprint := some c.bytes } }).bookLog 0x14 c.bytes
         .ok (if t.twin.st = .stranger then (t.twinGo .paired 0).onPaired else t))).settle) ∧
    (∀ (c : Packet) (s0 : State), Ready.twinTakeover c s0 = true →
      let s := s0.began 0x0C02 c
      exec (.twinTakeover c) s0 = .next (s.finish 0x0C02 c
        (if !s.pins.ownIn then .pend 0 (s.takeOver 0x0B)
         else .pend 0 ((s.twinSend 0 0x08 []).runM fun r => { r with askedHandover := true }))).settle) ∧
    (∀ (c : Packet) (s0 : State), Ready.twinStatus c s0 = true →
      let s := s0.began 0x0C03 c
      let t := s.twin
      let n (i : Nat) : Nat := nth t.counts i 0
      exec (.twinStatus c) s0 = .next (s.finish 0x0C03 c
        (.data ([wd (t.st.code + 256 * t.partnerMode + 65536 * b2n t.stale + 131072 * b2n s.pins.ownOut + 262144 * b2n s.pins.ownIn
              + 524288 * b2n (s.mayRun 66) + 1048576 * t.strideLog2),
            wd t.rtt, wd (n 0), wd (n 1), wd (n 2), wd (n 3), wd (n 4), wd (min 65535 (n 5) + 65536 * min 65535 (n 6)), wd (n 7),
            wd t.credits, wd (n 8), wd (n 9)] ++ bytesWords (bytesAt (t.fingerprint.getD []) 0 48)) s)).settle) ∧
    (∀ (c : Packet) (s0 : State), Ready.twinLock c s0 = true →
      let s := s0.began 0x0C04 c
      let op := b2n ((c.w 0).bit 0)
      exec (.twinLock c) s0 = .next (s.finish 0x0C04 c
        (.hold 0 ((s.twinSend 2 0x32 [by8 c.obj, by8 op, 0#8, 0#8]).runM fun r => { r with lockWait := r.lockWait ++ [(c.obj, op == 1)] }))).settle)

/-- Every one of the power and DDR5 commands that passes its checks runs (POWER_POLICY_SET, POWER_STATUS, SLICE_RETIRE, SLICE_ADMIT, SLICE_STATUS, DDR_TRAIN, DDR_CONFIG, DDR_STATUS). -/
def Obligations.PowerAndMemoryCommandsRun : Prop :=
    (∀ (c : Packet) (s0 : State), Ready.powerPolicySet c s0 = true →
      let s := s0.began 0x0D00 c
      let en := (c.w 0).bit 0
      let n := (c.w 1).fld 3 0
      let need := s.slicesNeeded
      let low := !c.inBatch && n != 0 && decide (n < need)
      exec (.powerPolicySet c) s0 = .next (s.finish 0x0D00 c
        (let s := s.pwrM fun p => { p with
          en := en, maxLat := (c.w 0).fld 31 16, minSlices := n, deepMask := c.n 2
          pred := if en && !p.en then [] else p.pred }
         .done (if low then .okAdjusted else .ok) (if low then need else 0) [] s.powerCheck)).settle) ∧
    (∀ (c : Packet) (s0 : State), Ready.powerStatus c s0 = true →
      let s := s0.began 0x0D01 c
      let k (i : Nat) : Nat := nth s.pwr.counts i 0
      let fz := s.failsShare dozeCells
      let fp := s.failsShare deepCells
      let first := match fz with
        | some p => some p
        | none => fp
      exec (.powerStatus c) s0 = .next (s.finish 0x0D01 c
        (.data (bytesWords s.domBytes ++ [wd (b2n fz.isNone + 2 * b2n fp.isNone + 4 * first.getD 0 + 256 * b2n first.isSome),
          wd (s.sliceMask .inService + 256 * min 15 s.sliceFloor), wd (k 0), wd (k 1), wd (k 2), wd (k 3), wd (k 4), wd (k 5),
          wd (min (k 6) 65535 + 65536 * min (k 7) 65535)]) s)).settle) ∧
    (∀ (c : Packet) (s0 : State), Ready.sliceRetire c s0 = true →
      let s := s0.began 0x0D20 c
      let k := c.obj
      let z := s.slice k
      let left := (s.inService.filter (· != k)).length
      let need := s.slicesNeeded
      let short := if z.st == .inService ∧ left < need then need else 0
      exec (.sliceRetire c) s0 = .next (s.finish 0x0D20 c
        (match z.st with
        | .retiredPolicy => .ok (s.sliceM k fun z => { z with st := .retiredHost, admitting := false })
        | .retiredHost => .ok (s.sliceM k fun z => { z with admitting := false })
        | _ =>
          if z.held.isEmpty then
            .done (if short = 0 then .ok else .okAdjusted) short []
              (s.sliceM k fun z => { z with st := .retiredHost, after := .retiredHost, admitting := false })
          else .hold short (s.sliceM k fun z => { z with st := .retiring, after := .retiredHost, admitting := false }))).settle) ∧
    (∀ (c : Packet) (s0 : State), Ready.sliceAdmit c s0 = true →
      let s := s0.began 0x0D21 c
      let k := c.obj
      let z := s.slice k
      exec (.sliceAdmit c) s0 = .next (s.finish 0x0D21 c
        (match z.st with
        | .inService => .ok s
        | .retiring => .ok (s.sliceM k fun z => { z with st := .inService })
        | _ => .ok (s.admitSlice k))).settle) ∧
    (∀ (c : Packet) (s0 : State), Ready.sliceStatus c s0 = true →
      let s := s0.began 0x0D22 c
      exec (.sliceStatus c) s0 = .next (s.finish 0x0D22 c
        (.data (wd (s.sliceMask .inService + 256 * s.sliceMask .retiredHost + 65536 * s.sliceMask .isolated + 16777216 * s.slicesNeeded)
          :: (List.range 8).map fun k =>
            let z := s.slice k
            wd (z.st.code + 16 * (s.pdom (10 + k)).code + 65536 * min z.timeouts 65535)) s)).settle) ∧
    (∀ (c : Packet) (s0 : State), Ready.ddrTrain c s0 = true →
      let s := s0.began 0x0E00 c
      let m := (c.w 0).fld 3 0
      exec (.ddrTrain c) s0 = .next (s.finish 0x0E00 c
        (.pend 0 ((s.wakeDom 31).ddrM fun d => { d with
          trainMask := m
          chans := (List.range 4).map fun i =>
            let h := nth d.chans i {}
            if nbit m i then { h with st := .training } else h }))).settle) ∧
    (∀ (c : Packet) (s0 : State), Ready.ddrConfig c s0 = true →
      let s := s0.began 0x0E01 c
      let pd := (c.w 0).fld 19 0
      let en := (c.w 1).bit 16
      let hrs := (c.w 1).fld 31 24
      exec (.ddrConfig c) s0 = .next (s.finish 0x0E01 c
        (.ok (s.ddrM fun d => { d with powerDownNs := pd, retrainMs := (c.w 1).fld 15 0, patrol := en, patrolHours := hrs }))).settle) ∧
    (∀ (c : Packet) (s0 : State), Ready.ddrStatus c s0 = true →
      let s := s0.began 0x0E02 c
      let h := s.chan c.obj
      exec (.ddrStatus c) s0 = .next (s.finish 0x0E02 c
        (.data (if c.obj = 4 then wd (b2n s.ddrReady + 256 * s.ddr.inUse) :: s.regions.flatMap (fun r => w64 r.1 ++ w64 r.2)
          else
            [wd (h.st.code + 16 * h.ranks + 256 * h.gib + 65536 * h.cause), wd (nth h.counts 0 0), wd (nth h.counts 1 0), wd (nth h.counts 2 0),
             wd (h.owed.foldl max 0 + 16 * h.owedMax), wd (nth h.counts 3 0), wd (nth h.counts 4 0), wdi h.maxDrift, wdi h.temp,
             wd (min 65535 (nth h.counts 5 0) + 65536 * min 65535 (nth h.counts 6 0))] ++ w64 h.lastUe) s)).settle)

/-- Every one of the counter commands that passes its checks runs (STAT_READ, STAT_CLEAR, SNAP_AREA_SET, SNAP_TAKE, SNAP_STATUS, SNAP_READ, PRF_SELECT, PRF_READ, BWM_SET, BWM_READ). -/
def Obligations.CounterCommandsRun : Prop :=
    (∀ (c : Packet) (s0 : State), Ready.statRead c s0 = true →
      let s := s0.began 0x0F00 c
      exec (.statRead c) s0 = .next (s.finish 0x0F00 c
        (.data ((List.range ((c.w 0).fld 7 0)).flatMap fun k => s.pairWords (c.obj + k)) s)).settle) ∧
    (∀ (c : Packet) (s0 : State), Ready.statClear c s0 = true →
      let s := s0.began 0x0F01 c
      let n := (c.w 0).fld 14 0
      exec (.statClear c) s0 = .next (s.finish 0x0F01 c
        (let inR (i : Nat) : Bool := decide (c.obj ≤ i) && decide (i < c.obj + n)
         let lines := (List.range ((c.obj + n - 1) / 4 + 1 - c.obj / 4)).map (c.obj / 4 + ·)
         let s := if s.cnt.snap = .copying ∧ s.cnt.snapStats then lines.foldl (fun s k => s.copyOnWrite k) s else s
         .ok (s.cntM fun x => { x with stats := x.stats.filter fun e => !inR e.1 }))).settle) ∧
    (∀ (c : Packet) (s0 : State), Ready.snapAreaSet c s0 = true →
      let s := s0.began 0x0F02 c
      let en := (c.w 0).bit 0
      let base := c.n 1 + 4294967296 * c.n 2
      exec (.snapAreaSet c) s0 = .next (s.finish 0x0F02 c
        (let s := s.snapAbort 3
         .ok (s.cntM fun x => { x with area := if en then some base else none, image := false }))).settle) ∧
    (∀ (c : Packet) (s0 : State), Ready.snapTake c s0 = true →
      let s := s0.began 0x0F03 c
      let t := instantAt c 1
      let now := s.time.record.t
      let id := wd (s.cnt.snapId + 1)
      let stats := (c.w 0).bit 0
      let late := t != 0 && decide (t < now + 131072000)
      exec (.snapTake c) s0 = .next (s.finish 0x0F03 c
        (let s := s.cntM fun x => { x with snap := .armed, snapStats := stats, snapTick := if t = 0 || late then now else t }
         .done (if late then .okAdjusted else .ok) id.toNat [] s)).settle) ∧
    (∀ (c : Packet) (s0 : State), Ready.snapStatus c s0 = true →
      let s := s0.began 0x0F04 c
      exec (.snapStatus c) s0 = .next (s.finish 0x0F04 c
        (.data (w64 s.cnt.snapId ++ [wd s.cnt.snap.code] ++ timeWords s.cnt.snapTick ++ [wd s.linesLeft, wd s.cnt.withheld]) s)).settle) ∧
    (∀ (c : Packet) (s0 : State), Ready.snapRead c s0 = true →
      let s := s0.began 0x0F05 c
      ∀ a, s.cnt.area = some a →
      exec (.snapRead c) s0 = .next (s.finish 0x0F05 c
        (let t : State := (s.ddrCheck (a + 1048576 + 16 * c.obj) (16 * (c.w 0).fld 7 0) 0x20).2
         .data ([wd (leNat (bytesAt (Mem.reads t.ddr.mem a 24) 0 4)), wd (byteAt (Mem.reads t.ddr.mem a 24) 0x14 % 8)] ++ bytesWords (Mem.reads t.ddr.mem (a + 1048576 + 16 * c.obj) (16 * (c.w 0).fld 7 0))) t)).settle) ∧
    (∀ (c : Packet) (s0 : State), Ready.prfSelect c s0 = true →
      let s := s0.began 0x0F10 c
      let n := c.obj
      let w := c.w 0
      exec (.prfSelect c) s0 = .next (s.finish 0x0F10 c
        (let was := (s.perfCtr n).chain
         let s := s.cntM fun x => { x with perf := Tbl.upd x.perf n {} fun p => { p with sel := w } }
         .ok (if w.bit 10 && !was then (s.perfSet n 0).perfSet (n - 1) 0 else s))).settle) ∧
    (∀ (c : Packet) (s0 : State), Ready.prfRead c s0 = true →
      let s := s0.began 0x0F11 c
      let p (k : Nat) : Perf := s.perfCtr (8 * c.obj + k)
      exec (.prfRead c) s0 = .next (s.finish 0x0F11 c
        (.data ((List.range 8).flatMap (fun k => w64 (p k).live) ++ (List.range 8).flatMap (fun k => w64 (p k).shadow)
          ++ (List.range 8).map fun k => (p k).sel) s)).settle) ∧
    (∀ (c : Packet) (s0 : State), Ready.bwmSet c s0 = true →
      let s := s0.began 0x0F20 c
      exec (.bwmSet c) s0 = .next (s.finish 0x0F20 c
        (.ok (s.bwmM c.obj fun m => { m with window := c.n 0, started := false, count := 0, minv := none, maxv := 0 }))).settle) ∧
    (∀ (c : Packet) (s0 : State), Ready.bwmRead c s0 = true →
      let s := s0.began 0x0F21 c
      let m := Tbl.lookD s.cnt.bwm c.obj {}
      exec (.bwmRead c) s0 = .next (s.finish 0x0F21 c
        (.data ([wd m.window, wd m.done] ++ w64 m.count ++ w64 m.last ++ w64 (m.minv.getD 0) ++ w64 m.maxv
          ++ w64 (nth m.shadow 0 0) ++ w64 (nth m.shadow 1 0))
          (s.bwmM c.obj fun m => { m with minv := none, maxv := 0, done := 0 }))).settle)

/-- Every one of the fault commands that passes its checks runs (FAULT_STATUS, FAULT_READ, FAULT_CLEAR, FAULT_REACTION_SET, BOOK_INFO, BOOK_READ). -/
def Obligations.FaultCommandsRun : Prop :=
    (∀ (c : Packet) (s0 : State), Ready.faultStatus c s0 = true →
      let s := s0.began 0x1000 c
      exec (.faultStatus c) s0 = .next (s.finish 0x1000 c
        (.data (s.flt.classCount.map wd ++ (List.range 16).map s.pendingWord
          ++ [wd s.flt.taken, wd s.book.dropped, wd s.book.marker.headSeq, 1#32]) s)).settle) ∧
    (∀ (c : Packet) (s0 : State), Ready.faultRead c s0 = true →
      let s := s0.began 0x1001 c
      let e := Tbl.lookD s.flt.src c.obj {}
      let cap := match e.capture with
        | some k => bytesWords k.bytes
        | none => List.replicate 8 0#32
      let r := s.flt.reaction c.obj ((faultClass c.obj).getD 0)
      exec (.faultRead c) s0 = .next (s.finish 0x1001 c
        (.data (cap ++ [wd (b2n e.capture.isSome + 2 * r + 64 * b2n e.own.isSome), wd e.since, wd e.count, 0#32]) s)).settle) ∧
    (∀ (c : Packet) (s0 : State), Ready.faultClear c s0 = true →
      let s := s0.began 0x1002 c
      exec (.faultClear c) s0 = .next (s.finish 0x1002 c
        (.ok (s.fltM fun f => { f with
          src := if c.obj = 0xFFFFFFFF then Tbl.mapV f.src fun _ e => { e with capture := none, since := 0 }
            else Tbl.upd f.src c.obj {} fun e => { e with capture := none, since := 0 } }))).settle) ∧
    (∀ (c : Packet) (s0 : State), Ready.faultReactionSet c s0 = true →
      let s := s0.began 0x1003 c
      let byClass := decide (0x80000000 ≤ c.obj)
      let k := c.obj - 0x80000000
      let dflt := (c.w 0).bit 8
      let r := (c.w 0).fld 4 0
      exec (.faultReactionSet c) s0 = .next (s.finish 0x1003 c
        (.ok (s.fltM fun f =>
          if byClass then { f with defaults := updAt f.defaults k fun _ => r }
          else { f with src := Tbl.upd f.src c.obj {} fun e => { e with own := if dflt then none else some r } }))).settle) ∧
    (∀ (c : Packet) (s0 : State), Ready.bookInfo c s0 = true →
      let s := s0.began 0x1004 c
      let m := s.book.marker
      let oldest := if m.ringCount = 0 then 0 else leNat (bytesAt (s.record m.oldest) 4 4)
      let framed := (s.flt.first.filter fun x => nbit x.reactions 0).length
      exec (.bookInfo c) s0 = .next (s.finish 0x1004 c
        (.data [wd m.headSeq, wd oldest, wd s.mode.bootCount, wd s.mode.history, wd m.safeSeq,
          wd (framed + 256 * b2n s.book.fresh), wd s.book.dropped, wd s.book.committed] s)).settle) ∧
    (∀ (c : Packet) (s0 : State), Ready.bookRead c s0 = true →
      let s := s0.began 0x1005 c
      exec (.bookRead c) s0 = .next (s.finish 0x1005 c
        (.data (wd (s.slotState c.obj) :: bytesWords (s.record c.obj)) s)).settle)

/-- Every one of the factory test commands that passes its checks runs (FAULT_INJECT, GUARD_SET, BOOK_CLEAR, DIAG_LOOPBACK, DIAG_MEM_TEST). -/
def Obligations.FactoryCommandsRun : Prop :=
    (∀ (c : Packet) (s0 : State), Ready.faultInject c s0 = true →
      let s := s0.began 0x1100 c
      let mode := (c.w 0).fld 1 0
      let addr := c.n 1 + 4294967296 * c.n 2
      let src := c.obj
      exec (.faultInject c) s0 = .next (s.finish 0x1100 c
        (let s := s.bookLog 0x22 (leBytes 4 (c.n 0) ++ leBytes 8 addr)
         match mode with
         | 0 =>
           let s := s.fault src 0x20 7 addr 0
           .ok (if 0x80 ≤ src ∧ src ≤ 0x8A then s.listBroken (src - 0x80) addr else s)
         | 1 => .ok (s.fltM fun f => { f with planted := f.planted ++ [src] })
         | 2 => .ok (s.vntM fun v => { v with planted := some (addr % 16384) })
         | _ => .ok (s.fltM fun f => { f with collectorFlip := some addr }))).settle) ∧
    (∀ (c : Packet) (s0 : State), Ready.guardSet c s0 = true →
      let s := s0.began 0x1101 c
      let off := (c.w 0).bit 0
      let gs := if c.obj = 8 then List.range 8 else [c.obj]
      exec (.guardSet c) s0 = .next (s.finish 0x1101 c
        (let s := s.bookLog 0x21 [by8 c.obj, by8 (b2n off)]
         let s := s.cipM fun k => { k with guardOff := gs.foldl (fun m g => setBit m g off) k.guardOff }
         .ok ((s.cipherPorts.filter fun p => gs.contains (p / 8)).foldl
           (fun s p => if s.mayRun p then s.tryLeave p else s.enterFlush p) s))).settle) ∧
    (∀ (c : Packet) (s0 : State), Ready.bookClear c s0 = true →
      let s := s0.began 0x1102 c
      exec (.bookClear c) s0 = .next (s.finish 0x1102 c
        (.pend 0 (s.bookM fun k => { k with clearing := true }))).settle) ∧
    (∀ (c : Packet) (s0 : State), Ready.diagLoopback c s0 = true →
      let s := s0.began 0x1110 c
      let m := (c.w 0).fld 1 0
      exec (.diagLoopback c) s0 = .next (s.finish 0x1110 c
        (.ok (s.mportM c.obj fun p => { p with loopback := m }))).settle) ∧
    (∀ (c : Packet) (s0 : State), Ready.diagMemTest c s0 = true →
      let s := s0.began 0x1111 c
      exec (.diagMemTest c) s0 = .next (s.finish 0x1111 c
        (.pend 0 s)).settle)

/-- Every row of the Vintner's mailbox service and the SMBus target has its effect (MBX_NOP, RING_RESCAN, HOLD_HOST, HOST_RELEASE, TUNNEL_WRITE, TUNNEL_READ, BOOK_SELECT, SMBUS_BOOK_READ, SMBUS_LOCK_ACQUIRE, SMBUS_LOCK_RELEASE, ALERT_RESPONSE, SMBUS_TIMEOUT). -/
def Obligations.MailboxServiceAndSmbusRun : Prop :=
    (∀ (m : Nat) (s : State), Ready.mbxNop m s = true →
      exec (.mbxNop m) s = .next (State.settle
        (s.mbxAck m 0 0))) ∧
    (∀ (m : Nat) (s : State), Ready.mbxNop2 m s = true →
      exec (.mbxNop m) s = .next (State.settle
        (s.mbxAck m 0xFFFF 0))) ∧
    (∀ (m : Nat) (s : State), Ready.mbxNop3 m s = true →
      exec (.mbxNop m) s = .next (State.settle
        (s.mbxAck m 0xFFFE 0))) ∧
    (∀ (m : Nat) (s : State), Ready.ringRescan m s = true →
      exec (.ringRescan m) s = .next (State.settle
        (s.writeBacks.mbxAck m 0 0))) ∧
    (∀ (m : Nat) (s : State), Ready.holdHost m s = true →
      exec (.holdHost m) s = .next (State.settle
        ((s.wakeHost.pwrM fun p => { p with holdHost := true }).mbxAck m 0 0))) ∧
    (∀ (m : Nat) (s : State), Ready.hostRelease m s = true →
      exec (.hostRelease m) s = .next (State.settle
        ((s.pwrM fun p => { p with holdHost := false }).mbxAck m 0 0))) ∧
    (∀ (data : Bytes) (pecOk : Bool) (s : State), Ready.tunnelWrite data pecOk s = true →
      exec (.tunnelWrite data pecOk) s = .next (State.settle
        (let b := ((if nbit (byteAt data 0) 7 then [] else s.smb.assembly.getD []) ++ data.drop 1).take 1025
         if nbit (byteAt data 0) 6 then
           (s.smbM fun m => { m with assembly := none }).accept (packetOf .tunnel b).1 (packetOf .tunnel b).2
             (b.length == 16 + 4 * (packetOf .tunnel b).2.plen.toNat && decide (b.length ≤ 1024))
         else s.smbM fun m => { m with assembly := some b }))) ∧
    (∀ (s : State), Ready.tunnelRead s = true →
      ∀ b k, s.smb.reply = some (b, k) →
      exec .tunnelRead s = .next (State.settle
        (let part := (b.drop k).take 254
         let last := decide (b.length ≤ k + part.length)
         (s.smbAnswer 0x11 true (by8 (128 * b2n (k == 0) + 64 * b2n last) :: part)).smbM fun m =>
           { m with reply := if last then none else some (b, k + part.length) }))) ∧
    (∀ (data : Bytes) (pecOk : Bool) (s : State), Ready.bookSelect data pecOk s = true →
      exec (.bookSelect data pecOk) s = .next (State.settle
        (s.smbM fun m =>
          { m with bookIndex := leNat data % 8192, bookOffset := 128 * nfld (leNat data) 23 16, bookBuf := s.record (leNat data % 8192) }))) ∧
    (∀ (s : State), Ready.smbusBookRead s = true →
      exec .smbusBookRead s = .next (State.settle
        (let t : State := s.smbAnswer 0x21 true (bytesAt s.smb.bookBuf s.smb.bookOffset 128)
         if s.smb.bookOffset = 0 then t.smbM fun m => { m with bookOffset := 128 }
         else t.smbM fun m =>
           { m with bookIndex := nextRecord s.smb.bookIndex, bookOffset := 0, bookBuf := t.record (nextRecord s.smb.bookIndex) }))) ∧
    (∀ (n : Nat) (s : State), Ready.smbusLockAcquire n s = true →
      exec (.smbusLockAcquire n) s = .next (State.settle
        (s.lockAnswer n 2))) ∧
    (∀ (n : Nat) (data : Byte) (pecOk : Bool) (s : State), Ready.smbusLockRelease data pecOk s = true →
      exec (.smbusLockRelease n data pecOk) s = .next (State.settle
        (s.lockFree n 2))) ∧
    (∀ (s : State), Ready.alertResponse s = true →
      exec .alertResponse s = .next (State.settle
        ((s.emit (.smbusData [by8 (2 * s.smbAddress), pecOf [0x19#8, by8 (2 * s.smbAddress)]])).smbM fun m => { m with alertReleased := true }))) ∧
    (∀ (s : State),
      exec .smbusTimeout s = .next (State.settle
        (s.smbM fun m => { m with assembly := none })))

/-- Every row of doorbells, ring controls and interrupt masks has its effect (HIF_DB, HIF_TXDB, HIF_RXDB, RING_ENABLE, RING_DISABLE, IRQ_MASK_WRITE). -/
def Obligations.DoorbellsAndRingControlsRun : Prop :=
    (∀ (r : Nat) (value : Word) (s : State), Ready.hifDb r value s = true →
      exec (.hifDb r value) s = .next (State.settle
        ((s.ringM r fun g => { g with host := value.fld 15 0 }).wakeHost))) ∧
    (∀ (r : Nat) (value : Word) (s : State), Ready.hifDb2 r value s = true →
      exec (.hifDb r value) s = .next (State.settle
        ((s.ringM r fun g => { g with dbErr := true }).setHifErr 0))) ∧
    (∀ (t : Nat) (value : Word) (s : State), Ready.hifTxdb t value s = true →
      exec (.hifTxdb t value) s = .next (State.settle
        ((s.txM t fun r => { r with host := value.fld 15 0 }).wakeHost))) ∧
    (∀ (t : Nat) (value : Word) (s : State), Ready.hifTxdb2 t value s = true →
      exec (.hifTxdb t value) s = .next (State.settle
        (s.setHifErr 0))) ∧
    (∀ (r : Nat) (value : Word) (s : State), Ready.hifRxdb r value s = true →
      exec (.hifRxdb r value) s = .next (State.settle
        ((s.rxPosted r (value.fld 15 0)).wakeHost))) ∧
    (∀ (r : Nat) (value : Word) (s : State), Ready.hifRxdb2 r value s = true →
      exec (.hifRxdb r value) s = .next (State.settle
        (s.setHifErr 0))) ∧
    (∀ (r : Nat) (value : Word) (s : State), Ready.ringEnable r value s = true →
      exec (.ringEnable r value) s = .next (State.settle
        ((s.ringSet r value).ringM r fun g => { g with active := true, host := 0, engine := 0 }))) ∧
    (∀ (r : Nat) (value : Word) (s : State), Ready.ringEnable2 r value s = true →
      exec (.ringEnable r value) s = .next (State.settle
        (((s.ringSet r value).ringM r fun g => { g with cfgErr := true }).setHifErr 1))) ∧
    (∀ (r : Nat) (value : Word) (s : State), Ready.ringDisable r value s = true →
      exec (.ringDisable r value) s = .next (State.settle
        ((s.ringSet r value).ringM r fun g => { g with active := false }))) ∧
    (∀ (offset : Nat) (value : Word) (s : State), Ready.irqMaskWrite s = true →
      offset = 0x4004 →
      exec (.irqMaskWrite offset value) s = .next (State.settle
        ((s.hifM fun h => { h with mask := value.toNat % 128 }).signalNew s allVectors))) ∧
    (∀ (offset : Nat) (value : Word) (s : State), Ready.irqMaskWrite2 s = true →
      offset = 0x8008 →
      exec (.irqMaskWrite offset value) s = .next (State.settle
        (if unmasks s.book.alert s.book.alertMask (value.fld 3 0) then
            ((s.bookM fun b => { b with alertMask := value.fld 3 0 }).smbM fun m => { m with alertReleased := false }).signalUnless 1 1
          else s.bookM fun b => { b with alertMask := value.fld 3 0 }))) ∧
    (∀ (offset : Nat) (value : Word) (s : State), Ready.irqMaskWrite3 s = true →
      offset = 0x4014 →
      exec (.irqMaskWrite offset value) s = .next (State.settle
        ((s.hifM fun h => { h with ringMask := value.toNat }).signalNew s allVectors))) ∧
    (∀ (offset : Nat) (value : Word) (s : State), Ready.irqMaskWrite4 s = true →
      offset = 0x4024 →
      exec (.irqMaskWrite offset value) s = .next (State.settle
        (if unmasks s.hif.mbxCause s.hif.mbxMask (value.toNat % 65536) then
            (s.hifM fun h => { h with mbxMask := value.toNat % 65536 }).signalUnless 3 3
          else s.hifM fun h => { h with mbxMask := value.toNat % 65536 }))) ∧
    (∀ (offset : Nat) (value : Word) (s : State), Ready.irqMaskWrite5 s = true →
      offset = 0x4034 →
      exec (.irqMaskWrite offset value) s = .next (State.settle
        (if unmasks s.hif.err s.hif.errMask (value.toNat % 32) then
            (s.hifM fun h => { h with errMask := value.toNat % 32 }).signalUnless 5 5
          else s.hifM fun h => { h with errMask := value.toNat % 32 })))

/-- Every row of mailboxes and locks has its effect (MBX_MSG, SEND, WITHDRAW, RELEASE, ACCEPT, MBX_ACK, OVERFLOW_NOTICE, LOCK_ACQUIRE, LOCK_RELEASE, FORCE). -/
def Obligations.MailboxesAndLocksRun : Prop :=
    (∀ (m : Nat) (k : Nat) (value : Word) (master : Nat) (s : State), Ready.mbxMsg m k master s = true →
      exec (.mbxMsg m k value master) s = .next (State.settle
        (s.mbxM fun l => updAt l m fun b => { b with msg := updAt b.msg k fun _ => value }))) ∧
    (∀ (m : Nat) (k : Nat) (value : Word) (master : Nat) (s : State), Ready.mbxMsg2 m k master s = true →
      exec (.mbxMsg m k value master) s = .next (State.settle
        (s.mbxRefuse m))) ∧
    (∀ (m : Nat) (master : Nat) (s : State), Ready.send m master s = true →
      exec (.send m master) s = .next (State.settle
        (let t : State := (if m < 12 then s.wakeHost else s.wakeDom 32).mbxPost m
         if (m == 12 || m == 13) && t.partnered then t.sendMbx m else t))) ∧
    (∀ (m : Nat) (master : Nat) (accepting : Bool) (s : State), Ready.withdraw m master accepting s = true →
      exec (.withdraw m master accepting) s = .next (State.settle
        (s.mbxGo m .empty 0))) ∧
    (∀ (m : Nat) (master : Nat) (accepting : Bool) (s : State), Ready.withdraw2 m master s = true →
      exec (.withdraw m master accepting) s = .next (State.settle
        (if (m == 12 || m == 13) && s.partnered then s.sendMbxState m 1 else s.mbxGo m .empty 0))) ∧
    (∀ (m : Nat) (master : Nat) (accepting : Bool) (s : State), Ready.withdraw3 m master s = true →
      exec (.withdraw m master accepting) s = .next (State.settle
        (s.mbxM fun l => updAt l m fun b => { b with withdrawFail := true }))) ∧
    (∀ (m : Nat) (master : Nat) (s : State), Ready.release m master s = true →
      exec (.release m master) s = .next (State.settle
        ((if (m == 12 || m == 13) && s.partnered then s.sendMbxState m 2 else s).mbxGo m .empty 0))) ∧
    (∀ (m : Nat) (master : Nat) (s : State), Ready.accept m master s = true →
      exec (.accept m master) s = .next (State.settle
        (if 14 ≤ m then (s.mbxGo m .accepted 0).sendMbxState m 0 else s.mbxGo m .accepted 0))) ∧
    (∀ (m : Nat) (code : BitVec 16) (master : Nat) (s : State), Ready.mbxAck m master s = true →
      exec (.mbxAck m code master) s = .next (State.settle
        (let t : State := (s.mbxM fun l => updAt l m fun b => { b with ack := code.toNat }).mbxGo m .acked 0
         if m < 8 then t.setMbxCause m else if 14 ≤ m then t.sendMbxState m 0 else t))) ∧
    (∀ (s : State), Ready.overflowNotice s = true →
      exec .overflowNotice s = .next (State.settle
        (((s.mbxM fun l => updAt l 8 fun b => { b with msg := 1#32 :: w64 s.cmds.lost ++ List.replicate 9 0#32 }).cmdsM fun c =>
          { c with lost := 0 }).wakeHost.mbxPost 8))) ∧
    (∀ (n : Nat) (masters : List Nat) (s : State), Ready.lockAcquire n = true →
      exec (.lockAcquire n masters) s = .next (State.settle
        (([0, 1, 2, 3].filter fun m => masters.contains m && s.masterUp m).foldl (fun (u : State) m => u.lockAnswer n m) s))) ∧
    (∀ (n : Nat) (master : Nat) (s : State), Ready.lockRelease master s = true →
      exec (.lockRelease n master) s = .next (State.settle
        (s.lockFree n master))) ∧
    (∀ (n : Nat) (master : Nat) (s : State), Ready.force n s = true →
      ∀ o, master = 1 →
      nth s.locks n none = some o →
      exec (.force n master) s = .next (State.settle
        (((s.locksM fun l => updAt l n fun _ => none).setAlert 3).bookLog 0x13 [by8 n, by8 o])))

/-- Every row of BAR0 registers with an effect of their own has its effect (RESTART, VINTNER_RESTARTED, TRACE_ENABLE, VNT_TRACE_LOST, HIF_RESET, CEL_BOOK_SELECT, BUS_MASTER_ENABLE, REGISTER_WRITE, BAR0_BAD_ACCESS). -/
def Obligations.RegisterEventsRun : Prop :=
    (∀ (s : State), Ready.restart s = true →
      exec .restart s = .next (State.settle
        (s.wakeHost.vntM fun v => { v with restarting := true }))) ∧
    (∀ (s : State), Ready.vintnerRestarted s = true →
      exec .vintnerRestarted s = .next (State.settle
        (let t : State := s.vntM fun v => { v with
           restarting := false, running := true, haltedMc := false, ctx := List.replicate 8 {}, timers := List.replicate 16 0, scratch := [] }
         let t : State := if t.vin.undoPending then t.undoVint.vinM fun k => { k with undoPending := false } else t
         ((t.hifM fun h => { h with ready := true }).freeLocks 0).postEvent 0x0002 t.vnt.mcCount []))) ∧
    (∀ (value : Word) (s : State), Ready.traceEnable value s = true →
      exec (.traceEnable value) s = .next (State.settle
        ((s.wakeHost.traceSet value).vntM fun k => { k with trEnable := true, trSeq := 0, trPass := 0, trClock := none }))) ∧
    (∀ (value : Word) (s : State), Ready.traceEnable2 value s = true →
      exec (.traceEnable value) s = .next (State.settle
        (((s.wakeHost.traceSet value).vntM fun k => { k with trErr := true }).setHifErr 1))) ∧
    (∀ (s : State), Ready.vntTraceLost s = true →
      exec .vntTraceLost s = .next (State.settle
        ((s.wakeHost.emit (.readData s.vnt.trLost)).vntM fun v => { v with trLost := 0 }))) ∧
    (∀ (value : Word) (s : State), Ready.hifReset value s = true →
      exec (.hifReset value) s = .next (State.settle
        (s.warmReset 3))) ∧
    (∀ (value : Word) (s : State), Ready.hifReset2 value s = true →
      exec (.hifReset value) s = .next (State.settle
        (s.setHifErr 3))) ∧
    (∀ (value : Word) (s : State), Ready.celBookSelect s = true →
      exec (.celBookSelect value) s = .next (State.settle
        (s.bookM fun k =>
          { k with select := value.fld 12 0 % 8192, slot := s.slotState (value.fld 12 0 % 8192), buf := s.record (value.fld 12 0 % 8192) }))) ∧
    (∀ (on : Bool) (s : State), Ready.busMasterEnable s = true →
      exec (.busMasterEnable on) s = .next (State.settle
        (let t : State := s.hifM fun h => { h with bme := on }
         if on then
           let t : State := t.cmds.heldEvents.foldl (fun u e => u.writeEvent e) (t.cmdsM fun c => { c with heldEvents := [] })
           (writeAllHeld t.cmds.held.length t).flushPba
         else t))) ∧
    (∀ (offset : Nat) (value : Word) (s : State), Ready.registerWrite s = true →
      offset = 0x20 →
      exec (.registerWrite offset value) s = .next (State.settle
        (s.hifM fun h => { h with scratch := value }))) ∧
    (∀ (offset : Nat) (bytes : Nat) (write : Bool) (s : State), Ready.bar0BadAccess offset bytes s = true →
      exec (.bar0BadAccess offset bytes write) s = .next (State.settle
        (if write then s.setHifErr 3 else (s.setHifErr 3).emit (.readData 0))))

/-- Every row of fetching, replies, holdoff, memory errors and machine checks has its effect (COMMAND_FETCH, REPLY_WRITE, HOLDOFF_EXPIRE, DMA_ERROR, MACHINE_CHECK). -/
def Obligations.HostPathEventsRun : Prop :=
    (∀ (heads : List RingHead) (s : State), Ready.commandFetch heads s = true →
      ∀ h, ((s.pickRing ((heads.filter fun h => s.ringHolds h).map fun h => h.ring)).bind fun r =>
      (heads.filter fun h => s.ringHolds h).find? fun h => h.ring == r) = some h →
      exec (.commandFetch heads) s = .next (State.settle
        (let holding := (heads.filter fun h => s.ringHolds h).map fun h => h.ring
         let t : State := s.ringM h.ring fun g => { g with engine := (g.engine + (ringCmd h).2.slots) % 65536 }
         ((t.hifM fun x => x.afterFetch h.ring holding).perfHost 0x10 1).accept (ringCmd h).1 (ringCmd h).2 true))) ∧
    (∀ (s : State), Ready.replyWrite s = true →
      ∀ r f rest, s.cmds.held = (r, f) :: rest →
      exec .replyWrite s = .next (State.settle
        ((s.cmdsM fun k => { k with held := rest }).writeReply r f))) ∧
    (∀ (v : Nat) (s : State), Ready.holdoffExpire v s = true →
      exec (.holdoffExpire v) s = .next (State.settle
        (let t : State := s.hifM fun h => { h with holdRun := clrBit h.holdRun v, holdDefer := clrBit h.holdDefer v }
         if nbit s.hif.holdDefer v && t.vectorDue v then t.sendMsix v else t))) ∧
    (∀ (ring : Nat) (s : State), Ready.dmaError ring s = true →
      exec (.dmaError ring) s = .next (State.settle
        (((s.ringM ring fun g => { g with active := false, dmaErr := true }).setHifErr 2).fault 4 0x20 (if ring < 4 then 1 else 2) ring 0))) ∧
    (∀ (ring : Nat) (s : State), Ready.dmaError2 ring s = true →
      exec (.dmaError ring) s = .next (State.settle
        ((((s.txM (ring - 16) fun r => { r with size := 0 }).hstM fun h => { h with pieces := Tbl.del h.pieces (ring - 16) }).setHifErr 2).fault 4 0x20 1 ring 0))) ∧
    (∀ (ring : Nat) (s : State), Ready.dmaError3 ring s = true →
      exec (.dmaError ring) s = .next (State.settle
        (((s.rxM (ring - 32) fun r => { r with size := 0, waiter := none, stalled := false }).setHifErr 2).fault 4 0x20 2 ring 0))) ∧
    (∀ (addr : Nat) (word : BitVec 136) (ctx : Nat) (tag : Nat) (opcode : Nat) (s : State), Ready.machineCheck addr word ctx s = true →
      exec (.machineCheck addr word ctx tag opcode) s = .next (State.settle
        (s.machineHalt (addr % 16384) (if s.vnt.planted = some (addr % 16384) then orBit (perrOf word) 0 else perrOf word) ctx
          (tag % 4096) (opcode % 65536)))) ∧
    (∀ (addr : Nat) (word : BitVec 136) (ctx : Nat) (tag : Nat) (opcode : Nat) (s : State), Ready.machineCheck2 addr word ctx s = true →
      exec (.machineCheck addr word ctx tag opcode) s = .next (State.settle
        (s.machineHalt (addr % 16384) (if s.vnt.planted = some (addr % 16384) then orBit (perrOf word) 0 else perrOf word) ctx 0 0)))

/-- Every row of supplies, resets, the boot and the twin's pins has its effect (AUX_VIN_UP, AUX_VIN_LOST, RESET_N_ASSERT, RESET_N_DEASSERT, PERST_N_ASSERT, PERST_N_DEASSERT, PG_IN_CONFIRM, RAIL_TIMEOUT, PG_IN_LOST, BOOT_COMPLETE, REFCLK_LOST, REFCLK_RETURN, SAFE_REQ_N, TAKE_N, OWN_IN_ASSERT, OWN_IN_DEASSERT, CLAIM_WINDOW_END). -/
def Obligations.PowerAndResetEventsRun : Prop :=
    (∀ (autoBoot : Bool) (addrSel : Nat) (s : State), Ready.auxVinUp s = true →
      exec (.auxVinUp autoBoot addrSel) s = .next (State.settle
        (let m := s.book.marker
         let cleared := s.book.justCleared || !m.valid
         let t : State := s.pinsM fun p => { p with auxVin := true, autoBoot := autoBoot, addrSel := addrSel % 4 }
         let t : State := t.bookM fun b => { b with mounted := true, fresh := !m.valid, cycles := 0 }
         let t : State := t.modeM fun k => { k with
           bootCount := m.bootCount, history := if cleared then m.history else (m.history + 1) % 4294967296, resetKind := 0 }
         let t : State := if cleared then t else t.bookLog 0x02 ([by8 s.mode.prev.code, 0#8, 0x13#8, 0#8] ++ leBytes 4 t.mode.history)
         let t : State := t.bookLog 0x01 (leBytes 4 t.pins.straps ++ [by8 (b2n t.pins.refclk)])
         let t : State := (t.pwrM fun p => { p with doms := railsOff }).goMode .dormant 0
         if autoBoot && t.pins.resetN then t.requestBoot 0x11 else t))) ∧
    (∀ (s : State),
      exec .auxVinLost s = .next (State.settle
        ({ mode := { mode := .off, prev := s.mode.mode, cause := 0x13, bootCount := s.mode.bootCount, history := s.mode.history },
           pins := { auxVin := false, refclk := s.pins.refclk, resetN := s.pins.resetN, perstN := s.pins.perstN, safeReqN := s.pins.safeReqN,
                     takeN := s.pins.takeN, ownIn := s.pins.ownIn, pgIn := false, pwrReq := 0, pcieUp := false, testmode := s.pins.testmode },
           book := { records := s.book.records, marker := s.book.marker, otherMarker := s.book.otherMarker, fresh := s.book.fresh,
                     queue := [], justCleared := s.book.justCleared, mounted := false },
           pwr := { doms := List.replicate 33 .off },
           twin := { shakes := s.twin.shakes },
           out := s.out, free := s.free, pending := s.pending } : State))) ∧
    (∀ (s : State),
      exec .resetNAssert s = .next (State.settle
        (let t : State := s.pinsM fun p => { p with resetN := false }
         if s.coreUp && s.pins.refclk && !s.mode.resetHeld then t.coldAssert else t))) ∧
    (∀ (twinId : Bool) (testmode : Bool) (s : State), Ready.resetNDeassert s = true →
      exec (.resetNDeassert twinId testmode) s = .next (State.settle
        (let t : State := s.pinsM fun p => { p with resetN := true, twinId := twinId, testmodeSampled := testmode, testmode := testmode }
         if !s.pins.refclk then t
         else if s.mode.resetHeld then t.beginBoot
         else t.requestBoot 3))) ∧
    (∀ (s : State),
      exec .perstNAssert s = .next (State.settle
        (((s.pinsM fun p => { p with perstN := false, pcieUp := false }).hifM fun h => { h with bme := false }).warmReset 2))) ∧
    (∀ (s : State),
      exec .perstNDeassert s = .next (State.settle
        (s.pinsM fun p => { p with perstN := true, pcieUp := s.coreUp }))) ∧
    (∀ (s : State), Ready.pgInConfirm s = true →
      ∀ n, s.pwr.railStep = some n →
      exec .pgInConfirm s = .next (State.settle
        (let t : State := s.pinsM fun p => { p with pgIn := true }
         if n < 4 then (if t.pins.refclk then t.railGo (n + 1) else t)
         else ((t.pwrM fun p => { p with railStep := none }).pinsM fun p => { p with bootRequest := true }).tryBoot))) ∧
    (∀ (s : State), Ready.railTimeout s = true →
      ∀ n, s.pwr.railStep = some n →
      exec .railTimeout s = .next (State.settle
        ((((s.bookLog 0x15 [by8 n, 1#8]).pwrM fun p => { p with railStep := none }).pinsM fun p => { p with pwrReq := 0 }).bootFails))) ∧
    (∀ (s : State), Ready.pgInLost s = true →
      exec .pgInLost s = .next (State.settle
        (let u : State := (s.pinsM fun p => { p with pgIn := false }).bookLog 0x15 [4#8, 3#8]
         ((u.goMode .dormant 4).loseRails 4).modeM fun m => { m with pgLost := some (u.mode.mode.code, (u.goMode .dormant 4).mode.history) }))) ∧
    (∀ (s : State), Ready.pgInLost2 s = true →
      exec .pgInLost s = .next (State.settle
        ((((s.pinsM fun p => { p with pgIn := false }).bookLog 0x15 [4#8, 3#8]).pinsM fun p => { p with pwrReq := 0, bootRequest := false }).bootFails))) ∧
    (∀ (fail : Option (Nat × Nat)) (dimms : List (Option DimmInfo)) (s : State), Ready.bootComplete s = true →
      exec (.bootComplete fail dimms) s = .next (State.settle
        (match fail with
         | none => (s.bookLog 0x03 (leBytes 4 hifPart ++ leBytes 4 Config.microcodeId ++ [by8 31])).enterConfig dimms
         | some (k, pos) =>
           (s.bookLog 0x03 (leBytes 4 hifPart ++ leBytes 4 Config.microcodeId ++ [by8 (2 ^ ((k - 1) % 5) - 1)])).fault 8 0xFF 7
             (((k - 1) % 5 + 1) * 2 ^ 56 + pos % 2 ^ 56) 0))) ∧
    (∀ (s : State), Ready.refclkLost s = true →
      exec .refclkLost s = .next (State.settle
        (let t : State := (s.pinsM fun p => { p with refclk := false }).bookLog 0x16 [0#8]
         if t.coreUp then
           (let u : State := t.fault 9 0xFF 0 0 0
            if u.flt.due.length = t.flt.due.length then u.fltM fun f => { f with due := f.due ++ [.safe 5 none] } else u)
         else t))) ∧
    (∀ (s : State), Ready.refclkReturn s = true →
      exec .refclkReturn s = .next (State.settle
        (let t : State := (s.pinsM fun p => { p with refclk := true }).bookLog 0x16 [1#8]
         if t.coreUp && !t.pins.resetN then t.coldAssert else t.railNext.tryBoot))) ∧
    (∀ (asserted : Bool) (s : State),
      exec (.safeReqN asserted) s = .next (State.settle
        (let t : State := s.pinsM fun p => { p with safeReqN := !asserted }
         if !asserted then t
         else if s.mode.mode = .boot then t.modeM fun m => { m with safeDeferred := true }
         else t.enterSafe 7 none))) ∧
    (∀ (asserted : Bool) (s : State),
      exec (.takeN asserted) s = .next (State.settle
        (if asserted then (s.pinsM fun p => { p with takeN := false }).takeTrigger 0x0A else s.pinsM fun p => { p with takeN := true }))) ∧
    (∀ (cutting : List Nat) (s : State), Ready.ownInAssert cutting s = true →
      exec (.ownInAssert cutting) s = .next (State.settle
        (s.ownInHigh cutting))) ∧
    (∀ (cutting : List Nat) (s : State), Ready.ownInAssert2 cutting s = true →
      exec (.ownInAssert cutting) s = .next (State.settle
        ((((s.ownInHigh cutting).fault 0xE0 0xFF 0 0 0).twinCount 9).flushCipher))) ∧
    (∀ (cutting : List Nat) (s : State), Ready.ownInAssert3 cutting s = true →
      exec (.ownInAssert cutting) s = .next (State.settle
        (if (s.ownInHigh cutting).pins.twinId then (s.ownInHigh cutting).dropOwn.runM fun r => { r with wantOwn := true } else s.ownInHigh cutting))) ∧
    (∀ (s : State), Ready.ownInDeassert s = true →
      exec .ownInDeassert s = .next (State.settle
        (let t : State := s.pinsM fun p => { p with ownIn := false }
         if s.run.wantOwn then t.claimOwn else if s.run.owner then t.releaseCipher else t))) ∧
    (∀ (s : State), Ready.ownInDeassert2 s = true →
      exec .ownInDeassert s = .next (State.settle
        ((s.pinsM fun p => { p with ownIn := false }).takeOver
          (if !s.pins.takeN then 0x0A else if s.run.handoverIn || s.run.wantOwn then 0x0B else 0x09)))) ∧
    (∀ (s : State), Ready.claimWindowEnd s = true →
      exec .claimWindowEnd s = .next (State.settle
        ((s.runM fun r => { r with claim := false, owner := true }).releaseCipher)))

/-- Every row of capture edges, pulses and the temperature sensor has its effect (PPS_IN_EDGE, PULSE_EDGE, THERMAL_READ). -/
def Obligations.EdgeAndThermalEventsRun : Prop :=
    (∀ (i : Nat) (s : State), Ready.ppsInEdge i s = true →
      exec (.ppsInEdge i) s = .next (State.settle
        (s.timeM fun t => { t with caps := updAt t.caps i fun c =>
          if 16 ≤ c.fifo.length then { c with overflow := true }
          else { c with fifo := c.fifo ++ [(t.line.t, s.time.record.t)], last := some s.time.record.t } }))) ∧
    (∀ (o : Nat) (s : State), Ready.pulseEdge o s = true →
      exec (.pulseEdge o) s = .next (State.settle
        (let t : State := s.pulseEnd o
         (t.pulseM o fun p => { p with
           mode := if p.mode = 1 then 0 else p.mode
           next := p.next + p.period * 65536
           endAt := some (p.next + p.width * 65536), endRecord := p.record }).drivePps o (!(t.pulse o).low)))) ∧
    (∀ (temp : Int) (s : State), Ready.thermalRead s = true →
      exec (.thermalRead temp) s = .next (State.settle
        (let t : State := (s.diagM fun d => { d with temp := temp }).pinsM fun p =>
           { p with thermN := decide (110 ≤ temp) || (p.thermN && decide (105 ≤ temp)) }
         let t : State := if decide (110 ≤ temp) && !s.pins.thermN then t.fault 6 0xFF 0 temp.toNat 0 else t
         if 125 ≤ temp ∧ s.diag.temp < 125 then t.fault 7 0xFF 0 temp.toNat 0 else t)))

/-- Every row of port links, frames received and pause has its effect (LINK_UP, LINK_DOWN, FRAME_RECEIVE, PAUSE_REFRESH, PAUSE_RECEIVE, PFC_RECEIVE, PAUSE_EXPIRE, PAUSE_STORM_TRIP, PAUSE_STORM_CLEAR). -/
def Obligations.PortEventsRun : Prop :=
    (∀ (p : Nat) (s : State), Ready.linkUp p s = true →
      ∀ r, s.portRate p = some r →
      exec (.linkUp p) s = .next (State.settle
        (let m := s.mport p
         let us := min ((s.time.record.t - m.downAt) / 65536000) 4294967295
         let t : State := (s.mportM p fun m => { m with up := true }).postEvent 0x0101 p
           [wd (r + 8 * b2n (fecUsed r m) + 16 * b2n m.cipher), wd us]
         (t.tryLeave p).powerCheck))) ∧
    (∀ (p : Nat) (cause : Nat) (lane : Option Nat) (cutting : Bool) (receiving : Bool) (s : State), Ready.linkDown p lane s = true →
      exec (.linkDown p cause lane cutting receiving) s = .next (State.settle
        (let c := if cutting then s.cutFrame p else (0, s)
         let t : State := c.2.linkGoesDown p cause c.1
         if receiving then t.portCount p 12 1 else t))) ∧
    (∀ (p : Nat) (cause : Nat) (lane : Option Nat) (cutting : Bool) (receiving : Bool) (s : State), Ready.linkDown2 p s = true →
      ∀ l, lane = some l →
      l < 68 →
      cause = 1 →
      exec (.linkDown p cause lane cutting receiving) s = .next (State.settle
        (let c := if cutting then s.cutFrame p else (0, s)
         let t : State := c.2.linkGoesDown p 1 c.1
         (if receiving then t.portCount p 12 1 else t).fault (0x180 + l) 0xFF 0 l 0))) ∧
    (∀ (p : Nat) (frame : Bytes) (fec : Nat × Nat) (s : State), Ready.frameReceive p s = true →
      exec (.frameReceive p frame fec) s = .next (State.settle
        (let t : State := (((s.portCount p 0 fec.1).portCount p 1 fec.2).portCount p 2 1).perf (2 * (p / 8)) 0x10 1
         let t : State := if (s.mport p).en then t.wakeChain else t
         if (s.mport p).loopback = 2 then (if t.mode.mode.sends then t.emit (.frame p frame false) else t)
         else
           match t.macCheck p frame with
           | (false, u) => u
           | (true, u) =>
             if u.mode.mode.forwards && u.mode.mode != .drain then u.arrive p (frame.take (frame.length - 4)) frame.length
             else u.portCount p 12 1))) ∧
    (∀ (p : Nat) (s : State), Ready.pauseRefresh p s = true →
      exec (.pauseRefresh p) s = .next (State.settle
        (if (s.lb p).fcMode = 1 then s.sendPause p (s.lb p).xoffQuanta else s.sendPfc p (s.lb p).pfcOn (s.lb p).xoffQuanta))) ∧
    (∀ (p : Nat) (quanta : Nat) (s : State), Ready.pauseReceive p s = true →
      exec (.pauseReceive p quanta) s = .next (State.settle
        ((s.portCount p 7 1).mportM p fun m => { m with pause := quanta }))) ∧
    (∀ (p : Nat) (mask : Nat) (times : List Nat) (s : State), Ready.pfcReceive p s = true →
      exec (.pfcReceive p mask times) s = .next (State.settle
        ((s.portCount p 7 1).mportM p fun m => { m with
          pfc := (List.range 8).map fun i => if nbit mask i then nth times i 0 else nth m.pfc i 0 }))) ∧
    (∀ (p : Nat) (prio : Option Nat) (s : State), Ready.pauseExpire p s = true →
      exec (.pauseExpire p prio) s = .next (State.settle
        (s.mportM p fun m => match prio with
          | none => { m with pause := 0 }
          | some i => { m with pfc := updAt m.pfc i fun _ => 0 }))) ∧
    (∀ (p : Nat) (s : State), Ready.pauseStormTrip p s = true →
      exec (.pauseStormTrip p) s = .next (State.settle
        ((((s.mportM p fun m => { m with tripped := true }).portCount p 9 1).enterFlush p).postEvent 0x0104 p
          [wd (1 + 256 * (s.mport p).pausedMask), wd (s.mport p).stormMs]))) ∧
    (∀ (p : Nat) (s : State), Ready.pauseStormClear p s = true →
      exec (.pauseStormClear p) s = .next (State.settle
        ((s.clearTrip p).tryLeave p)))

/-- Every row of ingress, slices, fragments, reordering and pools has its effect (INGRESS_CIPHER, SA_FETCH_DONE, SA_FETCH_RETRY, DISTRIBUTION_ROUND, SLICE_PASS, SLICE_TIMEOUT, FRAG_HOLD_TIMEOUT, FRAG_ENTRY_REMOVAL, REORDER_RELEASE, RESIDUE_WRITE, RESIDUE_AGED, POOL_REBUILD). -/
def Obligations.ForwardingEventsRun : Prop :=
    (∀ (g : Nat) (s : State), Ready.ingressCipher g s = true →
      ∀ f rest, (nth s.ing.groups g {}).pend = f :: rest →
      exec (.ingressCipher g) s = .next (State.settle
        (let known := (nth s.ing.groups g {}).found
         match s.inbound f.pkt known with
         | (.land p, t) => (t.popPend g).landQueue g { f with pkt := p }
         | (.discard r, t) => (t.popPend g).cipherDiscard g f r
         | (.stall i, t) =>
           (((if known.isSome then t else t.saHold i).saM i fun r => { r with fetching := true }).ingM fun y => { y with
             groups := updAt y.groups g fun z => { z with stalled := some i, found := some i } }).cipCount g 15))) ∧
    (∀ (sa : Nat) (s : State), Ready.saFetchDone sa s = true →
      exec (.saFetchDone sa) s = .next (State.settle
        ((((s.fetchSa sa).2.saM sa fun r => { r with fetching := false }).unstall sa ((s.fetchSa sa).1 == .noWay)).retireDone sa))) ∧
    (∀ (s : State),
      exec .saFetchRetry s = .next (State.settle
        (let t : State := s.sched.queues.foldl (fun (u : State) (e : Nat × FQueue) =>
           if e.2.en then (e.2.q.take 2).foldl (fun (w : State) h => if h.copy.intent != 0 then w.askFetch h.copy.binding else w) u else u) s
         t.cip.egress.foldl (fun (u : State) (e : Nat × List Sel) =>
           (e.2.take 1).foldl (fun (w : State) x => if x.copy.intent != 0 then w.askFetch x.copy.binding else w) u) t))) ∧
    (∀ (held : Bool) (s : State), Ready.distributionRound held s = true →
      exec (.distributionRound held) s = .next (State.settle
        (let t : State := s.ingM fun i => { i with ptr := (i.ptr + 1) % 11 }
         (((List.range 11).flatMap fun i => if (s.ing.ptr + i) % 11 = 9 then [9, 9] else [(s.ing.ptr + i) % 11]).foldl State.offer (t, t.openSlices)).1))) ∧
    (∀ (k : Nat) (s : State), Ready.slicePass k s = true →
      exec (.slicePass k) s = .next (State.settle
        (s.passFirst k))) ∧
    (∀ (k : Nat) (s : State), Ready.sliceTimeout k s = true →
      ∀ p b, ((s.slice k).held.find? fun h => !h.2) = some (p, b) →
      exec (.sliceTimeout k) s = .next (State.settle
        (let t : State := s.sliceM k fun x => { x with
           timeouts := satAdd 16 x.timeouts 1
           held := x.held.map fun h => if h.1.source == p.source && h.1.seq == p.seq then (h.1, true) else h }
         let t : State := ((t.updatesStand p).reorder p (.hole p.seq)).sourceM p.source fun z => { z with holeTimeout := sat32 z.holeTimeout }
         let t : State := t.slotM p.slot fun x => { x with pass := x.pass - 1 }
         let t : State := match t.fragOwn p with
           | some i => t.fragRemove i
           | none => t
         (t.sliceDone k).fault (0x10 + k) (0x30 + k) 0 p.distTag 0))) ∧
    (∀ (s : State), Ready.fragHoldTimeout s = true →
      ∀ h r, s.frag.held = h :: r →
      exec .fragHoldTimeout s = .next (State.settle
        ((((s.fragM fun f => { f with held := r }).endHeld h).fragCount 5).dropReason 0x19))) ∧
    (∀ (s : State), Ready.fragHoldTimeout2 s = true →
      ∀ h r, s.frag.held = h :: r →
      exec .fragHoldTimeout s = .next (State.settle
        (((((s.writeCopy h.pkt.source (s.orphanCopy h) true false).2.fragM fun f => { f with held := r }).endHeld h).fragCount 5).hostReason 0x19))) ∧
    (∀ (i : Nat) (s : State), Ready.fragEntryRemoval i s = true →
      exec (.fragEntryRemoval i) s = .next (State.settle
        ((s.fragRemove i).fragCount 8))) ∧
    (∀ (i : Nat) (s : State), Ready.fragEntryRemoval2 i s = true →
      exec (.fragEntryRemoval i) s = .next (State.settle
        ((s.fragRemove i).fragCount 9))) ∧
    (∀ (src : Nat) (s : State),
      exec (.reorderRelease src) s = .next (State.settle
        (s.releaseHeads src 4))) ∧
    (∀ (src : Nat) (col : Nat) (s : State), Ready.residueWrite src col s = true →
      ∀ r rest, s.residueAt src col = r :: rest →
      exec (.residueWrite src col) s = .next (State.settle
        (((s.writeCopy src r.copy false false).2.popResidue src col).endResidue src r))) ∧
    (∀ (src : Nat) (col : Nat) (s : State), Ready.residueAged src col s = true →
      ∀ r rest, s.residueAt src col = r :: rest →
      exec (.residueAged src col) s = .next (State.settle
        (((s.popResidue src col).xpM src col fun x => { x with aged := sat32 x.aged }).endResidue src r))) ∧
    (∀ (col : Nat) (pool : Nat) (s : State), Ready.poolRebuild col pool s = true →
      exec (.poolRebuild col pool) s = .next (State.settle
        (s.colM col fun k => { k.rebuild pool with counts := updAt k.counts 7 sat32 })))

/-- Every row of scheduling, egress and host traffic has its effect (SELECTION, SHAPER_REFILL, ADAPTIVE_QUANTUM, EGRESS_CIPHER, FRAME_TRANSMIT, FLUSH_MARKERS_PASSED, HOST_TX_FETCH, HOST_RX_DELIVERY, HOST_RING_STALLED). -/
def Obligations.EgressEventsRun : Prop :=
    (∀ (p : Nat) (s : State), Ready.selection p s = true →
      ∀ x top, (s.selectCount p).pickClass p ((s.selectCands p).filter fun x => (s.selectCount p).classOk p x) = some (x, top) →
      exec (.selection p) s = .next (State.settle
        (let t : State := ((s.selectCount p).sample p x.cls x.cand.pick.id x.cand.ent).chargePath p x top
         let t : State := if p < 64 then t.schedM fun k => { k with rr := updAt k.rr (p / 8) fun _ => (p + 1) % 8 } else t
         (t.takeFrame p x).emptyDeficits p x.cls x.cand.grp x.cand.pick.id))) ∧
    (∀ (kind : Nat) (n : Nat) (s : State), Ready.shaperRefill n s = true →
      kind = 0 →
      exec (.shaperRefill kind n) s = .next (State.settle
        (s.fqM n fun f => { f with shaper := f.shaper.refill }))) ∧
    (∀ (kind : Nat) (n : Nat) (s : State), Ready.shaperRefill2 n s = true →
      kind = 1 →
      exec (.shaperRefill kind n) s = .next (State.settle
        (s.sgrpM n fun g => { g with shaper := g.shaper.refill }))) ∧
    (∀ (kind : Nat) (n : Nat) (s : State), Ready.shaperRefill3 n s = true →
      kind = 2 →
      exec (.shaperRefill kind n) s = .next (State.settle
        (s.nodeM n fun d => { d with shaper := d.shaper.refill }))) ∧
    (∀ (g : Nat) (s : State), Ready.adaptiveQuantum g s = true →
      exec (.adaptiveQuantum g) s = .next (State.settle
        (let x := s.sgrp g
         let qs := s.backlog g
         let need := ceilDiv x.mean (qs.foldl min 65535 * 65536)
         let room := x.bound * s.groupRate x / (8000000 * sumL qs)
         s.sgrpM g fun y =>
           { y with kNext := max 1 (min need (min room (16777215 / qs.foldl max 0))), miss := if room < 1 then sat32 y.miss else y.miss }))) ∧
    (∀ (g : Nat) (s : State), Ready.egressCipher g s = true →
      ∀ x rest, Tbl.lookD s.cip.egress g [] = x :: rest →
      exec (.egressCipher g) s = .next (State.settle
        (let t : State := s.cipM fun k => { k with egress := Tbl.put k.egress g rest }
         if x.copy.intent = 0 then
           (if x.copy.bypass then t.cipCount g 14 else t).toMac x.port
             { bytes := x.copy.bytes, mark := false, bypass := x.copy.bypass, sa := none, charged := x.charged, plan := x.plan, oneStep := x.oneStep }
         else t.encrypt g x))) ∧
    (∀ (p : Nat) (s : State), Ready.frameTransmit p s = true →
      ∀ t r, (s.mport p).tx = t :: r →
      exec (.frameTransmit p) s = .next (State.settle
        (let u : State := s.mportM p fun m => { m with tx := r }
         if u.guardStops p t then
           ((((u.mportM p fun m => { m with guardDiscards := sat32 m.guardDiscards }).cipCount (p / 8) 11).fault (0xC0 + p / 8) (0x40 + p / 8) 0 p 0).txRelease t)
         else ((u.stampTx p t (t.plan.getD s.time.line.t)).onWire p t).txRelease t))) ∧
    (∀ (p : Nat) (s : State), Ready.flushMarkersPassed p s = true →
      exec (.flushMarkersPassed p) s = .next (State.settle
        ((s.freeMarked p).portEnabled p))) ∧
    (∀ (t : Nat) (descs : List (Bytes × Bytes)) (s : State), Ready.hostTxFetch t descs s = true →
      ∀ ch, chainOf (descs.take (((s.txRing t).host + 65536 - (s.txRing t).engine) % 65536)) = some ch →
      exec (.hostTxFetch t descs) s = .next (State.settle
        ((s.perfHost 0x12 1).runChain t ch))) ∧
    (∀ (t : Nat) (descs : List (Bytes × Bytes)) (s : State), Ready.hostTxFetch2 t s = true →
      ∀ n fs, Tbl.look s.hst.pieces t = some (n, fs) →
      exec (.hostTxFetch t descs) s = .next (State.settle
        ((s.turned t).nextPiece t n fs))) ∧
    (∀ (t : Nat) (descs : List (Bytes × Bytes)) (s : State), Ready.hostTxFetch3 t descs s = true →
      exec (.hostTxFetch t descs) s = .next (State.settle
        ((((s.perfHost 0x12 1).turned t).txCount t 2 1).hostAdvance false t (s.txRing t).size))) ∧
    (∀ (s : State), Ready.hostRxDelivery s = true →
      ∀ x rest, s.hst.sel = x :: rest →
      exec .hostRxDelivery s = .next (State.settle
        (let k := x.ring
         let b := s.rxBytes x.ent
         let u : State := (List.range x.descs).foldl (fun (u : State) i =>
           let d := (b.drop (i * (s.rxRing k).bufSize)).take (s.rxRing k).bufSize
           (u.emit (.hostRx k (((s.rxRing k).engine + i) % 65536) (rxDesc u x i x.descs d.length) d)).perfHost 0x13 1)
           (s.hstM fun h => { h with sel := rest })
         let u : State := u.rxM k fun r => { r with
           reserved := r.reserved - x.descs
           counts := updAt (updAt r.counts 0 sat32) 1 fun v => wrapAdd 32 v b.length }
         ((u.hostAdvance true k x.descs).readOut x.ent).bwmAdd 64 b.length))) ∧
    (∀ (r : Nat) (s : State), Ready.hostRingStalled r s = true →
      ∀ q e, (s.setWaiters.rxRing r).waiter = some q →
      s.setWaiters.headOf q = some e →
      exec (.hostRingStalled r) s = .next (State.settle
        (let t : State := s.setWaiters
         ((t.postEvent 0x0B01 r [wd (t.rxNeed (t.rxRing r) e), wd (t.rxRing r).freeDescs]).discardHead q e).rxM r fun x => { x with
           stalled := true, waiter := none, stallDrops := 1
           counts := updAt (updAt x.counts 3 sat32) 5 sat32 })))

/-- Every row of epochs, sweeps, scrubs, self-checks and the cellar book has its effect (EPOCH_RETIRE, COMMIT_CYCLE, SWEEP, REBASING_PASS, TCAM_SCRUB, TCAM_REPAIR, COLLECTOR_PARITY, CIPHER_KAT, BOOK_COMMIT). -/
def Obligations.VintageAndRepairEventsRun : Prop :=
    (∀ (slot : Nat) (s : State), Ready.epochRetire slot s = true →
      exec (.epochRetire slot) s = .next (State.settle
        (let t : State := s.slotM slot fun y => { y with live := false }
         let t : State := (t.vinM fun k => { k with retired := sat32 k.retired, sweepDue := k.sweepDue || t.oldest != s.oldest }).postEvent 0x0501
           (nth s.vin.slots slot {}).epoch [wd slot, wd (min ((s.time.record.t - (nth s.vin.slots slot {}).superseded) / 65536000) 4294967295)]
         match t.vin.vint with
         | some v => if v.state == .waitSlot then t.commitWake false else t
         | none => t))) ∧
    (∀ (s : State), Ready.commitCycle s = true →
      exec .commitCycle s = .next (State.settle
        (s.commitCycle .ok 0))) ∧
    (∀ (s : State), Ready.commitCycle2 s = true →
      exec .commitCycle s = .next (State.settle
        (s.commitSlot))) ∧
    (∀ (s : State), Ready.commitCycle3 s = true →
      exec .commitCycle s = .next (State.settle
        (s.commitCycle .ok 0))) ∧
    (∀ (s : State),
      exec .sweep s = .next (State.settle
        (s.sweepAll.perfLookup 0x14 (s.ruleCount - s.sweepAll.ruleCount)))) ∧
    (∀ (s : State),
      exec .rebasingPass s = .next (State.settle
        (s.rebaseAll))) ∧
    (∀ (s : State),
      exec .tcamScrub s = .next (State.settle
        (s.tcamScrub))) ∧
    (∀ (b : Bool) (s : State), Ready.tcamRepair b s = true →
      ∀ r rest, (if b then s.tcam.repairB else s.tcam.repairA) = r :: rest →
      exec (.tcamRepair b) s = .next (State.settle
        ((s.tcamShadow (s.tcam.headOf r) (s.tcam.rowsAt r) 0x50 1).2.tcamM fun t =>
          if b then { t with repairB := rest, diffB := t.diffB.filter fun e => !(s.tcam.rowsAt r).contains e.1 }
          else { t with repairA := rest, diffA := t.diffA.filter fun e => !(s.tcam.rowsAt r).contains e.1 }))) ∧
    (∀ (err : Option Nat) (s : State), Ready.collectorParity err s = true →
      exec (.collectorParity err) s = .next (State.settle
        (s.fault 0 0xFF 7 ((s.flt.collectorFlip.orElse fun _ => err).getD 0) 0))) ∧
    (∀ (err : Option Nat) (s : State), Ready.collectorParity2 err s = true →
      exec (.collectorParity err) s = .next (State.settle
        ((s.fault 0 0xFF 7 ((s.flt.collectorFlip.orElse fun _ => err).getD 0) 0).fltM fun f =>
          { f with due := f.due ++ [.safe 6 (Tbl.lookD f.src 0 {}).capture] }))) ∧
    (∀ (g : Nat) (bad : Option Nat) (s : State), Ready.cipherKat g s = true →
      ∀ x, bad = some x →
      exec (.cipherKat g bad) s = .next (State.settle
        (s.fault (0xC8 + g % 8) (0x40 + g % 8) 7 (x % 2) 0))) ∧
    (∀ (ok : Bool) (s : State), Ready.bookCommit ok s = true →
      ∀ r rest, s.book.queue = r :: rest →
      exec (.bookCommit ok) s = .next (State.settle
        (let ring := r.slot.isNone
         let i := r.slot.getD s.book.marker.nextIdx
         let p := s.markPending ring i
         let seq := wrapAdd 32 s.book.marker.headSeq 1
         let t : State := s.bookM fun k => { k with
           queue := rest, records := Tbl.put k.records i (recordBytes r.body seq s.mode.bootCount), otherMarker := p
           marker := p.commit ring i seq (byteAt r.body 0) s.mode.bootCount, committed := sat32 k.committed, justCleared := byteAt r.body 0 == 0x20 }
         if ring then t else t.setAlert 2))) ∧
    (∀ (ok : Bool) (s : State), Ready.bookCommit2 ok s = true →
      ∀ r rest, s.book.queue = r :: rest →
      exec (.bookCommit ok) s = .next (State.settle
        (let i := r.slot.getD s.book.marker.nextIdx
         (s.drawn.bookM fun k => { k with
           queue := rest, records := Tbl.put k.records i (leBytes 256 (Config.freeValue s.free)), otherMarker := k.marker
           marker := s.markPending r.slot.isNone i }).fault 5 0xFF 2 i 0)))

/-- Every row of draining, the Trellis link, pairing and takeover has its effect (DRAIN_COMPLETE, DRAIN_TIMEOUT, TRELLIS_LINK_UP, TRELLIS_LINK_DOWN, TRELLIS_FRAME, HELLO, PROOF, HANDSHAKE_RETRY, HEARTBEAT_SEND, HEARTBEAT, HEARTBEAT_MISSED, LEAP_COMPLETE, ACK, SYNC_BEGIN, SYNC_END, SYNC_RESULT, HANDOVER, HANDOVER_TIMEOUT, HANDOVER_DONE). -/
def Obligations.TwinLinkEventsRun : Prop :=
    (∀ (s : State), Ready.drainComplete s = true →
      exec .drainComplete s = .next (State.settle
        (s.endDrain 0x0E))) ∧
    (∀ (s : State), Ready.drainTimeout s = true →
      exec .drainTimeout s = .next (State.settle
        (let t : State := s.dropAllPackets true
         (((Tbl.keys t.mac.ports).foldl (fun u p => u.fcUpdate p) t).snapAbort 3).endDrain 0x0F))) ∧
    (∀ (s : State), Ready.trellisLinkUp s = true →
      exec .trellisLinkUp s = .next (State.settle
        (let t : State := s.twinM fun t => { t with linkUp := true }
         if s.twin.st = .linkDown then t.beginAuth 1 else t))) ∧
    (∀ (s : State), Ready.trellisLinkDown s = true →
      exec .trellisLinkDown s = .next (State.settle
        (s.trellisLost 2))) ∧
    (∀ (counter : Nat) (credit : Nat) (fcsOk : Bool) (tagOk : Bool) (s : State), Ready.trellisFrame counter fcsOk tagOk s = true →
      exec (.trellisFrame counter credit fcsOk tagOk) s = .next (State.settle
        ((s.twinM fun t => { t with rxCounter := counter, credits := t.credits + credit }).perfTrellis 0x11 1))) ∧
    (∀ (counter : Nat) (credit : Nat) (fcsOk : Bool) (tagOk : Bool) (s : State), Ready.trellisFrame2 counter fcsOk tagOk s = true →
      exec (.trellisFrame counter credit fcsOk tagOk) s = .next (State.settle
        (((s.twinCount 8).fault 0xE2 0x22 0 counter 0).trellisLost 5))) ∧
    (∀ (body : Bytes) (s : State), Ready.hello body s = true →
      exec (.hello body) s = .next (State.settle
        (let t : State := s.twinM fun t => { t with partnerHello := some (twinMsg 1 body), partnerStride := (Hello.ofBody body).strideLog2 }
         let m := t.twin.transcript s.pins.twinId ++ [by8 (b2n s.pins.twinId)]
         let g := P384.sign identityScalar (P384.scalar (Config.ecdsaNonce s.free)) m
         let msg := twinMsg 2 (beBytes 48 g.1 ++ beBytes 48 g.2)
         t.drawn.emit (.trellis msg (trellisClear msg))))) ∧
    (∀ (body : Bytes) (s : State), Ready.proof s = true →
      exec (.proof body) s = .next (State.settle
        (s.authFail))) ∧
    (∀ (body : Bytes) (s : State), Ready.proof2 body s = true →
      ∀ ph, s.twin.partnerHello = some ph →
      P384.verify (Hello.ofBody (ph.drop 4)).idX (Hello.ofBody (ph.drop 4)).idY
      (s.twin.transcript s.pins.twinId ++ [by8 (Hello.ofBody (ph.drop 4)).twinId]) (beAt body 0 48) (beAt body 48 48) = true →
      exec (.proof body) s = .next (State.settle
        (let f := P384.fingerprint (Hello.ofBody (ph.drop 4)).idX (Hello.ofBody (ph.drop 4)).idY
         let t : State := s.twinM fun k => { k with
           keys := some (sessionKeys (P384.ecdh s.twin.ephemeral (Hello.ofBody (ph.drop 4)).ephX (Hello.ofBody (ph.drop 4)).ephY)
             (s.twin.transcript s.pins.twinId))
           fingerprint := some f, ephemeral := 0, txCounter := 0, rxCounter := 0, mirrorSent := 0
           acked := 0, applied := 0, sent := [], credits := 1024, creditBack := 0, misses := 0, hbRx := none, hbSent := [] }
         if s.book.marker.fingerprint = some f then (t.twinGo .paired 1).onPaired
         else (t.twinGo .stranger 1).postEvent 0x0C02 0 (bytesWords f)))) ∧
    (∀ (s : State), Ready.handshakeRetry s = true →
      exec .handshakeRetry s = .next (State.settle
        (s.beginAuth 1))) ∧
    (∀ (s : State), Ready.heartbeatSend s = true →
      exec .heartbeatSend s = .next (State.settle
        (let t : State := s.twinM fun t => { t with hbSeq := (t.hbSeq + 1) % 4294967296 }
         let t : State := t.twinSend 0 0x03 t.heartbeatBody
         t.twinM fun k => { k with hbSent := ((k.hbSeq, t.time.record.t) :: k.hbSent).take 16 }))) ∧
    (∀ (body : Bytes) (s : State), Ready.heartbeat s = true →
      exec (.heartbeat body) s = .next (State.settle
        (let f := byteAt body 4
         let t : State := s.twinM fun t => { t with
           hbRx := some (leNat (bytesAt body 0 4), s.time.record.t), misses := 0
           rtt := match s.twin.hbSent.find? fun e => e.1 == leNat (bytesAt body 8 4) with
             | some (_, t0) => (s.time.record.t - t0) / 65536 - leNat (bytesAt body 12 4)
             | none => s.twin.rtt
           partnerMode := f % 16, partnerReq := nbit f 6, partnerHairpin := nbit f 7 }
         let t : State := if f % 16 = 6 then t
           else if s.mode.mode == .twinActive then ((t.goMode .forward 0x14).leaveActive).twinGo .paired 0
           else if s.mode.mode == .takeover && s.run.leapWait.isSome then t.takeoverEnd false
           else t
         if s.twin.partnerHairpin = t.twin.partnerHairpin then t
         else if t.mayRun 66 then t.tryLeave 66 else t.enterFlush 66))) ∧
    (∀ (s : State), Ready.heartbeatMissed s = true →
      exec .heartbeatMissed s = .next (State.settle
        (let t : State := (s.twinCount 0).twinM fun t => { t with misses := t.misses + 1 }
         if 3 ≤ t.twin.misses then t.trellisLost 3 else t))) ∧
    (∀ (s : State), Ready.leapComplete s = true →
      exec .leapComplete s = .next (State.settle
        (let t : State := s.leapRest
         let n := t.outSas.length
         let w0 := t.twin.st.code + 256 * t.twin.partnerMode + 65536 * b2n t.twin.stale + 131072 * b2n t.pins.ownIn
         let t : State := (t.setCause 6).postEvent 0x0C01 t.twin.st.code
           [wd w0, wd 8, wd (if t.run.leapStale then 0 else n), wd (if t.run.leapStale then n else 0)]
         let t : State := (t.runM fun r => { r with leaping := false, leapt := [] }).releaseCipher
         if t.twin.up && t.twin.partnerMode == 6 then
           let t : State := t.outSas.foldl (fun u e => u.sendNumber e.1 e.2) t
           let t : State := t.replaySas.foldl (fun u e => u.sendWindow e.1 e.2) t
           if t.twin.mirrorSent ≤ t.twin.acked then t.takeoverEnd true
           else t.runM fun r => { r with leapWait := some t.twin.mirrorSent }
         else t.takeoverEnd false))) ∧
    (∀ (counter : Nat) (refused : Option Nat) (s : State), Ready.ack s = true →
      exec (.ack counter refused) s = .next (State.settle
        (let t : State := s.takeAck counter refused
         (match t.run.leapWait with
          | some c => if t.mode.mode == Mode.takeover && decide (c ≤ t.twin.acked) then t.takeoverEnd true else t
          | none => t).landBatch))) ∧
    (∀ (epoch : Nat) (s : State), Ready.syncBegin epoch s = true →
      exec (.syncBegin epoch) s = .next (State.settle
        (s.syncEnter epoch))) ∧
    (∀ (epoch : Nat) (s : State), Ready.syncBegin2 epoch s = true →
      exec (.syncBegin epoch) s = .next (State.settle
        (s.sendResult 14 2))) ∧
    (∀ (epoch : Nat) (s : State), Ready.syncBegin3 s = true →
      exec (.syncBegin epoch) s = .next (State.settle
        ((((s.runM fun r => { r with syncActive := false, syncEnded := false }).twinGo .paired 7).modeEnd .twinRefused 6).sendResult 14 2))) ∧
    (∀ (s : State), Ready.syncEnd s = true →
      ∀ v, s.vin.vint = some v →
      exec .syncEnd s = .next (State.settle
        (match s.syncCheck v with
         | none =>
           let t : State := (((s.sendResult 0 0).syncAdopt v).goMode .twinStandby 0x12).twinGo .inSync 6
           (t.modeEnd .ok t.modeDetail).mirrorDone
         | some (st, d) =>
           (((s.sendResult st d).undoVint).twinGo .paired 7).modeEnd .twinRefused (4 + 256 * st + 65536 * (d % 65536))))) ∧
    (∀ (status : Nat) (detail : Nat) (s : State), Ready.syncResult s = true →
      exec (.syncResult status detail) s = .next (State.settle
        (let t : State := s.runM fun r => { r with syncActive := false, syncEnded := false }
         if status = 0 then
           ((((t.goMode .twinActive 0x12).twinGo .inSync 6).claimOwn).modeEnd .ok (((t.goMode .twinActive 0x12).twinGo .inSync 6).claimOwn).modeDetail).mirrorDone
         else
           ((t.twinGo .paired 7).modeEnd .twinRefused (4 + 256 * (status % 256) + 65536 * (detail % 65536))).twinM fun k => { k with m := [], sent := [] }))) ∧
    (∀ (s : State), Ready.handover s = true →
      exec .handover s = .next (State.settle
        ((s.runM fun r => { r with handoverIn := true }).takeTrigger 0x0B))) ∧
    (∀ (s : State), Ready.handover2 s = true →
      exec .handover s = .next (State.settle
        (s.startHandover))) ∧
    (∀ (s : State), Ready.handover4 s = true →
      exec .handover s = .next (State.settle
        (s.runM fun r => { r with handoverIn := true }))) ∧
    (∀ (s : State), Ready.handover3 s = true →
      exec .handover s = .next (State.settle
        (s.twinSend 0 0x09 (leBytes 4 1)))) ∧
    (∀ (s : State), Ready.handoverTimeout s = true →
      exec .handoverTimeout s = .next (State.settle
        ((s.runM fun r => { r with handoverIn := false }).twinSend 0 0x09 (leBytes 4 1)))) ∧
    (∀ (ok : Bool) (s : State), Ready.handoverDone s = true →
      exec (.handoverDone ok) s = .next (State.settle
        (if ok then
           (((s.runM fun r => { r with handoverOut := false }).twinCount 6).modeEnd .ok s.modeDetail)
         else s.handoverRefused))) ∧
    (∀ (ok : Bool) (s : State), Ready.handoverDone2 ok s = true →
      exec (.handoverDone ok) s = .next (State.settle
        ((s.runM fun r => { r with askedHandover := false }).completePended (fun t => t.opcode == 0x0C02) .twinRefused 2 [])))

/-- Every row of messages of the twin has its effect (VINTAGE_OPEN, VINTAGE_STAGE, PREPARE, READY, REFUSE, VINTAGE_COMMIT, VINTAGE_ABORT, NUMBER, WINDOW, CONTEXT, BINDING, SCI, RETIRE, PORT, MBX, MBX_STATE, LOCK_REQ, LOCK_RESULT, HAIRPIN). -/
def Obligations.TwinMessageEventsRun : Prop :=
    (∀ (handle : Nat) (s : State), Ready.vintageOpen handle s = true →
      exec (.vintageOpen handle) s = .next (State.settle
        (s.openWith handle))) ∧
    (∀ (handle : Nat) (s : State), Ready.vintageOpen2 handle s = true →
      exec (.vintageOpen handle) s = .next (State.settle
        (s.twinSend 0 0x14 (leBytes 4 handle ++ leBytes 4 1 ++ leBytes 4 0)))) ∧
    (∀ (words : List Word) (s : State), Ready.vintageStage s = true →
      exec (.vintageStage words) s = .next (State.settle
        (match stagedBody (embedded (stagePkt 0 []) words).1 with
         | none => s.vintM fun v => { v with diverged := true }
         | some body =>
           match stageOne (embedded (stagePkt 0 []) words).1 body (embedded (stagePkt 0 []) words).2 s with
           | .done .ok _ _ t => t
           | .done .noResource _ _ t => (s.refusedOf t).vintM fun v => { v with diverged := true }
           | _ => s.vintM fun v => { v with diverged := true }))) ∧
    (∀ (handle : Nat) (ops : Nat) (digest : Word) (at_ : Option Nat) (s : State), Ready.prepare handle ops digest s = true →
      exec (.prepare handle ops digest at_) s = .next (State.settle
        ((s.vintM fun v => { v with prepareSeen := true, at? := at_ }).commitSlot))) ∧
    (∀ (handle : Nat) (ops : Nat) (digest : Word) (at_ : Option Nat) (s : State), Ready.prepare2 handle ops digest s = true →
      exec (.prepare handle ops digest at_) s = .next (State.settle
        (s.refuseVint handle 1 0))) ∧
    (∀ (handle : Nat) (ops : Nat) (digest : Word) (at_ : Option Nat) (s : State), Ready.prepare3 s = true →
      exec (.prepare handle ops digest at_) s = .next (State.settle
        (s.refuseVint handle 1 0))) ∧
    (∀ (handle : Nat) (s : State), Ready.ready handle s = true →
      exec (.ready handle) s = .next (State.settle
        (s.commitTime))) ∧
    (∀ (handle : Nat) (detail : Nat) (index : Nat) (s : State), Ready.refuse handle s = true →
      ∀ v, s.vin.vint = some v →
      exec (.refuse handle detail index) s = .next (State.settle
        ((s.vintM fun v => { v with state := .opened, at? := none }).completePended (isCommitOf v) .twinRefused detail
          [0#32, if detail % 256 = 3 then wd index else 0#32]))) ∧
    (∀ (handle : Nat) (s : State), Ready.vintageCommit handle s = true →
      exec (.vintageCommit handle) s = .next (State.settle
        (s.commitCycle .ok 0))) ∧
    (∀ (handle : Nat) (s : State), Ready.vintageAbort handle s = true →
      exec (.vintageAbort handle) s = .next (State.settle
        (s.abortVint))) ∧
    (∀ (k : Nat) (body : Bytes) (s : State), Ready.number s = true →
      exec (.number k body) s = .next (State.settle
        (let i := leNat (bytesAt body 0 3) % 4194304
         let x := s.resident i
         (if x.1 && ((x.2.ctx i).map Sa.outbound) == some true then
            x.2.ctxM i fun a => { a with
              pn := leNat (bytesAt body 4 8), thrRaised := nbit (byteAt body 3) 0, exhausted := nbit (byteAt body 3) 1, frozen := nbit (byteAt body 3) 2 }
          else x.2).acks k none))) ∧
    (∀ (k : Nat) (body : Bytes) (s : State), Ready.window s = true →
      exec (.window k body) s = .next (State.settle
        (let i := leNat (bytesAt body 0 4)
         let x := s.resident i
         (if x.1 && ((x.2.ctx i).map fun a => !a.outbound && !a.replayOff) == some true then
            x.2.ctxM i fun a => a.merge (leNat (bytesAt body 4 8)) (leNat (body.drop 12))
          else x.2).acks k none))) ∧
    (∀ (k : Nat) (body : Bytes) (s : State), Ready.context body s = true →
      exec (.context k body) s = .next (State.settle
        (match s.placeSa (leNat (bytesAt body 0 4) % 4194304) (Sa.ofBytes (bytesAt body 4 104) (leNat (bytesAt body 108 128))) with
         | .error d => s.acks k (some (7, d))
         | .ok (_, t) => t.acks k none))) ∧
    (∀ (k : Nat) (body : Bytes) (s : State), Ready.context2 body s = true →
      exec (.context k body) s = .next (State.settle
        (let i := leNat (bytesAt body 0 4) % 4194304
         let a := Sa.ofBytes (bytesAt body 4 104) (leNat (bytesAt body 108 128))
         let x := s.resident i
         if x.1 then
           ((x.2.ctxM i fun _ => a).saM i fun r => { r with pin := a.pin, wasBound := a.wasBound, includeSci := a.includeSci }).acks k none
         else x.2.acks k (some (7, 4))))) ∧
    (∀ (k : Nat) (body : Bytes) (s : State), Ready.binding s = true →
      exec (.binding k body) s = .next (State.settle
        (let n := leNat (bytesAt body 0 4) % 65536
         let e := body.drop 4
         let x := leNat (bytesAt e 0 4)
         let i := x % 4194304
         let f := byteAt e 3
         let new : Binding :=
           { sa := i, valid := nbit x 22, group := f % 8, esp := nbit f 3, tunnel := nbit f 4, udp := nbit f 5
             generation := ((s.sa i).map fun (r : SaRes) => r.generation).getD 0 }
         let t : State := s.cipM fun c => { c with bindings := Tbl.put c.bindings n new }
         let t : State := if new.valid then (t.saM i fun r => { r with wasBound := true }).ctxM i fun a => { a with wasBound := true } else t
         let t : State := match s.binding n with
           | some o => if o.valid && (!new.valid || o.sa != i) then t.freezeSa o.sa else t
           | none => t
         t.acks k none))) ∧
    (∀ (k : Nat) (body : Bytes) (s : State), Ready.sci s = true →
      exec (.sci k body) s = .next (State.settle
        (let slot (j : Nat) : Option (Nat × Nat) :=
           let x := leNat (bytesAt body (12 + 4 * j) 4)
           if nbit x 22 then some (x % 4194304, ((s.sa (x % 4194304)).map fun (r : SaRes) => r.generation).getD 0) else none
         let e : SciEnt := { group := byteAt body 0 % 8, port := byteAt body 1 % 64, sci := beAt body 4 8, slots := (List.range 4).map slot }
         let t : State := s.cipM fun c =>
           let l := c.sci.filter fun x => !(x.group == e.group && x.port == e.port && x.sci == e.sci)
           { c with sci := if e.slots.any Option.isSome then l ++ [e] else l }
         t.acks k none))) ∧
    (∀ (k : Nat) (body : Bytes) (s : State), Ready.retire s = true →
      exec (.retire k body) s = .next (State.settle
        (((s.clearSci (leNat (bytesAt body 0 4) % 4194304)).saM (leNat (bytesAt body 0 4) % 4194304) fun r => { r with retiring := true }).acks k none))) ∧
    (∀ (k : Nat) (body : Bytes) (s : State), Ready.port s = true →
      exec (.port k body) s = .next (State.settle
        ((s.cipM fun c => { c with
          ports := Tbl.put c.ports (leNat (bytesAt body 0 4) % 64)
            { accept := (wd (leNat (bytesAt body 4 4))).fld 1 0, landUnprotected := (wd (leNat (bytesAt body 4 4))).bit 2 } }).acks k none))) ∧
    (∀ (m : Nat) (msg : List Word) (s : State), Ready.mbx m s = true →
      exec (.mbx m msg) s = .next (State.settle
        (let t : State := s.mbxM fun l => updAt l (m + 2) fun b => { b with msg := (List.range 12).map fun i => nth msg i 0#32, ack := 0 }
         (((t.wakeDom 32).wakeHost).mbxPost (m + 2)).sendMbxState (m + 2) 0))) ∧
    (∀ (m : Nat) (code : Nat) (ack : Nat) (kind : Nat) (s : State), Ready.mbxState m s = true →
      exec (.mbxState m code ack kind) s = .next (State.settle
        (s.mbxShow (m - 2) code ack kind))) ∧
    (∀ (m : Nat) (code : Nat) (ack : Nat) (kind : Nat) (s : State), Ready.mbxState2 m s = true →
      exec (.mbxState m code ack kind) s = .next (State.settle
        (s.mbxServe (m + 2) kind))) ∧
    (∀ (lock : Nat) (op : Nat) (s : State), Ready.lockReq lock s = true →
      exec (.lockReq lock op) s = .next (State.settle
        (if op = 0 then (s.lockRead lock 3).2.2.twinSend 2 0x33 [by8 lock, 0#8, by8 (s.lockRead lock 3).1, by8 (s.lockRead lock 3).2.1]
         else (s.lockFree lock 3).twinSend 2 0x33 [by8 lock, 1#8, 0#8, 0#8]))) ∧
    (∀ (lock : Nat) (op : Nat) (result : Nat) (owner : Nat) (s : State), Ready.lockResult lock op s = true →
      ∀ t, s.lockWaiter lock op = some t →
      exec (.lockResult lock op result owner) s = .next (State.settle
        ((s.runM fun r => { r with lockWait := r.lockWait.erase (lock, op == 1) }).completePended (fun x => x == t) .ok 0
          [if op = 0 then wd (result % 4 + 256 * (owner % 4)) else 0#32]))) ∧
    (∀ (frame : Bytes) (s : State), Ready.hairpin s = true →
      exec (.hairpin frame) s = .next (State.settle
        ((s.ingM fun i => { i with
          twinQ := i.twinQ ++ [({ bytes := frame, rxLen := frame.length + 4, source := 10, origin := 10 } : Pkt)] }).wakeChain)))

/-- Every row of PTP, gates and snapshots has its effect (PTP_SYNC, FOLLOW_UP, DELAY_RESP, PDELAY_RESP, PDELAY_RESP_FOLLOW_UP, HOLDOVER, GATE_BOUNDARY, GATE_LIST_SWITCH, SNAPSHOT_TICK, SNAPSHOT_DONE). -/
def Obligations.TimeAndSnapshotEventsRun : Prop :=
    (∀ (d : Nat) (port : Nat) (msg : Bytes) (stamp : Nat) (s : State), Ready.ptpSync d port msg s = true →
      exec (.ptpSync d port msg stamp) s = .next (State.settle
        (let t : State := s.domM d fun p => { p with
           servo := if p.servo == .holdover then .acquire else p.servo
           counts := updAt p.counts 0 sat32
           sync := if ptpTwoStep msg then some (ptpSeq msg, s.inDom d stamp, ptpCorr msg) else none }
         if ptpTwoStep msg then t else t.measured d (s.inDom d stamp - ptpTime msg - ptpCorr msg)))) ∧
    (∀ (d : Nat) (port : Nat) (msg : Bytes) (s : State), Ready.followUp d port msg s = true →
      ∀ q t2 c, (s.dom d).sync = some (q, t2, c) →
      exec (.followUp d port msg) s = .next (State.settle
        (s.measured d (t2 - ptpTime msg - (c + ptpCorr msg))))) ∧
    (∀ (d : Nat) (port : Nat) (msg : Bytes) (s : State), Ready.delayResp d port msg s = true →
      ∀ q t3 x, (s.dom d).dreq = some (q, t3) →
      (s.dom d).msOffset = some x →
      exec (.delayResp d port msg) s = .next (State.settle
        (s.delaySample d ((x + (ptpTime msg - t3 - ptpCorr msg)) / 2)))) ∧
    (∀ (d : Nat) (port : Nat) (msg : Bytes) (stamp : Nat) (s : State), Ready.pdelayResp d port msg s = true →
      ∀ q t1, (s.dom d).preq = some (q, t1) →
      exec (.pdelayResp d port msg stamp) s = .next (State.settle
        (if ptpTwoStep msg then s.domM d fun p => { p with presp := some (q, s.inDom d stamp, ptpTime msg, ptpCorr msg) }
         else (s.domM d fun p => { p with presp := none }).delaySample d ((s.inDom d stamp - t1 - ptpCorr msg) / 2)))) ∧
    (∀ (d : Nat) (port : Nat) (msg : Bytes) (s : State), Ready.pdelayRespFollowUp d port msg s = true →
      ∀ q t1 r t4 rx c, (s.dom d).preq = some (q, t1) →
      (s.dom d).presp = some (r, t4, rx, c) →
      exec (.pdelayRespFollowUp d port msg) s = .next (State.settle
        (s.delaySample d ((t4 - t1 - (ptpTime msg - rx + c + ptpCorr msg)) / 2)))) ∧
    (∀ (d : Nat) (s : State), Ready.holdover d s = true →
      exec (.holdover d) s = .next (State.settle
        (s.holdEntered d))) ∧
    (∀ (d : Nat) (s : State), Ready.holdover2 d s = true →
      exec (.holdover d) s = .next (State.settle
        (((s.holdEntered d).slewTo (1 - d)).lineSwitched 1 (1 - d) true ((((s.holdEntered d).domClk (1 - d)).t : Int) - (s.holdEntered d).time.line.t)))) ∧
    (∀ (p : Nat) (s : State), Ready.gateBoundary p s = true →
      exec (.gateBoundary p) s = .next (State.settle
        (s.gateM p fun g => match g.removeAt with
          | some x => if x ≤ s.time.line.t then {} else g.sync s.time.line.t
          | none => g.sync s.time.line.t))) ∧
    (∀ (p : Nat) (s : State), Ready.gateListSwitch p s = true →
      ∀ l, (s.gate p).admin = some l →
      exec (.gateListSwitch p) s = .next (State.settle
        (s.gateM p fun _ => ({ oper := some l, cycleStart := (s.gate p).switchAt } : GatePort).sync s.time.line.t))) ∧
    (∀ (s : State), Ready.snapshotTick s = true →
      exec .snapshotTick s = .next (State.settle
        (match s.cut.cnt.area with
         | some a =>
           if s.cut.ddrReady && s.cut.mode.mode != .safe then
             let t : State := s.cut.ddrM fun d => { d with mem := d.mem.filter fun e => decide (e.1 < a) || decide (a + 1048576 ≤ e.1) }
             ((t.cntM fun c => { c with image := true }).imageHeader a 2).imageShadows a
           else if s.cut.mode.mode = .safe then s.cut.snapAbort 3 else s.cut.snapAbort 2
         | none => s.cut))) ∧
    (∀ (s : State), Ready.snapshotDone s = true →
      exec .snapshotDone s = .next (State.settle
        (let t : State := match s.cnt.area with
           | some a => if s.cnt.image && s.ddrReady && s.mode.mode != Mode.safe then (if s.cnt.snapStats then s.copyRest a else s).imageHeader a 3 else s
           | none => s
         (t.cntM fun c => { c with snap := .complete }).snapEvent (b2n (!t.cnt.snapStats)))))

/-- Every row of the DDR5 controller and the power domains has its effect (BWM_WINDOW_END, REFRESH_DUE, REFRESH_MAKEUP, DRIFT_TRACK, POWER_DOWN_ENTRY, DDR_THERMAL_READ, PATROL_SCRUB, TRAINING_DONE, DOZE_ENTRY, DEEP_ENTRY, WAKE_COMPLETE, SLICE_POLICY). -/
def Obligations.MemoryAndPowerEventsRun : Prop :=
    (∀ (node : Nat) (s : State), Ready.bwmWindowEnd node = true →
      exec (.bwmWindowEnd node) s = .next (State.settle
        (s.bwmM node fun m =>
          if m.started then
            { m with
              last := m.count, count := 0, done := sat32 m.done, total := wrapAdd 32 m.total 1
              minv := match m.minv with
                | some x => some (min x m.count)
                | none => some m.count
              maxv := max m.maxv m.count }
          else { m with started := true, count := 0 }))) ∧
    (∀ (ch : Nat) (rank : Nat) (queued : Bool) (s : State), Ready.refreshDue ch rank s = true →
      exec (.refreshDue ch rank queued) s = .next (State.settle
        (let n := nth (s.chan ch).owed rank 0
         let t : State := s.chanM ch fun h => { h with pdown := updAt h.pdown rank fun _ => false }
         (if queued then t else t.perf (67 + ch) 0x12 1).chanM ch fun h =>
           { h with owedMax := max h.owedMax (n + 1), owed := updAt h.owed rank fun _ => if queued then n + 1 else n }))) ∧
    (∀ (ch : Nat) (rank : Nat) (issued : Nat) (s : State), Ready.refreshMakeup ch s = true →
      exec (.refreshMakeup ch rank issued) s = .next (State.settle
        ((s.perf (67 + ch) 0x12 (min issued (nth (s.chan ch).owed rank 0))).chanM ch fun h => { h with owed := updAt h.owed rank fun n => n - issued }))) ∧
    (∀ (ch : Nat) (adjs : List (Nat × Int)) (s : State), Ready.driftTrack ch s = true →
      exec (.driftTrack ch adjs) s = .next (State.settle
        (let t : State := ((s.ddrM fun d => { d with turn := (ch + 1) % 4 }).chanCount ch 4).chanM ch fun h => { h with pdown := [false, false] }
         let t : State := adjs.foldl (fun (u : State) (e : Nat × Int) => u.driftLane ch e.1 e.2) t
         match (t.chan ch).drift.find? fun e => decide (78 ≤ e.2.natAbs) with
         | some e => (t.ddrFail ch 3 e.2).fault (0x10C + ch) 0x50 0 e.1 0
         | none => t))) ∧
    (∀ (ch : Nat) (rank : Nat) (request : Bool) (s : State), Ready.powerDownEntry ch rank request s = true →
      exec (.powerDownEntry ch rank request) s = .next (State.settle
        ((s.chanM ch fun h => { h with pdown := updAt h.pdown rank fun _ => true }).chanCount ch 5))) ∧
    (∀ (temps : List Int) (s : State),
      exec (.ddrThermalRead temps) s = .next (State.settle
        ((List.range 4).foldl (fun (u : State) c =>
          if (u.chan c).st = .absent then u
          else
            let t := nth temps c (u.chan c).temp
            let u : State := u.chanM c fun h => { h with temp := t }
            if 95 ≤ t then u.fault (0x110 + c) 0x50 1 t.toNat 0 else u) s))) ∧
    (∀ (s : State), Ready.patrolScrub s = true →
      ∀ a, s.patrolNext s.ddr.patrolLine = some a →
      exec .patrolScrub s = .next (State.settle
        ((s.ddrLine (a / 64 * 64) 0x50).2.ddrM fun d => { d with patrolLine := a + 64 }))) ∧
    (∀ (passed : Nat) (s : State), Ready.trainingDone s = true →
      exec (.trainingDone passed) s = .next (State.settle
        (let m := s.ddr.trainMask
         let t : State := (setBits 4 m).foldl (fun u c => u.ddrTrained c (nbit passed c)) (s.ddrM fun d => { d with trainMask := 0 })
         let up := sumL (((List.range 4).filter fun c => (t.chan c).st == .inService).map (2 ^ ·))
         let pop := population t.ddr.chans up
         let t : State := (List.range 4).foldl (fun u c => if nbit up c && !nbit pop c then u.ddrFail c 4 0 else u) t
         let t : State := t.ddrM fun d => { d with
           inUse := pop
           mem := if pop = s.ddr.inUse then d.mem.filter (fun e => !nbit m (s.ddr.chanOf e.1)) else [] }
         let failed := sumL (((List.range 4).filter fun c => (t.chan c).st == .failed).map (2 ^ ·))
         if (setBits 4 m).all fun c => (t.chan c).st == .inService then t.completePended (fun x => x.opcode == 0x0E00) .ok pop []
         else t.completePended (fun x => x.opcode == 0x0E00) .okAdjusted (pop + 16 * failed) []))) ∧
    (∀ (d : Nat) (ended : List Nat) (trigger : Bool) (s : State), Ready.dozeEntry d ended s = true →
      exec (.dozeEntry d ended trigger) s = .next (State.settle
        (let t : State := (s.pwrM fun w => { w with pred := Tbl.put w.pred d (predict (Tbl.lookD s.pwr.pred d 0) ended) }).sleepDom d .doze
           (if trigger then 5 else 2)
         if trigger then t.wakeDom d else t))) ∧
    (∀ (d : Nat) (ended : List Nat) (trigger : Bool) (s : State), Ready.deepEntry d ended s = true →
      exec (.deepEntry d ended trigger) s = .next (State.settle
        (let t : State := (s.pwrM fun w => { w with pred := Tbl.put w.pred d (predict (Tbl.lookD s.pwr.pred d 0) ended) }).sleepDom d .deep
           (if trigger then 5 else 3)
         if trigger then t.wakeDom d else t))) ∧
    (∀ (d : Nat) (ns : Nat) (s : State), Ready.wakeComplete d s = true →
      exec (.wakeComplete d ns) s = .next (State.settle
        (let t : State := s.pwrM fun p => { p with
           doms := updAt p.doms d fun _ => .run
           waking := p.waking.filter (· != d), slept := Tbl.del p.slept d
           counts := if isChain d then updAt p.counts 4 (max ns) else p.counts }
         if d = 31 then
           t.ddrM fun x => { x with chans := x.chans.map fun c => if c.st == .selfRefresh then { c with st := .inService } else c }
         else if d = 30 then t.schedWake ((s.time.core - Tbl.lookD s.pwr.slept d s.time.core) * 5 / 8)
         else if 10 ≤ d ∧ d ≤ 17 ∧ (s.slice (d - 10)).admitting then
           t.sliceM (d - 10) fun z => { z with admitting := false, st := .inService }
         else t))) ∧
    (∀ (s : State), Ready.slicePolicy s = true →
      ∀ k, s.slicePassed.readySlice = some k →
      exec .slicePolicy s = .next (State.settle
        ((s.slicePassed.admitSlice k).pwrM fun p => { p with counts := updAt p.counts 6 sat32 }))) ∧
    (∀ (s : State), Ready.slicePolicy2 s = true →
      ∀ k, s.slicePassed.inService.getLast? = some k →
      exec .slicePolicy s = .next (State.settle
        (((s.slicePassed.retireSlice k .retiredPolicy).pwrM fun p => { p with counts := updAt p.counts 7 sat32 }).powerCheck)))

/-- Every row of work that ends in the background, the TAP and MSI-X has its effect (FLUSH_COMPLETE, SLEW_COMPLETE, HANDSHAKE_TIMEOUT, FULL_MIRROR_SENT, BOOK_CLEAR_DONE, DIAG_MEM_TEST_DONE, TEST_ACCESS_PORT, MSIX_VECTOR_UNMASK). -/
def Obligations.CompletionEventsRun : Prop :=
    (∀ (p : Nat) (s : State), Ready.flushComplete p s = true →
      exec (.flushComplete p) s = .next (State.settle
        ((s.freeMarked p).endPortFlush p))) ∧
    (∀ (s : State), Ready.slewComplete s = true →
      exec .slewComplete s = .next (State.settle
        ((s.timeM fun t => { t with slew := 0, slewAcc := 0 }).followDom))) ∧
    (∀ (s : State), Ready.handshakeTimeout s = true →
      exec .handshakeTimeout s = .next (State.settle
        (s.authFail))) ∧
    (∀ (s : State), Ready.fullMirrorSent s = true →
      exec .fullMirrorSent s = .next (State.settle
        ((s.runM fun r => { r with syncEnded := true }).twinSend 0 0x06 []))) ∧
    (∀ (s : State), Ready.bookClearDone s = true →
      exec .bookClearDone s = .next (State.settle
        (let t : State := s.bookM fun k => { k with
           records := [], marker := {}, otherMarker := {}, queue := [], clearing := false, justCleared := true }
         ((t.modeM fun m => { m with bootCount := 0, history := 0 }).bookLog 0x20 []).completePended (fun t => t.opcode == 0x1102) .ok 0 []))) ∧
    (∀ (s : State), Ready.diagMemTestDone s = true →
      ∀ t, s.parked 0x1111 = some t →
      exec .diagMemTestDone s = .next (State.settle
        (if t.pkt.obj = 12 then
           s.completePended (fun x => x == t) .ok 0 (testWords 262144 0 s.tcamDiffs.length (match s.tcamDiffs with
             | d :: _ => d / 2048 * 65536 + d % 2048
             | [] => 18446744073709551615))
         else
           let a := s.testRow t.pkt.obj
           let b := if t.pkt.obj = 10 then a.2.2.2.testShadow else (0, 0, a.2.2.2)
           b.2.2.completePended (fun x => x == t) .ok 0 (testWords (rowMiB t.pkt.obj * 16384) (a.1 + b.1) (a.2.1 + b.2.1)
             (if a.2.1 = 0 ∧ b.2.1 ≠ 0 then 0 else a.2.2.1))))) ∧
    (∀ (edge : Nat) (tms : Bool) (tdi : Bool) (s : State), Ready.testAccessPort s = true →
      exec (.testAccessPort edge tms tdi) s = .next (State.settle
        (if edge = 0 then s.tapM fun t => { t with trstN := false, st := .reset, ir := 1, tdo := none }
         else if edge = 1 then s.tapM fun t => { t with trstN := true }
         else if !s.tap.trstN then s
         else if edge = 2 then s.tckRise tms tdi
         else s.tckFall))) ∧
    (∀ (vector : Option Nat) (s : State), Ready.msixVectorUnmask s = true →
      exec (.msixVectorUnmask vector) s = .next (State.settle
        ((match vector with
         | some v => s.hifM fun h => { h with vecMask := clrBit h.vecMask (v % 64) }
         | none => s.hifM fun h => { h with funcMask := false, msixEnable := true }).flushPba)))
end

