-- ==== Sys2Proof/Laws/Commands.lean ====
section
/-!
SUPPORT. What a host command that nothing holds back does: its body, then the reply and the end of its tag.
-/
namespace Sys2Proof.Machine

/-- When every check of a list holds, what follows the checks decides. -/
theorem checks_pass {cs : List (Bool × Status × Nat)} (h : passes cs = true) (k : Res) : checks cs k = k := by
  have : cs.find? (fun c => !c.1) = none := by
    rw [List.find?_eq_none]
    intro x hx
    have := List.all_eq_true.mp h x hx
    simp [this]
  simp only [checks, this]

/-- Checks one at a time: the first that fails decides. -/
theorem checks_cons (a : Bool × Status × Nat) (l : List (Bool × Status × Nat)) (k : Res) :
    checks (a :: l) k = if a.1 = true then checks l k else .fail a.2.1 a.2.2 := by
  obtain ⟨a, st, d⟩ := a
  cases a <;> simp [checks]

/-- No check left. -/
theorem checks_nil (k : Res) : checks [] k = k := rfl

/-- Two lists of checks, one after the other. -/
theorem checks_append (a b : List (Bool × Status × Nat)) (k : Res) : checks (a ++ b) k = checks a (checks b k) := by
  induction a with
  | nil => rfl
  | cons x l ih => simp only [List.cons_append, checks_cons, ih]

/-- Whether a list of checks holds, one at a time. -/
theorem passes_cons (a : Bool × Status × Nat) (l : List (Bool × Status × Nat)) : passes (a :: l) = (a.1 && passes l) := rfl

/-- No check left. -/
theorem passes_nil : passes [] = true := rfl

/-- Two lists of checks hold when both do. -/
theorem passes_append (a b : List (Bool × Status × Nat)) : passes (a ++ b) = (passes a && passes b) := by simp [passes]

/-- A direct command that the open batch does not stand against runs its body. -/
theorem directRun_clear {s : State} {op : Nat} {c : Packet} (body : Packet → State → Res)
    (hb : s.batchConflict op body c = s.batchConflict op (batchRival op) c) (h : s.batchClear op c = true) :
    directRun op body c s = body c s := by
  simp only [State.batchClear, Bool.or_eq_true, Option.isNone_iff_eq_none] at h
  unfold directRun
  rcases h with h | h
  · rw [if_pos h]
  · rw [hb, h]
    split
    · rfl
    · split <;> simp_all

/-- A plain command runs its body. -/
theorem checkedRun_plain {s : State} {op : Nat} {c : Packet} (body : Packet → State → Res)
    (hb : (s.began op c).batchConflict op body c = (s.began op c).batchConflict op (batchRival op) c) (h : s.plain op c = true) :
    checkedRun op body c (s.began op c) = body c (s.began op c) := by
  simp only [State.plain, Bool.and_eq_true, Bool.not_eq_true'] at h
  obtain ⟨⟨⟨⟨_, _⟩, hi⟩, hh⟩, hm⟩ := h
  have hp : passes [(!c.inBatch || ((cmdInfo op).getD { op := op, lens := [] }).batch, .badParam, 2),
      (!(c.inBatch && c.handle != 0#32), .badParam, 12),
      (!c.inBatch || ((s.began op c).cmds.batchOpen && !(s.began op c).cmds.landing), .conflict, 2),
      ((((cmdInfo op).getD { op := op, lens := [] }).staged || op / 256 == 5) || c.handle == 0#32, .badParam, 12)] = true := by
    simp only [passes, List.all_cons, List.all_nil, hi, Bool.false_and, Bool.not_false, Bool.true_or, Bool.true_and, Bool.and_true]
    exact hh
  simp only [checkedRun]
  rw [checks_pass hp]
  simp only [hi, Bool.false_eq_true, ↓reduceIte, directRun_clear body hb hm]

/-- The step of a plain command: its body on the state it starts in, then what its result asks for, then what is settled. -/
theorem hostCmd_plain {s : State} {op : Nat} {c : Packet} (body : Packet → State → Res)
    (hb : (s.began op c).batchConflict op body c = (s.began op c).batchConflict op (batchRival op) c) (h : s.plain op c = true) :
    hostCmd op body c s = .next ((s.began op c).finish op c (body c (s.began op c))).settle := by
  have hr := checkedRun_plain body hb h
  simp only [State.plain, Bool.and_eq_true] at h
  obtain ⟨⟨⟨⟨hw, hs⟩, _⟩, _⟩, _⟩ := h
  simp only [hostCmd, hostRun, hw, ↓reduceIte, State.tryStart, hs, Bool.and_self, State.startCmd, hr, State.done]

end Sys2Proof.Machine
end

