-- ==== Sys2Proof/Laws/State.lean ====
section
/-!
SUPPORT. One lemma per field of the state and update of a block: the field an update changes, and every field it leaves.
-/
namespace Sys2Proof.Machine

/-! ## `State.modeM` -/

@[simp] theorem State.modeM_mode (s : State) (f : ModeBlk → ModeBlk) : (s.modeM f).mode = f s.mode := rfl
@[simp] theorem State.modeM_pins (s : State) (f : ModeBlk → ModeBlk) : (s.modeM f).pins = s.pins := rfl
@[simp] theorem State.modeM_hif (s : State) (f : ModeBlk → ModeBlk) : (s.modeM f).hif = s.hif := rfl
@[simp] theorem State.modeM_cmds (s : State) (f : ModeBlk → ModeBlk) : (s.modeM f).cmds = s.cmds := rfl
@[simp] theorem State.modeM_mbx (s : State) (f : ModeBlk → ModeBlk) : (s.modeM f).mbx = s.mbx := rfl
@[simp] theorem State.modeM_locks (s : State) (f : ModeBlk → ModeBlk) : (s.modeM f).locks = s.locks := rfl
@[simp] theorem State.modeM_smb (s : State) (f : ModeBlk → ModeBlk) : (s.modeM f).smb = s.smb := rfl
@[simp] theorem State.modeM_vnt (s : State) (f : ModeBlk → ModeBlk) : (s.modeM f).vnt = s.vnt := rfl
@[simp] theorem State.modeM_flt (s : State) (f : ModeBlk → ModeBlk) : (s.modeM f).flt = s.flt := rfl
@[simp] theorem State.modeM_book (s : State) (f : ModeBlk → ModeBlk) : (s.modeM f).book = s.book := rfl
@[simp] theorem State.modeM_parse (s : State) (f : ModeBlk → ModeBlk) : (s.modeM f).parse = s.parse := rfl
@[simp] theorem State.modeM_lookup (s : State) (f : ModeBlk → ModeBlk) : (s.modeM f).lookup = s.lookup := rfl
@[simp] theorem State.modeM_tcam (s : State) (f : ModeBlk → ModeBlk) : (s.modeM f).tcam = s.tcam := rfl
@[simp] theorem State.modeM_act (s : State) (f : ModeBlk → ModeBlk) : (s.modeM f).act = s.act := rfl
@[simp] theorem State.modeM_vin (s : State) (f : ModeBlk → ModeBlk) : (s.modeM f).vin = s.vin := rfl
@[simp] theorem State.modeM_ing (s : State) (f : ModeBlk → ModeBlk) : (s.modeM f).ing = s.ing := rfl
@[simp] theorem State.modeM_frag (s : State) (f : ModeBlk → ModeBlk) : (s.modeM f).frag = s.frag := rfl
@[simp] theorem State.modeM_cip (s : State) (f : ModeBlk → ModeBlk) : (s.modeM f).cip = s.cip := rfl
@[simp] theorem State.modeM_core (s : State) (f : ModeBlk → ModeBlk) : (s.modeM f).core = s.core := rfl
@[simp] theorem State.modeM_sched (s : State) (f : ModeBlk → ModeBlk) : (s.modeM f).sched = s.sched := rfl
@[simp] theorem State.modeM_mac (s : State) (f : ModeBlk → ModeBlk) : (s.modeM f).mac = s.mac := rfl
@[simp] theorem State.modeM_hst (s : State) (f : ModeBlk → ModeBlk) : (s.modeM f).hst = s.hst := rfl
@[simp] theorem State.modeM_time (s : State) (f : ModeBlk → ModeBlk) : (s.modeM f).time = s.time := rfl
@[simp] theorem State.modeM_twin (s : State) (f : ModeBlk → ModeBlk) : (s.modeM f).twin = s.twin := rfl
@[simp] theorem State.modeM_run (s : State) (f : ModeBlk → ModeBlk) : (s.modeM f).run = s.run := rfl
@[simp] theorem State.modeM_pwr (s : State) (f : ModeBlk → ModeBlk) : (s.modeM f).pwr = s.pwr := rfl
@[simp] theorem State.modeM_ddr (s : State) (f : ModeBlk → ModeBlk) : (s.modeM f).ddr = s.ddr := rfl
@[simp] theorem State.modeM_cnt (s : State) (f : ModeBlk → ModeBlk) : (s.modeM f).cnt = s.cnt := rfl
@[simp] theorem State.modeM_tap (s : State) (f : ModeBlk → ModeBlk) : (s.modeM f).tap = s.tap := rfl
@[simp] theorem State.modeM_diag (s : State) (f : ModeBlk → ModeBlk) : (s.modeM f).diag = s.diag := rfl
@[simp] theorem State.modeM_out (s : State) (f : ModeBlk → ModeBlk) : (s.modeM f).out = s.out := rfl
@[simp] theorem State.modeM_free (s : State) (f : ModeBlk → ModeBlk) : (s.modeM f).free = s.free := rfl
@[simp] theorem State.modeM_pending (s : State) (f : ModeBlk → ModeBlk) : (s.modeM f).pending = s.pending := rfl

/-! ## `State.pinsM` -/

@[simp] theorem State.pinsM_mode (s : State) (f : Pins → Pins) : (s.pinsM f).mode = s.mode := rfl
@[simp] theorem State.pinsM_pins (s : State) (f : Pins → Pins) : (s.pinsM f).pins = f s.pins := rfl
@[simp] theorem State.pinsM_hif (s : State) (f : Pins → Pins) : (s.pinsM f).hif = s.hif := rfl
@[simp] theorem State.pinsM_cmds (s : State) (f : Pins → Pins) : (s.pinsM f).cmds = s.cmds := rfl
@[simp] theorem State.pinsM_mbx (s : State) (f : Pins → Pins) : (s.pinsM f).mbx = s.mbx := rfl
@[simp] theorem State.pinsM_locks (s : State) (f : Pins → Pins) : (s.pinsM f).locks = s.locks := rfl
@[simp] theorem State.pinsM_smb (s : State) (f : Pins → Pins) : (s.pinsM f).smb = s.smb := rfl
@[simp] theorem State.pinsM_vnt (s : State) (f : Pins → Pins) : (s.pinsM f).vnt = s.vnt := rfl
@[simp] theorem State.pinsM_flt (s : State) (f : Pins → Pins) : (s.pinsM f).flt = s.flt := rfl
@[simp] theorem State.pinsM_book (s : State) (f : Pins → Pins) : (s.pinsM f).book = s.book := rfl
@[simp] theorem State.pinsM_parse (s : State) (f : Pins → Pins) : (s.pinsM f).parse = s.parse := rfl
@[simp] theorem State.pinsM_lookup (s : State) (f : Pins → Pins) : (s.pinsM f).lookup = s.lookup := rfl
@[simp] theorem State.pinsM_tcam (s : State) (f : Pins → Pins) : (s.pinsM f).tcam = s.tcam := rfl
@[simp] theorem State.pinsM_act (s : State) (f : Pins → Pins) : (s.pinsM f).act = s.act := rfl
@[simp] theorem State.pinsM_vin (s : State) (f : Pins → Pins) : (s.pinsM f).vin = s.vin := rfl
@[simp] theorem State.pinsM_ing (s : State) (f : Pins → Pins) : (s.pinsM f).ing = s.ing := rfl
@[simp] theorem State.pinsM_frag (s : State) (f : Pins → Pins) : (s.pinsM f).frag = s.frag := rfl
@[simp] theorem State.pinsM_cip (s : State) (f : Pins → Pins) : (s.pinsM f).cip = s.cip := rfl
@[simp] theorem State.pinsM_core (s : State) (f : Pins → Pins) : (s.pinsM f).core = s.core := rfl
@[simp] theorem State.pinsM_sched (s : State) (f : Pins → Pins) : (s.pinsM f).sched = s.sched := rfl
@[simp] theorem State.pinsM_mac (s : State) (f : Pins → Pins) : (s.pinsM f).mac = s.mac := rfl
@[simp] theorem State.pinsM_hst (s : State) (f : Pins → Pins) : (s.pinsM f).hst = s.hst := rfl
@[simp] theorem State.pinsM_time (s : State) (f : Pins → Pins) : (s.pinsM f).time = s.time := rfl
@[simp] theorem State.pinsM_twin (s : State) (f : Pins → Pins) : (s.pinsM f).twin = s.twin := rfl
@[simp] theorem State.pinsM_run (s : State) (f : Pins → Pins) : (s.pinsM f).run = s.run := rfl
@[simp] theorem State.pinsM_pwr (s : State) (f : Pins → Pins) : (s.pinsM f).pwr = s.pwr := rfl
@[simp] theorem State.pinsM_ddr (s : State) (f : Pins → Pins) : (s.pinsM f).ddr = s.ddr := rfl
@[simp] theorem State.pinsM_cnt (s : State) (f : Pins → Pins) : (s.pinsM f).cnt = s.cnt := rfl
@[simp] theorem State.pinsM_tap (s : State) (f : Pins → Pins) : (s.pinsM f).tap = s.tap := rfl
@[simp] theorem State.pinsM_diag (s : State) (f : Pins → Pins) : (s.pinsM f).diag = s.diag := rfl
@[simp] theorem State.pinsM_out (s : State) (f : Pins → Pins) : (s.pinsM f).out = s.out := rfl
@[simp] theorem State.pinsM_free (s : State) (f : Pins → Pins) : (s.pinsM f).free = s.free := rfl
@[simp] theorem State.pinsM_pending (s : State) (f : Pins → Pins) : (s.pinsM f).pending = s.pending := rfl

/-! ## `State.hifM` -/

@[simp] theorem State.hifM_mode (s : State) (f : Hif → Hif) : (s.hifM f).mode = s.mode := rfl
@[simp] theorem State.hifM_pins (s : State) (f : Hif → Hif) : (s.hifM f).pins = s.pins := rfl
@[simp] theorem State.hifM_hif (s : State) (f : Hif → Hif) : (s.hifM f).hif = f s.hif := rfl
@[simp] theorem State.hifM_cmds (s : State) (f : Hif → Hif) : (s.hifM f).cmds = s.cmds := rfl
@[simp] theorem State.hifM_mbx (s : State) (f : Hif → Hif) : (s.hifM f).mbx = s.mbx := rfl
@[simp] theorem State.hifM_locks (s : State) (f : Hif → Hif) : (s.hifM f).locks = s.locks := rfl
@[simp] theorem State.hifM_smb (s : State) (f : Hif → Hif) : (s.hifM f).smb = s.smb := rfl
@[simp] theorem State.hifM_vnt (s : State) (f : Hif → Hif) : (s.hifM f).vnt = s.vnt := rfl
@[simp] theorem State.hifM_flt (s : State) (f : Hif → Hif) : (s.hifM f).flt = s.flt := rfl
@[simp] theorem State.hifM_book (s : State) (f : Hif → Hif) : (s.hifM f).book = s.book := rfl
@[simp] theorem State.hifM_parse (s : State) (f : Hif → Hif) : (s.hifM f).parse = s.parse := rfl
@[simp] theorem State.hifM_lookup (s : State) (f : Hif → Hif) : (s.hifM f).lookup = s.lookup := rfl
@[simp] theorem State.hifM_tcam (s : State) (f : Hif → Hif) : (s.hifM f).tcam = s.tcam := rfl
@[simp] theorem State.hifM_act (s : State) (f : Hif → Hif) : (s.hifM f).act = s.act := rfl
@[simp] theorem State.hifM_vin (s : State) (f : Hif → Hif) : (s.hifM f).vin = s.vin := rfl
@[simp] theorem State.hifM_ing (s : State) (f : Hif → Hif) : (s.hifM f).ing = s.ing := rfl
@[simp] theorem State.hifM_frag (s : State) (f : Hif → Hif) : (s.hifM f).frag = s.frag := rfl
@[simp] theorem State.hifM_cip (s : State) (f : Hif → Hif) : (s.hifM f).cip = s.cip := rfl
@[simp] theorem State.hifM_core (s : State) (f : Hif → Hif) : (s.hifM f).core = s.core := rfl
@[simp] theorem State.hifM_sched (s : State) (f : Hif → Hif) : (s.hifM f).sched = s.sched := rfl
@[simp] theorem State.hifM_mac (s : State) (f : Hif → Hif) : (s.hifM f).mac = s.mac := rfl
@[simp] theorem State.hifM_hst (s : State) (f : Hif → Hif) : (s.hifM f).hst = s.hst := rfl
@[simp] theorem State.hifM_time (s : State) (f : Hif → Hif) : (s.hifM f).time = s.time := rfl
@[simp] theorem State.hifM_twin (s : State) (f : Hif → Hif) : (s.hifM f).twin = s.twin := rfl
@[simp] theorem State.hifM_run (s : State) (f : Hif → Hif) : (s.hifM f).run = s.run := rfl
@[simp] theorem State.hifM_pwr (s : State) (f : Hif → Hif) : (s.hifM f).pwr = s.pwr := rfl
@[simp] theorem State.hifM_ddr (s : State) (f : Hif → Hif) : (s.hifM f).ddr = s.ddr := rfl
@[simp] theorem State.hifM_cnt (s : State) (f : Hif → Hif) : (s.hifM f).cnt = s.cnt := rfl
@[simp] theorem State.hifM_tap (s : State) (f : Hif → Hif) : (s.hifM f).tap = s.tap := rfl
@[simp] theorem State.hifM_diag (s : State) (f : Hif → Hif) : (s.hifM f).diag = s.diag := rfl
@[simp] theorem State.hifM_out (s : State) (f : Hif → Hif) : (s.hifM f).out = s.out := rfl
@[simp] theorem State.hifM_free (s : State) (f : Hif → Hif) : (s.hifM f).free = s.free := rfl
@[simp] theorem State.hifM_pending (s : State) (f : Hif → Hif) : (s.hifM f).pending = s.pending := rfl

/-! ## `State.cmdsM` -/

@[simp] theorem State.cmdsM_mode (s : State) (f : Cmds → Cmds) : (s.cmdsM f).mode = s.mode := rfl
@[simp] theorem State.cmdsM_pins (s : State) (f : Cmds → Cmds) : (s.cmdsM f).pins = s.pins := rfl
@[simp] theorem State.cmdsM_hif (s : State) (f : Cmds → Cmds) : (s.cmdsM f).hif = s.hif := rfl
@[simp] theorem State.cmdsM_cmds (s : State) (f : Cmds → Cmds) : (s.cmdsM f).cmds = f s.cmds := rfl
@[simp] theorem State.cmdsM_mbx (s : State) (f : Cmds → Cmds) : (s.cmdsM f).mbx = s.mbx := rfl
@[simp] theorem State.cmdsM_locks (s : State) (f : Cmds → Cmds) : (s.cmdsM f).locks = s.locks := rfl
@[simp] theorem State.cmdsM_smb (s : State) (f : Cmds → Cmds) : (s.cmdsM f).smb = s.smb := rfl
@[simp] theorem State.cmdsM_vnt (s : State) (f : Cmds → Cmds) : (s.cmdsM f).vnt = s.vnt := rfl
@[simp] theorem State.cmdsM_flt (s : State) (f : Cmds → Cmds) : (s.cmdsM f).flt = s.flt := rfl
@[simp] theorem State.cmdsM_book (s : State) (f : Cmds → Cmds) : (s.cmdsM f).book = s.book := rfl
@[simp] theorem State.cmdsM_parse (s : State) (f : Cmds → Cmds) : (s.cmdsM f).parse = s.parse := rfl
@[simp] theorem State.cmdsM_lookup (s : State) (f : Cmds → Cmds) : (s.cmdsM f).lookup = s.lookup := rfl
@[simp] theorem State.cmdsM_tcam (s : State) (f : Cmds → Cmds) : (s.cmdsM f).tcam = s.tcam := rfl
@[simp] theorem State.cmdsM_act (s : State) (f : Cmds → Cmds) : (s.cmdsM f).act = s.act := rfl
@[simp] theorem State.cmdsM_vin (s : State) (f : Cmds → Cmds) : (s.cmdsM f).vin = s.vin := rfl
@[simp] theorem State.cmdsM_ing (s : State) (f : Cmds → Cmds) : (s.cmdsM f).ing = s.ing := rfl
@[simp] theorem State.cmdsM_frag (s : State) (f : Cmds → Cmds) : (s.cmdsM f).frag = s.frag := rfl
@[simp] theorem State.cmdsM_cip (s : State) (f : Cmds → Cmds) : (s.cmdsM f).cip = s.cip := rfl
@[simp] theorem State.cmdsM_core (s : State) (f : Cmds → Cmds) : (s.cmdsM f).core = s.core := rfl
@[simp] theorem State.cmdsM_sched (s : State) (f : Cmds → Cmds) : (s.cmdsM f).sched = s.sched := rfl
@[simp] theorem State.cmdsM_mac (s : State) (f : Cmds → Cmds) : (s.cmdsM f).mac = s.mac := rfl
@[simp] theorem State.cmdsM_hst (s : State) (f : Cmds → Cmds) : (s.cmdsM f).hst = s.hst := rfl
@[simp] theorem State.cmdsM_time (s : State) (f : Cmds → Cmds) : (s.cmdsM f).time = s.time := rfl
@[simp] theorem State.cmdsM_twin (s : State) (f : Cmds → Cmds) : (s.cmdsM f).twin = s.twin := rfl
@[simp] theorem State.cmdsM_run (s : State) (f : Cmds → Cmds) : (s.cmdsM f).run = s.run := rfl
@[simp] theorem State.cmdsM_pwr (s : State) (f : Cmds → Cmds) : (s.cmdsM f).pwr = s.pwr := rfl
@[simp] theorem State.cmdsM_ddr (s : State) (f : Cmds → Cmds) : (s.cmdsM f).ddr = s.ddr := rfl
@[simp] theorem State.cmdsM_cnt (s : State) (f : Cmds → Cmds) : (s.cmdsM f).cnt = s.cnt := rfl
@[simp] theorem State.cmdsM_tap (s : State) (f : Cmds → Cmds) : (s.cmdsM f).tap = s.tap := rfl
@[simp] theorem State.cmdsM_diag (s : State) (f : Cmds → Cmds) : (s.cmdsM f).diag = s.diag := rfl
@[simp] theorem State.cmdsM_out (s : State) (f : Cmds → Cmds) : (s.cmdsM f).out = s.out := rfl
@[simp] theorem State.cmdsM_free (s : State) (f : Cmds → Cmds) : (s.cmdsM f).free = s.free := rfl
@[simp] theorem State.cmdsM_pending (s : State) (f : Cmds → Cmds) : (s.cmdsM f).pending = s.pending := rfl

/-! ## `State.mbxM` -/

@[simp] theorem State.mbxM_mode (s : State) (f : (List Mbx) → (List Mbx)) : (s.mbxM f).mode = s.mode := rfl
@[simp] theorem State.mbxM_pins (s : State) (f : (List Mbx) → (List Mbx)) : (s.mbxM f).pins = s.pins := rfl
@[simp] theorem State.mbxM_hif (s : State) (f : (List Mbx) → (List Mbx)) : (s.mbxM f).hif = s.hif := rfl
@[simp] theorem State.mbxM_cmds (s : State) (f : (List Mbx) → (List Mbx)) : (s.mbxM f).cmds = s.cmds := rfl
@[simp] theorem State.mbxM_mbx (s : State) (f : (List Mbx) → (List Mbx)) : (s.mbxM f).mbx = f s.mbx := rfl
@[simp] theorem State.mbxM_locks (s : State) (f : (List Mbx) → (List Mbx)) : (s.mbxM f).locks = s.locks := rfl
@[simp] theorem State.mbxM_smb (s : State) (f : (List Mbx) → (List Mbx)) : (s.mbxM f).smb = s.smb := rfl
@[simp] theorem State.mbxM_vnt (s : State) (f : (List Mbx) → (List Mbx)) : (s.mbxM f).vnt = s.vnt := rfl
@[simp] theorem State.mbxM_flt (s : State) (f : (List Mbx) → (List Mbx)) : (s.mbxM f).flt = s.flt := rfl
@[simp] theorem State.mbxM_book (s : State) (f : (List Mbx) → (List Mbx)) : (s.mbxM f).book = s.book := rfl
@[simp] theorem State.mbxM_parse (s : State) (f : (List Mbx) → (List Mbx)) : (s.mbxM f).parse = s.parse := rfl
@[simp] theorem State.mbxM_lookup (s : State) (f : (List Mbx) → (List Mbx)) : (s.mbxM f).lookup = s.lookup := rfl
@[simp] theorem State.mbxM_tcam (s : State) (f : (List Mbx) → (List Mbx)) : (s.mbxM f).tcam = s.tcam := rfl
@[simp] theorem State.mbxM_act (s : State) (f : (List Mbx) → (List Mbx)) : (s.mbxM f).act = s.act := rfl
@[simp] theorem State.mbxM_vin (s : State) (f : (List Mbx) → (List Mbx)) : (s.mbxM f).vin = s.vin := rfl
@[simp] theorem State.mbxM_ing (s : State) (f : (List Mbx) → (List Mbx)) : (s.mbxM f).ing = s.ing := rfl
@[simp] theorem State.mbxM_frag (s : State) (f : (List Mbx) → (List Mbx)) : (s.mbxM f).frag = s.frag := rfl
@[simp] theorem State.mbxM_cip (s : State) (f : (List Mbx) → (List Mbx)) : (s.mbxM f).cip = s.cip := rfl
@[simp] theorem State.mbxM_core (s : State) (f : (List Mbx) → (List Mbx)) : (s.mbxM f).core = s.core := rfl
@[simp] theorem State.mbxM_sched (s : State) (f : (List Mbx) → (List Mbx)) : (s.mbxM f).sched = s.sched := rfl
@[simp] theorem State.mbxM_mac (s : State) (f : (List Mbx) → (List Mbx)) : (s.mbxM f).mac = s.mac := rfl
@[simp] theorem State.mbxM_hst (s : State) (f : (List Mbx) → (List Mbx)) : (s.mbxM f).hst = s.hst := rfl
@[simp] theorem State.mbxM_time (s : State) (f : (List Mbx) → (List Mbx)) : (s.mbxM f).time = s.time := rfl
@[simp] theorem State.mbxM_twin (s : State) (f : (List Mbx) → (List Mbx)) : (s.mbxM f).twin = s.twin := rfl
@[simp] theorem State.mbxM_run (s : State) (f : (List Mbx) → (List Mbx)) : (s.mbxM f).run = s.run := rfl
@[simp] theorem State.mbxM_pwr (s : State) (f : (List Mbx) → (List Mbx)) : (s.mbxM f).pwr = s.pwr := rfl
@[simp] theorem State.mbxM_ddr (s : State) (f : (List Mbx) → (List Mbx)) : (s.mbxM f).ddr = s.ddr := rfl
@[simp] theorem State.mbxM_cnt (s : State) (f : (List Mbx) → (List Mbx)) : (s.mbxM f).cnt = s.cnt := rfl
@[simp] theorem State.mbxM_tap (s : State) (f : (List Mbx) → (List Mbx)) : (s.mbxM f).tap = s.tap := rfl
@[simp] theorem State.mbxM_diag (s : State) (f : (List Mbx) → (List Mbx)) : (s.mbxM f).diag = s.diag := rfl
@[simp] theorem State.mbxM_out (s : State) (f : (List Mbx) → (List Mbx)) : (s.mbxM f).out = s.out := rfl
@[simp] theorem State.mbxM_free (s : State) (f : (List Mbx) → (List Mbx)) : (s.mbxM f).free = s.free := rfl
@[simp] theorem State.mbxM_pending (s : State) (f : (List Mbx) → (List Mbx)) : (s.mbxM f).pending = s.pending := rfl

/-! ## `State.locksM` -/

@[simp] theorem State.locksM_mode (s : State) (f : (List (Option Nat)) → (List (Option Nat))) : (s.locksM f).mode = s.mode := rfl
@[simp] theorem State.locksM_pins (s : State) (f : (List (Option Nat)) → (List (Option Nat))) : (s.locksM f).pins = s.pins := rfl
@[simp] theorem State.locksM_hif (s : State) (f : (List (Option Nat)) → (List (Option Nat))) : (s.locksM f).hif = s.hif := rfl
@[simp] theorem State.locksM_cmds (s : State) (f : (List (Option Nat)) → (List (Option Nat))) : (s.locksM f).cmds = s.cmds := rfl
@[simp] theorem State.locksM_mbx (s : State) (f : (List (Option Nat)) → (List (Option Nat))) : (s.locksM f).mbx = s.mbx := rfl
@[simp] theorem State.locksM_locks (s : State) (f : (List (Option Nat)) → (List (Option Nat))) : (s.locksM f).locks = f s.locks := rfl
@[simp] theorem State.locksM_smb (s : State) (f : (List (Option Nat)) → (List (Option Nat))) : (s.locksM f).smb = s.smb := rfl
@[simp] theorem State.locksM_vnt (s : State) (f : (List (Option Nat)) → (List (Option Nat))) : (s.locksM f).vnt = s.vnt := rfl
@[simp] theorem State.locksM_flt (s : State) (f : (List (Option Nat)) → (List (Option Nat))) : (s.locksM f).flt = s.flt := rfl
@[simp] theorem State.locksM_book (s : State) (f : (List (Option Nat)) → (List (Option Nat))) : (s.locksM f).book = s.book := rfl
@[simp] theorem State.locksM_parse (s : State) (f : (List (Option Nat)) → (List (Option Nat))) : (s.locksM f).parse = s.parse := rfl
@[simp] theorem State.locksM_lookup (s : State) (f : (List (Option Nat)) → (List (Option Nat))) : (s.locksM f).lookup = s.lookup := rfl
@[simp] theorem State.locksM_tcam (s : State) (f : (List (Option Nat)) → (List (Option Nat))) : (s.locksM f).tcam = s.tcam := rfl
@[simp] theorem State.locksM_act (s : State) (f : (List (Option Nat)) → (List (Option Nat))) : (s.locksM f).act = s.act := rfl
@[simp] theorem State.locksM_vin (s : State) (f : (List (Option Nat)) → (List (Option Nat))) : (s.locksM f).vin = s.vin := rfl
@[simp] theorem State.locksM_ing (s : State) (f : (List (Option Nat)) → (List (Option Nat))) : (s.locksM f).ing = s.ing := rfl
@[simp] theorem State.locksM_frag (s : State) (f : (List (Option Nat)) → (List (Option Nat))) : (s.locksM f).frag = s.frag := rfl
@[simp] theorem State.locksM_cip (s : State) (f : (List (Option Nat)) → (List (Option Nat))) : (s.locksM f).cip = s.cip := rfl
@[simp] theorem State.locksM_core (s : State) (f : (List (Option Nat)) → (List (Option Nat))) : (s.locksM f).core = s.core := rfl
@[simp] theorem State.locksM_sched (s : State) (f : (List (Option Nat)) → (List (Option Nat))) : (s.locksM f).sched = s.sched := rfl
@[simp] theorem State.locksM_mac (s : State) (f : (List (Option Nat)) → (List (Option Nat))) : (s.locksM f).mac = s.mac := rfl
@[simp] theorem State.locksM_hst (s : State) (f : (List (Option Nat)) → (List (Option Nat))) : (s.locksM f).hst = s.hst := rfl
@[simp] theorem State.locksM_time (s : State) (f : (List (Option Nat)) → (List (Option Nat))) : (s.locksM f).time = s.time := rfl
@[simp] theorem State.locksM_twin (s : State) (f : (List (Option Nat)) → (List (Option Nat))) : (s.locksM f).twin = s.twin := rfl
@[simp] theorem State.locksM_run (s : State) (f : (List (Option Nat)) → (List (Option Nat))) : (s.locksM f).run = s.run := rfl
@[simp] theorem State.locksM_pwr (s : State) (f : (List (Option Nat)) → (List (Option Nat))) : (s.locksM f).pwr = s.pwr := rfl
@[simp] theorem State.locksM_ddr (s : State) (f : (List (Option Nat)) → (List (Option Nat))) : (s.locksM f).ddr = s.ddr := rfl
@[simp] theorem State.locksM_cnt (s : State) (f : (List (Option Nat)) → (List (Option Nat))) : (s.locksM f).cnt = s.cnt := rfl
@[simp] theorem State.locksM_tap (s : State) (f : (List (Option Nat)) → (List (Option Nat))) : (s.locksM f).tap = s.tap := rfl
@[simp] theorem State.locksM_diag (s : State) (f : (List (Option Nat)) → (List (Option Nat))) : (s.locksM f).diag = s.diag := rfl
@[simp] theorem State.locksM_out (s : State) (f : (List (Option Nat)) → (List (Option Nat))) : (s.locksM f).out = s.out := rfl
@[simp] theorem State.locksM_free (s : State) (f : (List (Option Nat)) → (List (Option Nat))) : (s.locksM f).free = s.free := rfl
@[simp] theorem State.locksM_pending (s : State) (f : (List (Option Nat)) → (List (Option Nat))) : (s.locksM f).pending = s.pending := rfl

/-! ## `State.smbM` -/

@[simp] theorem State.smbM_mode (s : State) (f : Smbus → Smbus) : (s.smbM f).mode = s.mode := rfl
@[simp] theorem State.smbM_pins (s : State) (f : Smbus → Smbus) : (s.smbM f).pins = s.pins := rfl
@[simp] theorem State.smbM_hif (s : State) (f : Smbus → Smbus) : (s.smbM f).hif = s.hif := rfl
@[simp] theorem State.smbM_cmds (s : State) (f : Smbus → Smbus) : (s.smbM f).cmds = s.cmds := rfl
@[simp] theorem State.smbM_mbx (s : State) (f : Smbus → Smbus) : (s.smbM f).mbx = s.mbx := rfl
@[simp] theorem State.smbM_locks (s : State) (f : Smbus → Smbus) : (s.smbM f).locks = s.locks := rfl
@[simp] theorem State.smbM_smb (s : State) (f : Smbus → Smbus) : (s.smbM f).smb = f s.smb := rfl
@[simp] theorem State.smbM_vnt (s : State) (f : Smbus → Smbus) : (s.smbM f).vnt = s.vnt := rfl
@[simp] theorem State.smbM_flt (s : State) (f : Smbus → Smbus) : (s.smbM f).flt = s.flt := rfl
@[simp] theorem State.smbM_book (s : State) (f : Smbus → Smbus) : (s.smbM f).book = s.book := rfl
@[simp] theorem State.smbM_parse (s : State) (f : Smbus → Smbus) : (s.smbM f).parse = s.parse := rfl
@[simp] theorem State.smbM_lookup (s : State) (f : Smbus → Smbus) : (s.smbM f).lookup = s.lookup := rfl
@[simp] theorem State.smbM_tcam (s : State) (f : Smbus → Smbus) : (s.smbM f).tcam = s.tcam := rfl
@[simp] theorem State.smbM_act (s : State) (f : Smbus → Smbus) : (s.smbM f).act = s.act := rfl
@[simp] theorem State.smbM_vin (s : State) (f : Smbus → Smbus) : (s.smbM f).vin = s.vin := rfl
@[simp] theorem State.smbM_ing (s : State) (f : Smbus → Smbus) : (s.smbM f).ing = s.ing := rfl
@[simp] theorem State.smbM_frag (s : State) (f : Smbus → Smbus) : (s.smbM f).frag = s.frag := rfl
@[simp] theorem State.smbM_cip (s : State) (f : Smbus → Smbus) : (s.smbM f).cip = s.cip := rfl
@[simp] theorem State.smbM_core (s : State) (f : Smbus → Smbus) : (s.smbM f).core = s.core := rfl
@[simp] theorem State.smbM_sched (s : State) (f : Smbus → Smbus) : (s.smbM f).sched = s.sched := rfl
@[simp] theorem State.smbM_mac (s : State) (f : Smbus → Smbus) : (s.smbM f).mac = s.mac := rfl
@[simp] theorem State.smbM_hst (s : State) (f : Smbus → Smbus) : (s.smbM f).hst = s.hst := rfl
@[simp] theorem State.smbM_time (s : State) (f : Smbus → Smbus) : (s.smbM f).time = s.time := rfl
@[simp] theorem State.smbM_twin (s : State) (f : Smbus → Smbus) : (s.smbM f).twin = s.twin := rfl
@[simp] theorem State.smbM_run (s : State) (f : Smbus → Smbus) : (s.smbM f).run = s.run := rfl
@[simp] theorem State.smbM_pwr (s : State) (f : Smbus → Smbus) : (s.smbM f).pwr = s.pwr := rfl
@[simp] theorem State.smbM_ddr (s : State) (f : Smbus → Smbus) : (s.smbM f).ddr = s.ddr := rfl
@[simp] theorem State.smbM_cnt (s : State) (f : Smbus → Smbus) : (s.smbM f).cnt = s.cnt := rfl
@[simp] theorem State.smbM_tap (s : State) (f : Smbus → Smbus) : (s.smbM f).tap = s.tap := rfl
@[simp] theorem State.smbM_diag (s : State) (f : Smbus → Smbus) : (s.smbM f).diag = s.diag := rfl
@[simp] theorem State.smbM_out (s : State) (f : Smbus → Smbus) : (s.smbM f).out = s.out := rfl
@[simp] theorem State.smbM_free (s : State) (f : Smbus → Smbus) : (s.smbM f).free = s.free := rfl
@[simp] theorem State.smbM_pending (s : State) (f : Smbus → Smbus) : (s.smbM f).pending = s.pending := rfl

/-! ## `State.vntM` -/

@[simp] theorem State.vntM_mode (s : State) (f : Vintner → Vintner) : (s.vntM f).mode = s.mode := rfl
@[simp] theorem State.vntM_pins (s : State) (f : Vintner → Vintner) : (s.vntM f).pins = s.pins := rfl
@[simp] theorem State.vntM_hif (s : State) (f : Vintner → Vintner) : (s.vntM f).hif = s.hif := rfl
@[simp] theorem State.vntM_cmds (s : State) (f : Vintner → Vintner) : (s.vntM f).cmds = s.cmds := rfl
@[simp] theorem State.vntM_mbx (s : State) (f : Vintner → Vintner) : (s.vntM f).mbx = s.mbx := rfl
@[simp] theorem State.vntM_locks (s : State) (f : Vintner → Vintner) : (s.vntM f).locks = s.locks := rfl
@[simp] theorem State.vntM_smb (s : State) (f : Vintner → Vintner) : (s.vntM f).smb = s.smb := rfl
@[simp] theorem State.vntM_vnt (s : State) (f : Vintner → Vintner) : (s.vntM f).vnt = f s.vnt := rfl
@[simp] theorem State.vntM_flt (s : State) (f : Vintner → Vintner) : (s.vntM f).flt = s.flt := rfl
@[simp] theorem State.vntM_book (s : State) (f : Vintner → Vintner) : (s.vntM f).book = s.book := rfl
@[simp] theorem State.vntM_parse (s : State) (f : Vintner → Vintner) : (s.vntM f).parse = s.parse := rfl
@[simp] theorem State.vntM_lookup (s : State) (f : Vintner → Vintner) : (s.vntM f).lookup = s.lookup := rfl
@[simp] theorem State.vntM_tcam (s : State) (f : Vintner → Vintner) : (s.vntM f).tcam = s.tcam := rfl
@[simp] theorem State.vntM_act (s : State) (f : Vintner → Vintner) : (s.vntM f).act = s.act := rfl
@[simp] theorem State.vntM_vin (s : State) (f : Vintner → Vintner) : (s.vntM f).vin = s.vin := rfl
@[simp] theorem State.vntM_ing (s : State) (f : Vintner → Vintner) : (s.vntM f).ing = s.ing := rfl
@[simp] theorem State.vntM_frag (s : State) (f : Vintner → Vintner) : (s.vntM f).frag = s.frag := rfl
@[simp] theorem State.vntM_cip (s : State) (f : Vintner → Vintner) : (s.vntM f).cip = s.cip := rfl
@[simp] theorem State.vntM_core (s : State) (f : Vintner → Vintner) : (s.vntM f).core = s.core := rfl
@[simp] theorem State.vntM_sched (s : State) (f : Vintner → Vintner) : (s.vntM f).sched = s.sched := rfl
@[simp] theorem State.vntM_mac (s : State) (f : Vintner → Vintner) : (s.vntM f).mac = s.mac := rfl
@[simp] theorem State.vntM_hst (s : State) (f : Vintner → Vintner) : (s.vntM f).hst = s.hst := rfl
@[simp] theorem State.vntM_time (s : State) (f : Vintner → Vintner) : (s.vntM f).time = s.time := rfl
@[simp] theorem State.vntM_twin (s : State) (f : Vintner → Vintner) : (s.vntM f).twin = s.twin := rfl
@[simp] theorem State.vntM_run (s : State) (f : Vintner → Vintner) : (s.vntM f).run = s.run := rfl
@[simp] theorem State.vntM_pwr (s : State) (f : Vintner → Vintner) : (s.vntM f).pwr = s.pwr := rfl
@[simp] theorem State.vntM_ddr (s : State) (f : Vintner → Vintner) : (s.vntM f).ddr = s.ddr := rfl
@[simp] theorem State.vntM_cnt (s : State) (f : Vintner → Vintner) : (s.vntM f).cnt = s.cnt := rfl
@[simp] theorem State.vntM_tap (s : State) (f : Vintner → Vintner) : (s.vntM f).tap = s.tap := rfl
@[simp] theorem State.vntM_diag (s : State) (f : Vintner → Vintner) : (s.vntM f).diag = s.diag := rfl
@[simp] theorem State.vntM_out (s : State) (f : Vintner → Vintner) : (s.vntM f).out = s.out := rfl
@[simp] theorem State.vntM_free (s : State) (f : Vintner → Vintner) : (s.vntM f).free = s.free := rfl
@[simp] theorem State.vntM_pending (s : State) (f : Vintner → Vintner) : (s.vntM f).pending = s.pending := rfl

/-! ## `State.fltM` -/

@[simp] theorem State.fltM_mode (s : State) (f : Faults → Faults) : (s.fltM f).mode = s.mode := rfl
@[simp] theorem State.fltM_pins (s : State) (f : Faults → Faults) : (s.fltM f).pins = s.pins := rfl
@[simp] theorem State.fltM_hif (s : State) (f : Faults → Faults) : (s.fltM f).hif = s.hif := rfl
@[simp] theorem State.fltM_cmds (s : State) (f : Faults → Faults) : (s.fltM f).cmds = s.cmds := rfl
@[simp] theorem State.fltM_mbx (s : State) (f : Faults → Faults) : (s.fltM f).mbx = s.mbx := rfl
@[simp] theorem State.fltM_locks (s : State) (f : Faults → Faults) : (s.fltM f).locks = s.locks := rfl
@[simp] theorem State.fltM_smb (s : State) (f : Faults → Faults) : (s.fltM f).smb = s.smb := rfl
@[simp] theorem State.fltM_vnt (s : State) (f : Faults → Faults) : (s.fltM f).vnt = s.vnt := rfl
@[simp] theorem State.fltM_flt (s : State) (f : Faults → Faults) : (s.fltM f).flt = f s.flt := rfl
@[simp] theorem State.fltM_book (s : State) (f : Faults → Faults) : (s.fltM f).book = s.book := rfl
@[simp] theorem State.fltM_parse (s : State) (f : Faults → Faults) : (s.fltM f).parse = s.parse := rfl
@[simp] theorem State.fltM_lookup (s : State) (f : Faults → Faults) : (s.fltM f).lookup = s.lookup := rfl
@[simp] theorem State.fltM_tcam (s : State) (f : Faults → Faults) : (s.fltM f).tcam = s.tcam := rfl
@[simp] theorem State.fltM_act (s : State) (f : Faults → Faults) : (s.fltM f).act = s.act := rfl
@[simp] theorem State.fltM_vin (s : State) (f : Faults → Faults) : (s.fltM f).vin = s.vin := rfl
@[simp] theorem State.fltM_ing (s : State) (f : Faults → Faults) : (s.fltM f).ing = s.ing := rfl
@[simp] theorem State.fltM_frag (s : State) (f : Faults → Faults) : (s.fltM f).frag = s.frag := rfl
@[simp] theorem State.fltM_cip (s : State) (f : Faults → Faults) : (s.fltM f).cip = s.cip := rfl
@[simp] theorem State.fltM_core (s : State) (f : Faults → Faults) : (s.fltM f).core = s.core := rfl
@[simp] theorem State.fltM_sched (s : State) (f : Faults → Faults) : (s.fltM f).sched = s.sched := rfl
@[simp] theorem State.fltM_mac (s : State) (f : Faults → Faults) : (s.fltM f).mac = s.mac := rfl
@[simp] theorem State.fltM_hst (s : State) (f : Faults → Faults) : (s.fltM f).hst = s.hst := rfl
@[simp] theorem State.fltM_time (s : State) (f : Faults → Faults) : (s.fltM f).time = s.time := rfl
@[simp] theorem State.fltM_twin (s : State) (f : Faults → Faults) : (s.fltM f).twin = s.twin := rfl
@[simp] theorem State.fltM_run (s : State) (f : Faults → Faults) : (s.fltM f).run = s.run := rfl
@[simp] theorem State.fltM_pwr (s : State) (f : Faults → Faults) : (s.fltM f).pwr = s.pwr := rfl
@[simp] theorem State.fltM_ddr (s : State) (f : Faults → Faults) : (s.fltM f).ddr = s.ddr := rfl
@[simp] theorem State.fltM_cnt (s : State) (f : Faults → Faults) : (s.fltM f).cnt = s.cnt := rfl
@[simp] theorem State.fltM_tap (s : State) (f : Faults → Faults) : (s.fltM f).tap = s.tap := rfl
@[simp] theorem State.fltM_diag (s : State) (f : Faults → Faults) : (s.fltM f).diag = s.diag := rfl
@[simp] theorem State.fltM_out (s : State) (f : Faults → Faults) : (s.fltM f).out = s.out := rfl
@[simp] theorem State.fltM_free (s : State) (f : Faults → Faults) : (s.fltM f).free = s.free := rfl
@[simp] theorem State.fltM_pending (s : State) (f : Faults → Faults) : (s.fltM f).pending = s.pending := rfl

/-! ## `State.bookM` -/

@[simp] theorem State.bookM_mode (s : State) (f : Book → Book) : (s.bookM f).mode = s.mode := rfl
@[simp] theorem State.bookM_pins (s : State) (f : Book → Book) : (s.bookM f).pins = s.pins := rfl
@[simp] theorem State.bookM_hif (s : State) (f : Book → Book) : (s.bookM f).hif = s.hif := rfl
@[simp] theorem State.bookM_cmds (s : State) (f : Book → Book) : (s.bookM f).cmds = s.cmds := rfl
@[simp] theorem State.bookM_mbx (s : State) (f : Book → Book) : (s.bookM f).mbx = s.mbx := rfl
@[simp] theorem State.bookM_locks (s : State) (f : Book → Book) : (s.bookM f).locks = s.locks := rfl
@[simp] theorem State.bookM_smb (s : State) (f : Book → Book) : (s.bookM f).smb = s.smb := rfl
@[simp] theorem State.bookM_vnt (s : State) (f : Book → Book) : (s.bookM f).vnt = s.vnt := rfl
@[simp] theorem State.bookM_flt (s : State) (f : Book → Book) : (s.bookM f).flt = s.flt := rfl
@[simp] theorem State.bookM_book (s : State) (f : Book → Book) : (s.bookM f).book = f s.book := rfl
@[simp] theorem State.bookM_parse (s : State) (f : Book → Book) : (s.bookM f).parse = s.parse := rfl
@[simp] theorem State.bookM_lookup (s : State) (f : Book → Book) : (s.bookM f).lookup = s.lookup := rfl
@[simp] theorem State.bookM_tcam (s : State) (f : Book → Book) : (s.bookM f).tcam = s.tcam := rfl
@[simp] theorem State.bookM_act (s : State) (f : Book → Book) : (s.bookM f).act = s.act := rfl
@[simp] theorem State.bookM_vin (s : State) (f : Book → Book) : (s.bookM f).vin = s.vin := rfl
@[simp] theorem State.bookM_ing (s : State) (f : Book → Book) : (s.bookM f).ing = s.ing := rfl
@[simp] theorem State.bookM_frag (s : State) (f : Book → Book) : (s.bookM f).frag = s.frag := rfl
@[simp] theorem State.bookM_cip (s : State) (f : Book → Book) : (s.bookM f).cip = s.cip := rfl
@[simp] theorem State.bookM_core (s : State) (f : Book → Book) : (s.bookM f).core = s.core := rfl
@[simp] theorem State.bookM_sched (s : State) (f : Book → Book) : (s.bookM f).sched = s.sched := rfl
@[simp] theorem State.bookM_mac (s : State) (f : Book → Book) : (s.bookM f).mac = s.mac := rfl
@[simp] theorem State.bookM_hst (s : State) (f : Book → Book) : (s.bookM f).hst = s.hst := rfl
@[simp] theorem State.bookM_time (s : State) (f : Book → Book) : (s.bookM f).time = s.time := rfl
@[simp] theorem State.bookM_twin (s : State) (f : Book → Book) : (s.bookM f).twin = s.twin := rfl
@[simp] theorem State.bookM_run (s : State) (f : Book → Book) : (s.bookM f).run = s.run := rfl
@[simp] theorem State.bookM_pwr (s : State) (f : Book → Book) : (s.bookM f).pwr = s.pwr := rfl
@[simp] theorem State.bookM_ddr (s : State) (f : Book → Book) : (s.bookM f).ddr = s.ddr := rfl
@[simp] theorem State.bookM_cnt (s : State) (f : Book → Book) : (s.bookM f).cnt = s.cnt := rfl
@[simp] theorem State.bookM_tap (s : State) (f : Book → Book) : (s.bookM f).tap = s.tap := rfl
@[simp] theorem State.bookM_diag (s : State) (f : Book → Book) : (s.bookM f).diag = s.diag := rfl
@[simp] theorem State.bookM_out (s : State) (f : Book → Book) : (s.bookM f).out = s.out := rfl
@[simp] theorem State.bookM_free (s : State) (f : Book → Book) : (s.bookM f).free = s.free := rfl
@[simp] theorem State.bookM_pending (s : State) (f : Book → Book) : (s.bookM f).pending = s.pending := rfl

/-! ## `State.parseM` -/

@[simp] theorem State.parseM_mode (s : State) (f : ParseBlk → ParseBlk) : (s.parseM f).mode = s.mode := rfl
@[simp] theorem State.parseM_pins (s : State) (f : ParseBlk → ParseBlk) : (s.parseM f).pins = s.pins := rfl
@[simp] theorem State.parseM_hif (s : State) (f : ParseBlk → ParseBlk) : (s.parseM f).hif = s.hif := rfl
@[simp] theorem State.parseM_cmds (s : State) (f : ParseBlk → ParseBlk) : (s.parseM f).cmds = s.cmds := rfl
@[simp] theorem State.parseM_mbx (s : State) (f : ParseBlk → ParseBlk) : (s.parseM f).mbx = s.mbx := rfl
@[simp] theorem State.parseM_locks (s : State) (f : ParseBlk → ParseBlk) : (s.parseM f).locks = s.locks := rfl
@[simp] theorem State.parseM_smb (s : State) (f : ParseBlk → ParseBlk) : (s.parseM f).smb = s.smb := rfl
@[simp] theorem State.parseM_vnt (s : State) (f : ParseBlk → ParseBlk) : (s.parseM f).vnt = s.vnt := rfl
@[simp] theorem State.parseM_flt (s : State) (f : ParseBlk → ParseBlk) : (s.parseM f).flt = s.flt := rfl
@[simp] theorem State.parseM_book (s : State) (f : ParseBlk → ParseBlk) : (s.parseM f).book = s.book := rfl
@[simp] theorem State.parseM_parse (s : State) (f : ParseBlk → ParseBlk) : (s.parseM f).parse = f s.parse := rfl
@[simp] theorem State.parseM_lookup (s : State) (f : ParseBlk → ParseBlk) : (s.parseM f).lookup = s.lookup := rfl
@[simp] theorem State.parseM_tcam (s : State) (f : ParseBlk → ParseBlk) : (s.parseM f).tcam = s.tcam := rfl
@[simp] theorem State.parseM_act (s : State) (f : ParseBlk → ParseBlk) : (s.parseM f).act = s.act := rfl
@[simp] theorem State.parseM_vin (s : State) (f : ParseBlk → ParseBlk) : (s.parseM f).vin = s.vin := rfl
@[simp] theorem State.parseM_ing (s : State) (f : ParseBlk → ParseBlk) : (s.parseM f).ing = s.ing := rfl
@[simp] theorem State.parseM_frag (s : State) (f : ParseBlk → ParseBlk) : (s.parseM f).frag = s.frag := rfl
@[simp] theorem State.parseM_cip (s : State) (f : ParseBlk → ParseBlk) : (s.parseM f).cip = s.cip := rfl
@[simp] theorem State.parseM_core (s : State) (f : ParseBlk → ParseBlk) : (s.parseM f).core = s.core := rfl
@[simp] theorem State.parseM_sched (s : State) (f : ParseBlk → ParseBlk) : (s.parseM f).sched = s.sched := rfl
@[simp] theorem State.parseM_mac (s : State) (f : ParseBlk → ParseBlk) : (s.parseM f).mac = s.mac := rfl
@[simp] theorem State.parseM_hst (s : State) (f : ParseBlk → ParseBlk) : (s.parseM f).hst = s.hst := rfl
@[simp] theorem State.parseM_time (s : State) (f : ParseBlk → ParseBlk) : (s.parseM f).time = s.time := rfl
@[simp] theorem State.parseM_twin (s : State) (f : ParseBlk → ParseBlk) : (s.parseM f).twin = s.twin := rfl
@[simp] theorem State.parseM_run (s : State) (f : ParseBlk → ParseBlk) : (s.parseM f).run = s.run := rfl
@[simp] theorem State.parseM_pwr (s : State) (f : ParseBlk → ParseBlk) : (s.parseM f).pwr = s.pwr := rfl
@[simp] theorem State.parseM_ddr (s : State) (f : ParseBlk → ParseBlk) : (s.parseM f).ddr = s.ddr := rfl
@[simp] theorem State.parseM_cnt (s : State) (f : ParseBlk → ParseBlk) : (s.parseM f).cnt = s.cnt := rfl
@[simp] theorem State.parseM_tap (s : State) (f : ParseBlk → ParseBlk) : (s.parseM f).tap = s.tap := rfl
@[simp] theorem State.parseM_diag (s : State) (f : ParseBlk → ParseBlk) : (s.parseM f).diag = s.diag := rfl
@[simp] theorem State.parseM_out (s : State) (f : ParseBlk → ParseBlk) : (s.parseM f).out = s.out := rfl
@[simp] theorem State.parseM_free (s : State) (f : ParseBlk → ParseBlk) : (s.parseM f).free = s.free := rfl
@[simp] theorem State.parseM_pending (s : State) (f : ParseBlk → ParseBlk) : (s.parseM f).pending = s.pending := rfl

/-! ## `State.lookupM` -/

@[simp] theorem State.lookupM_mode (s : State) (f : Lookup → Lookup) : (s.lookupM f).mode = s.mode := rfl
@[simp] theorem State.lookupM_pins (s : State) (f : Lookup → Lookup) : (s.lookupM f).pins = s.pins := rfl
@[simp] theorem State.lookupM_hif (s : State) (f : Lookup → Lookup) : (s.lookupM f).hif = s.hif := rfl
@[simp] theorem State.lookupM_cmds (s : State) (f : Lookup → Lookup) : (s.lookupM f).cmds = s.cmds := rfl
@[simp] theorem State.lookupM_mbx (s : State) (f : Lookup → Lookup) : (s.lookupM f).mbx = s.mbx := rfl
@[simp] theorem State.lookupM_locks (s : State) (f : Lookup → Lookup) : (s.lookupM f).locks = s.locks := rfl
@[simp] theorem State.lookupM_smb (s : State) (f : Lookup → Lookup) : (s.lookupM f).smb = s.smb := rfl
@[simp] theorem State.lookupM_vnt (s : State) (f : Lookup → Lookup) : (s.lookupM f).vnt = s.vnt := rfl
@[simp] theorem State.lookupM_flt (s : State) (f : Lookup → Lookup) : (s.lookupM f).flt = s.flt := rfl
@[simp] theorem State.lookupM_book (s : State) (f : Lookup → Lookup) : (s.lookupM f).book = s.book := rfl
@[simp] theorem State.lookupM_parse (s : State) (f : Lookup → Lookup) : (s.lookupM f).parse = s.parse := rfl
@[simp] theorem State.lookupM_lookup (s : State) (f : Lookup → Lookup) : (s.lookupM f).lookup = f s.lookup := rfl
@[simp] theorem State.lookupM_tcam (s : State) (f : Lookup → Lookup) : (s.lookupM f).tcam = s.tcam := rfl
@[simp] theorem State.lookupM_act (s : State) (f : Lookup → Lookup) : (s.lookupM f).act = s.act := rfl
@[simp] theorem State.lookupM_vin (s : State) (f : Lookup → Lookup) : (s.lookupM f).vin = s.vin := rfl
@[simp] theorem State.lookupM_ing (s : State) (f : Lookup → Lookup) : (s.lookupM f).ing = s.ing := rfl
@[simp] theorem State.lookupM_frag (s : State) (f : Lookup → Lookup) : (s.lookupM f).frag = s.frag := rfl
@[simp] theorem State.lookupM_cip (s : State) (f : Lookup → Lookup) : (s.lookupM f).cip = s.cip := rfl
@[simp] theorem State.lookupM_core (s : State) (f : Lookup → Lookup) : (s.lookupM f).core = s.core := rfl
@[simp] theorem State.lookupM_sched (s : State) (f : Lookup → Lookup) : (s.lookupM f).sched = s.sched := rfl
@[simp] theorem State.lookupM_mac (s : State) (f : Lookup → Lookup) : (s.lookupM f).mac = s.mac := rfl
@[simp] theorem State.lookupM_hst (s : State) (f : Lookup → Lookup) : (s.lookupM f).hst = s.hst := rfl
@[simp] theorem State.lookupM_time (s : State) (f : Lookup → Lookup) : (s.lookupM f).time = s.time := rfl
@[simp] theorem State.lookupM_twin (s : State) (f : Lookup → Lookup) : (s.lookupM f).twin = s.twin := rfl
@[simp] theorem State.lookupM_run (s : State) (f : Lookup → Lookup) : (s.lookupM f).run = s.run := rfl
@[simp] theorem State.lookupM_pwr (s : State) (f : Lookup → Lookup) : (s.lookupM f).pwr = s.pwr := rfl
@[simp] theorem State.lookupM_ddr (s : State) (f : Lookup → Lookup) : (s.lookupM f).ddr = s.ddr := rfl
@[simp] theorem State.lookupM_cnt (s : State) (f : Lookup → Lookup) : (s.lookupM f).cnt = s.cnt := rfl
@[simp] theorem State.lookupM_tap (s : State) (f : Lookup → Lookup) : (s.lookupM f).tap = s.tap := rfl
@[simp] theorem State.lookupM_diag (s : State) (f : Lookup → Lookup) : (s.lookupM f).diag = s.diag := rfl
@[simp] theorem State.lookupM_out (s : State) (f : Lookup → Lookup) : (s.lookupM f).out = s.out := rfl
@[simp] theorem State.lookupM_free (s : State) (f : Lookup → Lookup) : (s.lookupM f).free = s.free := rfl
@[simp] theorem State.lookupM_pending (s : State) (f : Lookup → Lookup) : (s.lookupM f).pending = s.pending := rfl

/-! ## `State.tcamM` -/

@[simp] theorem State.tcamM_mode (s : State) (f : Tcam → Tcam) : (s.tcamM f).mode = s.mode := rfl
@[simp] theorem State.tcamM_pins (s : State) (f : Tcam → Tcam) : (s.tcamM f).pins = s.pins := rfl
@[simp] theorem State.tcamM_hif (s : State) (f : Tcam → Tcam) : (s.tcamM f).hif = s.hif := rfl
@[simp] theorem State.tcamM_cmds (s : State) (f : Tcam → Tcam) : (s.tcamM f).cmds = s.cmds := rfl
@[simp] theorem State.tcamM_mbx (s : State) (f : Tcam → Tcam) : (s.tcamM f).mbx = s.mbx := rfl
@[simp] theorem State.tcamM_locks (s : State) (f : Tcam → Tcam) : (s.tcamM f).locks = s.locks := rfl
@[simp] theorem State.tcamM_smb (s : State) (f : Tcam → Tcam) : (s.tcamM f).smb = s.smb := rfl
@[simp] theorem State.tcamM_vnt (s : State) (f : Tcam → Tcam) : (s.tcamM f).vnt = s.vnt := rfl
@[simp] theorem State.tcamM_flt (s : State) (f : Tcam → Tcam) : (s.tcamM f).flt = s.flt := rfl
@[simp] theorem State.tcamM_book (s : State) (f : Tcam → Tcam) : (s.tcamM f).book = s.book := rfl
@[simp] theorem State.tcamM_parse (s : State) (f : Tcam → Tcam) : (s.tcamM f).parse = s.parse := rfl
@[simp] theorem State.tcamM_lookup (s : State) (f : Tcam → Tcam) : (s.tcamM f).lookup = s.lookup := rfl
@[simp] theorem State.tcamM_tcam (s : State) (f : Tcam → Tcam) : (s.tcamM f).tcam = f s.tcam := rfl
@[simp] theorem State.tcamM_act (s : State) (f : Tcam → Tcam) : (s.tcamM f).act = s.act := rfl
@[simp] theorem State.tcamM_vin (s : State) (f : Tcam → Tcam) : (s.tcamM f).vin = s.vin := rfl
@[simp] theorem State.tcamM_ing (s : State) (f : Tcam → Tcam) : (s.tcamM f).ing = s.ing := rfl
@[simp] theorem State.tcamM_frag (s : State) (f : Tcam → Tcam) : (s.tcamM f).frag = s.frag := rfl
@[simp] theorem State.tcamM_cip (s : State) (f : Tcam → Tcam) : (s.tcamM f).cip = s.cip := rfl
@[simp] theorem State.tcamM_core (s : State) (f : Tcam → Tcam) : (s.tcamM f).core = s.core := rfl
@[simp] theorem State.tcamM_sched (s : State) (f : Tcam → Tcam) : (s.tcamM f).sched = s.sched := rfl
@[simp] theorem State.tcamM_mac (s : State) (f : Tcam → Tcam) : (s.tcamM f).mac = s.mac := rfl
@[simp] theorem State.tcamM_hst (s : State) (f : Tcam → Tcam) : (s.tcamM f).hst = s.hst := rfl
@[simp] theorem State.tcamM_time (s : State) (f : Tcam → Tcam) : (s.tcamM f).time = s.time := rfl
@[simp] theorem State.tcamM_twin (s : State) (f : Tcam → Tcam) : (s.tcamM f).twin = s.twin := rfl
@[simp] theorem State.tcamM_run (s : State) (f : Tcam → Tcam) : (s.tcamM f).run = s.run := rfl
@[simp] theorem State.tcamM_pwr (s : State) (f : Tcam → Tcam) : (s.tcamM f).pwr = s.pwr := rfl
@[simp] theorem State.tcamM_ddr (s : State) (f : Tcam → Tcam) : (s.tcamM f).ddr = s.ddr := rfl
@[simp] theorem State.tcamM_cnt (s : State) (f : Tcam → Tcam) : (s.tcamM f).cnt = s.cnt := rfl
@[simp] theorem State.tcamM_tap (s : State) (f : Tcam → Tcam) : (s.tcamM f).tap = s.tap := rfl
@[simp] theorem State.tcamM_diag (s : State) (f : Tcam → Tcam) : (s.tcamM f).diag = s.diag := rfl
@[simp] theorem State.tcamM_out (s : State) (f : Tcam → Tcam) : (s.tcamM f).out = s.out := rfl
@[simp] theorem State.tcamM_free (s : State) (f : Tcam → Tcam) : (s.tcamM f).free = s.free := rfl
@[simp] theorem State.tcamM_pending (s : State) (f : Tcam → Tcam) : (s.tcamM f).pending = s.pending := rfl

/-! ## `State.actM` -/

@[simp] theorem State.actM_mode (s : State) (f : Actions → Actions) : (s.actM f).mode = s.mode := rfl
@[simp] theorem State.actM_pins (s : State) (f : Actions → Actions) : (s.actM f).pins = s.pins := rfl
@[simp] theorem State.actM_hif (s : State) (f : Actions → Actions) : (s.actM f).hif = s.hif := rfl
@[simp] theorem State.actM_cmds (s : State) (f : Actions → Actions) : (s.actM f).cmds = s.cmds := rfl
@[simp] theorem State.actM_mbx (s : State) (f : Actions → Actions) : (s.actM f).mbx = s.mbx := rfl
@[simp] theorem State.actM_locks (s : State) (f : Actions → Actions) : (s.actM f).locks = s.locks := rfl
@[simp] theorem State.actM_smb (s : State) (f : Actions → Actions) : (s.actM f).smb = s.smb := rfl
@[simp] theorem State.actM_vnt (s : State) (f : Actions → Actions) : (s.actM f).vnt = s.vnt := rfl
@[simp] theorem State.actM_flt (s : State) (f : Actions → Actions) : (s.actM f).flt = s.flt := rfl
@[simp] theorem State.actM_book (s : State) (f : Actions → Actions) : (s.actM f).book = s.book := rfl
@[simp] theorem State.actM_parse (s : State) (f : Actions → Actions) : (s.actM f).parse = s.parse := rfl
@[simp] theorem State.actM_lookup (s : State) (f : Actions → Actions) : (s.actM f).lookup = s.lookup := rfl
@[simp] theorem State.actM_tcam (s : State) (f : Actions → Actions) : (s.actM f).tcam = s.tcam := rfl
@[simp] theorem State.actM_act (s : State) (f : Actions → Actions) : (s.actM f).act = f s.act := rfl
@[simp] theorem State.actM_vin (s : State) (f : Actions → Actions) : (s.actM f).vin = s.vin := rfl
@[simp] theorem State.actM_ing (s : State) (f : Actions → Actions) : (s.actM f).ing = s.ing := rfl
@[simp] theorem State.actM_frag (s : State) (f : Actions → Actions) : (s.actM f).frag = s.frag := rfl
@[simp] theorem State.actM_cip (s : State) (f : Actions → Actions) : (s.actM f).cip = s.cip := rfl
@[simp] theorem State.actM_core (s : State) (f : Actions → Actions) : (s.actM f).core = s.core := rfl
@[simp] theorem State.actM_sched (s : State) (f : Actions → Actions) : (s.actM f).sched = s.sched := rfl
@[simp] theorem State.actM_mac (s : State) (f : Actions → Actions) : (s.actM f).mac = s.mac := rfl
@[simp] theorem State.actM_hst (s : State) (f : Actions → Actions) : (s.actM f).hst = s.hst := rfl
@[simp] theorem State.actM_time (s : State) (f : Actions → Actions) : (s.actM f).time = s.time := rfl
@[simp] theorem State.actM_twin (s : State) (f : Actions → Actions) : (s.actM f).twin = s.twin := rfl
@[simp] theorem State.actM_run (s : State) (f : Actions → Actions) : (s.actM f).run = s.run := rfl
@[simp] theorem State.actM_pwr (s : State) (f : Actions → Actions) : (s.actM f).pwr = s.pwr := rfl
@[simp] theorem State.actM_ddr (s : State) (f : Actions → Actions) : (s.actM f).ddr = s.ddr := rfl
@[simp] theorem State.actM_cnt (s : State) (f : Actions → Actions) : (s.actM f).cnt = s.cnt := rfl
@[simp] theorem State.actM_tap (s : State) (f : Actions → Actions) : (s.actM f).tap = s.tap := rfl
@[simp] theorem State.actM_diag (s : State) (f : Actions → Actions) : (s.actM f).diag = s.diag := rfl
@[simp] theorem State.actM_out (s : State) (f : Actions → Actions) : (s.actM f).out = s.out := rfl
@[simp] theorem State.actM_free (s : State) (f : Actions → Actions) : (s.actM f).free = s.free := rfl
@[simp] theorem State.actM_pending (s : State) (f : Actions → Actions) : (s.actM f).pending = s.pending := rfl

/-! ## `State.vinM` -/

@[simp] theorem State.vinM_mode (s : State) (f : Vintages → Vintages) : (s.vinM f).mode = s.mode := rfl
@[simp] theorem State.vinM_pins (s : State) (f : Vintages → Vintages) : (s.vinM f).pins = s.pins := rfl
@[simp] theorem State.vinM_hif (s : State) (f : Vintages → Vintages) : (s.vinM f).hif = s.hif := rfl
@[simp] theorem State.vinM_cmds (s : State) (f : Vintages → Vintages) : (s.vinM f).cmds = s.cmds := rfl
@[simp] theorem State.vinM_mbx (s : State) (f : Vintages → Vintages) : (s.vinM f).mbx = s.mbx := rfl
@[simp] theorem State.vinM_locks (s : State) (f : Vintages → Vintages) : (s.vinM f).locks = s.locks := rfl
@[simp] theorem State.vinM_smb (s : State) (f : Vintages → Vintages) : (s.vinM f).smb = s.smb := rfl
@[simp] theorem State.vinM_vnt (s : State) (f : Vintages → Vintages) : (s.vinM f).vnt = s.vnt := rfl
@[simp] theorem State.vinM_flt (s : State) (f : Vintages → Vintages) : (s.vinM f).flt = s.flt := rfl
@[simp] theorem State.vinM_book (s : State) (f : Vintages → Vintages) : (s.vinM f).book = s.book := rfl
@[simp] theorem State.vinM_parse (s : State) (f : Vintages → Vintages) : (s.vinM f).parse = s.parse := rfl
@[simp] theorem State.vinM_lookup (s : State) (f : Vintages → Vintages) : (s.vinM f).lookup = s.lookup := rfl
@[simp] theorem State.vinM_tcam (s : State) (f : Vintages → Vintages) : (s.vinM f).tcam = s.tcam := rfl
@[simp] theorem State.vinM_act (s : State) (f : Vintages → Vintages) : (s.vinM f).act = s.act := rfl
@[simp] theorem State.vinM_vin (s : State) (f : Vintages → Vintages) : (s.vinM f).vin = f s.vin := rfl
@[simp] theorem State.vinM_ing (s : State) (f : Vintages → Vintages) : (s.vinM f).ing = s.ing := rfl
@[simp] theorem State.vinM_frag (s : State) (f : Vintages → Vintages) : (s.vinM f).frag = s.frag := rfl
@[simp] theorem State.vinM_cip (s : State) (f : Vintages → Vintages) : (s.vinM f).cip = s.cip := rfl
@[simp] theorem State.vinM_core (s : State) (f : Vintages → Vintages) : (s.vinM f).core = s.core := rfl
@[simp] theorem State.vinM_sched (s : State) (f : Vintages → Vintages) : (s.vinM f).sched = s.sched := rfl
@[simp] theorem State.vinM_mac (s : State) (f : Vintages → Vintages) : (s.vinM f).mac = s.mac := rfl
@[simp] theorem State.vinM_hst (s : State) (f : Vintages → Vintages) : (s.vinM f).hst = s.hst := rfl
@[simp] theorem State.vinM_time (s : State) (f : Vintages → Vintages) : (s.vinM f).time = s.time := rfl
@[simp] theorem State.vinM_twin (s : State) (f : Vintages → Vintages) : (s.vinM f).twin = s.twin := rfl
@[simp] theorem State.vinM_run (s : State) (f : Vintages → Vintages) : (s.vinM f).run = s.run := rfl
@[simp] theorem State.vinM_pwr (s : State) (f : Vintages → Vintages) : (s.vinM f).pwr = s.pwr := rfl
@[simp] theorem State.vinM_ddr (s : State) (f : Vintages → Vintages) : (s.vinM f).ddr = s.ddr := rfl
@[simp] theorem State.vinM_cnt (s : State) (f : Vintages → Vintages) : (s.vinM f).cnt = s.cnt := rfl
@[simp] theorem State.vinM_tap (s : State) (f : Vintages → Vintages) : (s.vinM f).tap = s.tap := rfl
@[simp] theorem State.vinM_diag (s : State) (f : Vintages → Vintages) : (s.vinM f).diag = s.diag := rfl
@[simp] theorem State.vinM_out (s : State) (f : Vintages → Vintages) : (s.vinM f).out = s.out := rfl
@[simp] theorem State.vinM_free (s : State) (f : Vintages → Vintages) : (s.vinM f).free = s.free := rfl
@[simp] theorem State.vinM_pending (s : State) (f : Vintages → Vintages) : (s.vinM f).pending = s.pending := rfl

/-! ## `State.ingM` -/

@[simp] theorem State.ingM_mode (s : State) (f : Ingress → Ingress) : (s.ingM f).mode = s.mode := rfl
@[simp] theorem State.ingM_pins (s : State) (f : Ingress → Ingress) : (s.ingM f).pins = s.pins := rfl
@[simp] theorem State.ingM_hif (s : State) (f : Ingress → Ingress) : (s.ingM f).hif = s.hif := rfl
@[simp] theorem State.ingM_cmds (s : State) (f : Ingress → Ingress) : (s.ingM f).cmds = s.cmds := rfl
@[simp] theorem State.ingM_mbx (s : State) (f : Ingress → Ingress) : (s.ingM f).mbx = s.mbx := rfl
@[simp] theorem State.ingM_locks (s : State) (f : Ingress → Ingress) : (s.ingM f).locks = s.locks := rfl
@[simp] theorem State.ingM_smb (s : State) (f : Ingress → Ingress) : (s.ingM f).smb = s.smb := rfl
@[simp] theorem State.ingM_vnt (s : State) (f : Ingress → Ingress) : (s.ingM f).vnt = s.vnt := rfl
@[simp] theorem State.ingM_flt (s : State) (f : Ingress → Ingress) : (s.ingM f).flt = s.flt := rfl
@[simp] theorem State.ingM_book (s : State) (f : Ingress → Ingress) : (s.ingM f).book = s.book := rfl
@[simp] theorem State.ingM_parse (s : State) (f : Ingress → Ingress) : (s.ingM f).parse = s.parse := rfl
@[simp] theorem State.ingM_lookup (s : State) (f : Ingress → Ingress) : (s.ingM f).lookup = s.lookup := rfl
@[simp] theorem State.ingM_tcam (s : State) (f : Ingress → Ingress) : (s.ingM f).tcam = s.tcam := rfl
@[simp] theorem State.ingM_act (s : State) (f : Ingress → Ingress) : (s.ingM f).act = s.act := rfl
@[simp] theorem State.ingM_vin (s : State) (f : Ingress → Ingress) : (s.ingM f).vin = s.vin := rfl
@[simp] theorem State.ingM_ing (s : State) (f : Ingress → Ingress) : (s.ingM f).ing = f s.ing := rfl
@[simp] theorem State.ingM_frag (s : State) (f : Ingress → Ingress) : (s.ingM f).frag = s.frag := rfl
@[simp] theorem State.ingM_cip (s : State) (f : Ingress → Ingress) : (s.ingM f).cip = s.cip := rfl
@[simp] theorem State.ingM_core (s : State) (f : Ingress → Ingress) : (s.ingM f).core = s.core := rfl
@[simp] theorem State.ingM_sched (s : State) (f : Ingress → Ingress) : (s.ingM f).sched = s.sched := rfl
@[simp] theorem State.ingM_mac (s : State) (f : Ingress → Ingress) : (s.ingM f).mac = s.mac := rfl
@[simp] theorem State.ingM_hst (s : State) (f : Ingress → Ingress) : (s.ingM f).hst = s.hst := rfl
@[simp] theorem State.ingM_time (s : State) (f : Ingress → Ingress) : (s.ingM f).time = s.time := rfl
@[simp] theorem State.ingM_twin (s : State) (f : Ingress → Ingress) : (s.ingM f).twin = s.twin := rfl
@[simp] theorem State.ingM_run (s : State) (f : Ingress → Ingress) : (s.ingM f).run = s.run := rfl
@[simp] theorem State.ingM_pwr (s : State) (f : Ingress → Ingress) : (s.ingM f).pwr = s.pwr := rfl
@[simp] theorem State.ingM_ddr (s : State) (f : Ingress → Ingress) : (s.ingM f).ddr = s.ddr := rfl
@[simp] theorem State.ingM_cnt (s : State) (f : Ingress → Ingress) : (s.ingM f).cnt = s.cnt := rfl
@[simp] theorem State.ingM_tap (s : State) (f : Ingress → Ingress) : (s.ingM f).tap = s.tap := rfl
@[simp] theorem State.ingM_diag (s : State) (f : Ingress → Ingress) : (s.ingM f).diag = s.diag := rfl
@[simp] theorem State.ingM_out (s : State) (f : Ingress → Ingress) : (s.ingM f).out = s.out := rfl
@[simp] theorem State.ingM_free (s : State) (f : Ingress → Ingress) : (s.ingM f).free = s.free := rfl
@[simp] theorem State.ingM_pending (s : State) (f : Ingress → Ingress) : (s.ingM f).pending = s.pending := rfl

/-! ## `State.fragM` -/

@[simp] theorem State.fragM_mode (s : State) (f : Frag → Frag) : (s.fragM f).mode = s.mode := rfl
@[simp] theorem State.fragM_pins (s : State) (f : Frag → Frag) : (s.fragM f).pins = s.pins := rfl
@[simp] theorem State.fragM_hif (s : State) (f : Frag → Frag) : (s.fragM f).hif = s.hif := rfl
@[simp] theorem State.fragM_cmds (s : State) (f : Frag → Frag) : (s.fragM f).cmds = s.cmds := rfl
@[simp] theorem State.fragM_mbx (s : State) (f : Frag → Frag) : (s.fragM f).mbx = s.mbx := rfl
@[simp] theorem State.fragM_locks (s : State) (f : Frag → Frag) : (s.fragM f).locks = s.locks := rfl
@[simp] theorem State.fragM_smb (s : State) (f : Frag → Frag) : (s.fragM f).smb = s.smb := rfl
@[simp] theorem State.fragM_vnt (s : State) (f : Frag → Frag) : (s.fragM f).vnt = s.vnt := rfl
@[simp] theorem State.fragM_flt (s : State) (f : Frag → Frag) : (s.fragM f).flt = s.flt := rfl
@[simp] theorem State.fragM_book (s : State) (f : Frag → Frag) : (s.fragM f).book = s.book := rfl
@[simp] theorem State.fragM_parse (s : State) (f : Frag → Frag) : (s.fragM f).parse = s.parse := rfl
@[simp] theorem State.fragM_lookup (s : State) (f : Frag → Frag) : (s.fragM f).lookup = s.lookup := rfl
@[simp] theorem State.fragM_tcam (s : State) (f : Frag → Frag) : (s.fragM f).tcam = s.tcam := rfl
@[simp] theorem State.fragM_act (s : State) (f : Frag → Frag) : (s.fragM f).act = s.act := rfl
@[simp] theorem State.fragM_vin (s : State) (f : Frag → Frag) : (s.fragM f).vin = s.vin := rfl
@[simp] theorem State.fragM_ing (s : State) (f : Frag → Frag) : (s.fragM f).ing = s.ing := rfl
@[simp] theorem State.fragM_frag (s : State) (f : Frag → Frag) : (s.fragM f).frag = f s.frag := rfl
@[simp] theorem State.fragM_cip (s : State) (f : Frag → Frag) : (s.fragM f).cip = s.cip := rfl
@[simp] theorem State.fragM_core (s : State) (f : Frag → Frag) : (s.fragM f).core = s.core := rfl
@[simp] theorem State.fragM_sched (s : State) (f : Frag → Frag) : (s.fragM f).sched = s.sched := rfl
@[simp] theorem State.fragM_mac (s : State) (f : Frag → Frag) : (s.fragM f).mac = s.mac := rfl
@[simp] theorem State.fragM_hst (s : State) (f : Frag → Frag) : (s.fragM f).hst = s.hst := rfl
@[simp] theorem State.fragM_time (s : State) (f : Frag → Frag) : (s.fragM f).time = s.time := rfl
@[simp] theorem State.fragM_twin (s : State) (f : Frag → Frag) : (s.fragM f).twin = s.twin := rfl
@[simp] theorem State.fragM_run (s : State) (f : Frag → Frag) : (s.fragM f).run = s.run := rfl
@[simp] theorem State.fragM_pwr (s : State) (f : Frag → Frag) : (s.fragM f).pwr = s.pwr := rfl
@[simp] theorem State.fragM_ddr (s : State) (f : Frag → Frag) : (s.fragM f).ddr = s.ddr := rfl
@[simp] theorem State.fragM_cnt (s : State) (f : Frag → Frag) : (s.fragM f).cnt = s.cnt := rfl
@[simp] theorem State.fragM_tap (s : State) (f : Frag → Frag) : (s.fragM f).tap = s.tap := rfl
@[simp] theorem State.fragM_diag (s : State) (f : Frag → Frag) : (s.fragM f).diag = s.diag := rfl
@[simp] theorem State.fragM_out (s : State) (f : Frag → Frag) : (s.fragM f).out = s.out := rfl
@[simp] theorem State.fragM_free (s : State) (f : Frag → Frag) : (s.fragM f).free = s.free := rfl
@[simp] theorem State.fragM_pending (s : State) (f : Frag → Frag) : (s.fragM f).pending = s.pending := rfl

/-! ## `State.cipM` -/

@[simp] theorem State.cipM_mode (s : State) (f : Cipher → Cipher) : (s.cipM f).mode = s.mode := rfl
@[simp] theorem State.cipM_pins (s : State) (f : Cipher → Cipher) : (s.cipM f).pins = s.pins := rfl
@[simp] theorem State.cipM_hif (s : State) (f : Cipher → Cipher) : (s.cipM f).hif = s.hif := rfl
@[simp] theorem State.cipM_cmds (s : State) (f : Cipher → Cipher) : (s.cipM f).cmds = s.cmds := rfl
@[simp] theorem State.cipM_mbx (s : State) (f : Cipher → Cipher) : (s.cipM f).mbx = s.mbx := rfl
@[simp] theorem State.cipM_locks (s : State) (f : Cipher → Cipher) : (s.cipM f).locks = s.locks := rfl
@[simp] theorem State.cipM_smb (s : State) (f : Cipher → Cipher) : (s.cipM f).smb = s.smb := rfl
@[simp] theorem State.cipM_vnt (s : State) (f : Cipher → Cipher) : (s.cipM f).vnt = s.vnt := rfl
@[simp] theorem State.cipM_flt (s : State) (f : Cipher → Cipher) : (s.cipM f).flt = s.flt := rfl
@[simp] theorem State.cipM_book (s : State) (f : Cipher → Cipher) : (s.cipM f).book = s.book := rfl
@[simp] theorem State.cipM_parse (s : State) (f : Cipher → Cipher) : (s.cipM f).parse = s.parse := rfl
@[simp] theorem State.cipM_lookup (s : State) (f : Cipher → Cipher) : (s.cipM f).lookup = s.lookup := rfl
@[simp] theorem State.cipM_tcam (s : State) (f : Cipher → Cipher) : (s.cipM f).tcam = s.tcam := rfl
@[simp] theorem State.cipM_act (s : State) (f : Cipher → Cipher) : (s.cipM f).act = s.act := rfl
@[simp] theorem State.cipM_vin (s : State) (f : Cipher → Cipher) : (s.cipM f).vin = s.vin := rfl
@[simp] theorem State.cipM_ing (s : State) (f : Cipher → Cipher) : (s.cipM f).ing = s.ing := rfl
@[simp] theorem State.cipM_frag (s : State) (f : Cipher → Cipher) : (s.cipM f).frag = s.frag := rfl
@[simp] theorem State.cipM_cip (s : State) (f : Cipher → Cipher) : (s.cipM f).cip = f s.cip := rfl
@[simp] theorem State.cipM_core (s : State) (f : Cipher → Cipher) : (s.cipM f).core = s.core := rfl
@[simp] theorem State.cipM_sched (s : State) (f : Cipher → Cipher) : (s.cipM f).sched = s.sched := rfl
@[simp] theorem State.cipM_mac (s : State) (f : Cipher → Cipher) : (s.cipM f).mac = s.mac := rfl
@[simp] theorem State.cipM_hst (s : State) (f : Cipher → Cipher) : (s.cipM f).hst = s.hst := rfl
@[simp] theorem State.cipM_time (s : State) (f : Cipher → Cipher) : (s.cipM f).time = s.time := rfl
@[simp] theorem State.cipM_twin (s : State) (f : Cipher → Cipher) : (s.cipM f).twin = s.twin := rfl
@[simp] theorem State.cipM_run (s : State) (f : Cipher → Cipher) : (s.cipM f).run = s.run := rfl
@[simp] theorem State.cipM_pwr (s : State) (f : Cipher → Cipher) : (s.cipM f).pwr = s.pwr := rfl
@[simp] theorem State.cipM_ddr (s : State) (f : Cipher → Cipher) : (s.cipM f).ddr = s.ddr := rfl
@[simp] theorem State.cipM_cnt (s : State) (f : Cipher → Cipher) : (s.cipM f).cnt = s.cnt := rfl
@[simp] theorem State.cipM_tap (s : State) (f : Cipher → Cipher) : (s.cipM f).tap = s.tap := rfl
@[simp] theorem State.cipM_diag (s : State) (f : Cipher → Cipher) : (s.cipM f).diag = s.diag := rfl
@[simp] theorem State.cipM_out (s : State) (f : Cipher → Cipher) : (s.cipM f).out = s.out := rfl
@[simp] theorem State.cipM_free (s : State) (f : Cipher → Cipher) : (s.cipM f).free = s.free := rfl
@[simp] theorem State.cipM_pending (s : State) (f : Cipher → Cipher) : (s.cipM f).pending = s.pending := rfl

/-! ## `State.coreM` -/

@[simp] theorem State.coreM_mode (s : State) (f : Core → Core) : (s.coreM f).mode = s.mode := rfl
@[simp] theorem State.coreM_pins (s : State) (f : Core → Core) : (s.coreM f).pins = s.pins := rfl
@[simp] theorem State.coreM_hif (s : State) (f : Core → Core) : (s.coreM f).hif = s.hif := rfl
@[simp] theorem State.coreM_cmds (s : State) (f : Core → Core) : (s.coreM f).cmds = s.cmds := rfl
@[simp] theorem State.coreM_mbx (s : State) (f : Core → Core) : (s.coreM f).mbx = s.mbx := rfl
@[simp] theorem State.coreM_locks (s : State) (f : Core → Core) : (s.coreM f).locks = s.locks := rfl
@[simp] theorem State.coreM_smb (s : State) (f : Core → Core) : (s.coreM f).smb = s.smb := rfl
@[simp] theorem State.coreM_vnt (s : State) (f : Core → Core) : (s.coreM f).vnt = s.vnt := rfl
@[simp] theorem State.coreM_flt (s : State) (f : Core → Core) : (s.coreM f).flt = s.flt := rfl
@[simp] theorem State.coreM_book (s : State) (f : Core → Core) : (s.coreM f).book = s.book := rfl
@[simp] theorem State.coreM_parse (s : State) (f : Core → Core) : (s.coreM f).parse = s.parse := rfl
@[simp] theorem State.coreM_lookup (s : State) (f : Core → Core) : (s.coreM f).lookup = s.lookup := rfl
@[simp] theorem State.coreM_tcam (s : State) (f : Core → Core) : (s.coreM f).tcam = s.tcam := rfl
@[simp] theorem State.coreM_act (s : State) (f : Core → Core) : (s.coreM f).act = s.act := rfl
@[simp] theorem State.coreM_vin (s : State) (f : Core → Core) : (s.coreM f).vin = s.vin := rfl
@[simp] theorem State.coreM_ing (s : State) (f : Core → Core) : (s.coreM f).ing = s.ing := rfl
@[simp] theorem State.coreM_frag (s : State) (f : Core → Core) : (s.coreM f).frag = s.frag := rfl
@[simp] theorem State.coreM_cip (s : State) (f : Core → Core) : (s.coreM f).cip = s.cip := rfl
@[simp] theorem State.coreM_core (s : State) (f : Core → Core) : (s.coreM f).core = f s.core := rfl
@[simp] theorem State.coreM_sched (s : State) (f : Core → Core) : (s.coreM f).sched = s.sched := rfl
@[simp] theorem State.coreM_mac (s : State) (f : Core → Core) : (s.coreM f).mac = s.mac := rfl
@[simp] theorem State.coreM_hst (s : State) (f : Core → Core) : (s.coreM f).hst = s.hst := rfl
@[simp] theorem State.coreM_time (s : State) (f : Core → Core) : (s.coreM f).time = s.time := rfl
@[simp] theorem State.coreM_twin (s : State) (f : Core → Core) : (s.coreM f).twin = s.twin := rfl
@[simp] theorem State.coreM_run (s : State) (f : Core → Core) : (s.coreM f).run = s.run := rfl
@[simp] theorem State.coreM_pwr (s : State) (f : Core → Core) : (s.coreM f).pwr = s.pwr := rfl
@[simp] theorem State.coreM_ddr (s : State) (f : Core → Core) : (s.coreM f).ddr = s.ddr := rfl
@[simp] theorem State.coreM_cnt (s : State) (f : Core → Core) : (s.coreM f).cnt = s.cnt := rfl
@[simp] theorem State.coreM_tap (s : State) (f : Core → Core) : (s.coreM f).tap = s.tap := rfl
@[simp] theorem State.coreM_diag (s : State) (f : Core → Core) : (s.coreM f).diag = s.diag := rfl
@[simp] theorem State.coreM_out (s : State) (f : Core → Core) : (s.coreM f).out = s.out := rfl
@[simp] theorem State.coreM_free (s : State) (f : Core → Core) : (s.coreM f).free = s.free := rfl
@[simp] theorem State.coreM_pending (s : State) (f : Core → Core) : (s.coreM f).pending = s.pending := rfl

/-! ## `State.schedM` -/

@[simp] theorem State.schedM_mode (s : State) (f : Sched → Sched) : (s.schedM f).mode = s.mode := rfl
@[simp] theorem State.schedM_pins (s : State) (f : Sched → Sched) : (s.schedM f).pins = s.pins := rfl
@[simp] theorem State.schedM_hif (s : State) (f : Sched → Sched) : (s.schedM f).hif = s.hif := rfl
@[simp] theorem State.schedM_cmds (s : State) (f : Sched → Sched) : (s.schedM f).cmds = s.cmds := rfl
@[simp] theorem State.schedM_mbx (s : State) (f : Sched → Sched) : (s.schedM f).mbx = s.mbx := rfl
@[simp] theorem State.schedM_locks (s : State) (f : Sched → Sched) : (s.schedM f).locks = s.locks := rfl
@[simp] theorem State.schedM_smb (s : State) (f : Sched → Sched) : (s.schedM f).smb = s.smb := rfl
@[simp] theorem State.schedM_vnt (s : State) (f : Sched → Sched) : (s.schedM f).vnt = s.vnt := rfl
@[simp] theorem State.schedM_flt (s : State) (f : Sched → Sched) : (s.schedM f).flt = s.flt := rfl
@[simp] theorem State.schedM_book (s : State) (f : Sched → Sched) : (s.schedM f).book = s.book := rfl
@[simp] theorem State.schedM_parse (s : State) (f : Sched → Sched) : (s.schedM f).parse = s.parse := rfl
@[simp] theorem State.schedM_lookup (s : State) (f : Sched → Sched) : (s.schedM f).lookup = s.lookup := rfl
@[simp] theorem State.schedM_tcam (s : State) (f : Sched → Sched) : (s.schedM f).tcam = s.tcam := rfl
@[simp] theorem State.schedM_act (s : State) (f : Sched → Sched) : (s.schedM f).act = s.act := rfl
@[simp] theorem State.schedM_vin (s : State) (f : Sched → Sched) : (s.schedM f).vin = s.vin := rfl
@[simp] theorem State.schedM_ing (s : State) (f : Sched → Sched) : (s.schedM f).ing = s.ing := rfl
@[simp] theorem State.schedM_frag (s : State) (f : Sched → Sched) : (s.schedM f).frag = s.frag := rfl
@[simp] theorem State.schedM_cip (s : State) (f : Sched → Sched) : (s.schedM f).cip = s.cip := rfl
@[simp] theorem State.schedM_core (s : State) (f : Sched → Sched) : (s.schedM f).core = s.core := rfl
@[simp] theorem State.schedM_sched (s : State) (f : Sched → Sched) : (s.schedM f).sched = f s.sched := rfl
@[simp] theorem State.schedM_mac (s : State) (f : Sched → Sched) : (s.schedM f).mac = s.mac := rfl
@[simp] theorem State.schedM_hst (s : State) (f : Sched → Sched) : (s.schedM f).hst = s.hst := rfl
@[simp] theorem State.schedM_time (s : State) (f : Sched → Sched) : (s.schedM f).time = s.time := rfl
@[simp] theorem State.schedM_twin (s : State) (f : Sched → Sched) : (s.schedM f).twin = s.twin := rfl
@[simp] theorem State.schedM_run (s : State) (f : Sched → Sched) : (s.schedM f).run = s.run := rfl
@[simp] theorem State.schedM_pwr (s : State) (f : Sched → Sched) : (s.schedM f).pwr = s.pwr := rfl
@[simp] theorem State.schedM_ddr (s : State) (f : Sched → Sched) : (s.schedM f).ddr = s.ddr := rfl
@[simp] theorem State.schedM_cnt (s : State) (f : Sched → Sched) : (s.schedM f).cnt = s.cnt := rfl
@[simp] theorem State.schedM_tap (s : State) (f : Sched → Sched) : (s.schedM f).tap = s.tap := rfl
@[simp] theorem State.schedM_diag (s : State) (f : Sched → Sched) : (s.schedM f).diag = s.diag := rfl
@[simp] theorem State.schedM_out (s : State) (f : Sched → Sched) : (s.schedM f).out = s.out := rfl
@[simp] theorem State.schedM_free (s : State) (f : Sched → Sched) : (s.schedM f).free = s.free := rfl
@[simp] theorem State.schedM_pending (s : State) (f : Sched → Sched) : (s.schedM f).pending = s.pending := rfl

/-! ## `State.macM` -/

@[simp] theorem State.macM_mode (s : State) (f : Macs → Macs) : (s.macM f).mode = s.mode := rfl
@[simp] theorem State.macM_pins (s : State) (f : Macs → Macs) : (s.macM f).pins = s.pins := rfl
@[simp] theorem State.macM_hif (s : State) (f : Macs → Macs) : (s.macM f).hif = s.hif := rfl
@[simp] theorem State.macM_cmds (s : State) (f : Macs → Macs) : (s.macM f).cmds = s.cmds := rfl
@[simp] theorem State.macM_mbx (s : State) (f : Macs → Macs) : (s.macM f).mbx = s.mbx := rfl
@[simp] theorem State.macM_locks (s : State) (f : Macs → Macs) : (s.macM f).locks = s.locks := rfl
@[simp] theorem State.macM_smb (s : State) (f : Macs → Macs) : (s.macM f).smb = s.smb := rfl
@[simp] theorem State.macM_vnt (s : State) (f : Macs → Macs) : (s.macM f).vnt = s.vnt := rfl
@[simp] theorem State.macM_flt (s : State) (f : Macs → Macs) : (s.macM f).flt = s.flt := rfl
@[simp] theorem State.macM_book (s : State) (f : Macs → Macs) : (s.macM f).book = s.book := rfl
@[simp] theorem State.macM_parse (s : State) (f : Macs → Macs) : (s.macM f).parse = s.parse := rfl
@[simp] theorem State.macM_lookup (s : State) (f : Macs → Macs) : (s.macM f).lookup = s.lookup := rfl
@[simp] theorem State.macM_tcam (s : State) (f : Macs → Macs) : (s.macM f).tcam = s.tcam := rfl
@[simp] theorem State.macM_act (s : State) (f : Macs → Macs) : (s.macM f).act = s.act := rfl
@[simp] theorem State.macM_vin (s : State) (f : Macs → Macs) : (s.macM f).vin = s.vin := rfl
@[simp] theorem State.macM_ing (s : State) (f : Macs → Macs) : (s.macM f).ing = s.ing := rfl
@[simp] theorem State.macM_frag (s : State) (f : Macs → Macs) : (s.macM f).frag = s.frag := rfl
@[simp] theorem State.macM_cip (s : State) (f : Macs → Macs) : (s.macM f).cip = s.cip := rfl
@[simp] theorem State.macM_core (s : State) (f : Macs → Macs) : (s.macM f).core = s.core := rfl
@[simp] theorem State.macM_sched (s : State) (f : Macs → Macs) : (s.macM f).sched = s.sched := rfl
@[simp] theorem State.macM_mac (s : State) (f : Macs → Macs) : (s.macM f).mac = f s.mac := rfl
@[simp] theorem State.macM_hst (s : State) (f : Macs → Macs) : (s.macM f).hst = s.hst := rfl
@[simp] theorem State.macM_time (s : State) (f : Macs → Macs) : (s.macM f).time = s.time := rfl
@[simp] theorem State.macM_twin (s : State) (f : Macs → Macs) : (s.macM f).twin = s.twin := rfl
@[simp] theorem State.macM_run (s : State) (f : Macs → Macs) : (s.macM f).run = s.run := rfl
@[simp] theorem State.macM_pwr (s : State) (f : Macs → Macs) : (s.macM f).pwr = s.pwr := rfl
@[simp] theorem State.macM_ddr (s : State) (f : Macs → Macs) : (s.macM f).ddr = s.ddr := rfl
@[simp] theorem State.macM_cnt (s : State) (f : Macs → Macs) : (s.macM f).cnt = s.cnt := rfl
@[simp] theorem State.macM_tap (s : State) (f : Macs → Macs) : (s.macM f).tap = s.tap := rfl
@[simp] theorem State.macM_diag (s : State) (f : Macs → Macs) : (s.macM f).diag = s.diag := rfl
@[simp] theorem State.macM_out (s : State) (f : Macs → Macs) : (s.macM f).out = s.out := rfl
@[simp] theorem State.macM_free (s : State) (f : Macs → Macs) : (s.macM f).free = s.free := rfl
@[simp] theorem State.macM_pending (s : State) (f : Macs → Macs) : (s.macM f).pending = s.pending := rfl

/-! ## `State.hstM` -/

@[simp] theorem State.hstM_mode (s : State) (f : HostTraffic → HostTraffic) : (s.hstM f).mode = s.mode := rfl
@[simp] theorem State.hstM_pins (s : State) (f : HostTraffic → HostTraffic) : (s.hstM f).pins = s.pins := rfl
@[simp] theorem State.hstM_hif (s : State) (f : HostTraffic → HostTraffic) : (s.hstM f).hif = s.hif := rfl
@[simp] theorem State.hstM_cmds (s : State) (f : HostTraffic → HostTraffic) : (s.hstM f).cmds = s.cmds := rfl
@[simp] theorem State.hstM_mbx (s : State) (f : HostTraffic → HostTraffic) : (s.hstM f).mbx = s.mbx := rfl
@[simp] theorem State.hstM_locks (s : State) (f : HostTraffic → HostTraffic) : (s.hstM f).locks = s.locks := rfl
@[simp] theorem State.hstM_smb (s : State) (f : HostTraffic → HostTraffic) : (s.hstM f).smb = s.smb := rfl
@[simp] theorem State.hstM_vnt (s : State) (f : HostTraffic → HostTraffic) : (s.hstM f).vnt = s.vnt := rfl
@[simp] theorem State.hstM_flt (s : State) (f : HostTraffic → HostTraffic) : (s.hstM f).flt = s.flt := rfl
@[simp] theorem State.hstM_book (s : State) (f : HostTraffic → HostTraffic) : (s.hstM f).book = s.book := rfl
@[simp] theorem State.hstM_parse (s : State) (f : HostTraffic → HostTraffic) : (s.hstM f).parse = s.parse := rfl
@[simp] theorem State.hstM_lookup (s : State) (f : HostTraffic → HostTraffic) : (s.hstM f).lookup = s.lookup := rfl
@[simp] theorem State.hstM_tcam (s : State) (f : HostTraffic → HostTraffic) : (s.hstM f).tcam = s.tcam := rfl
@[simp] theorem State.hstM_act (s : State) (f : HostTraffic → HostTraffic) : (s.hstM f).act = s.act := rfl
@[simp] theorem State.hstM_vin (s : State) (f : HostTraffic → HostTraffic) : (s.hstM f).vin = s.vin := rfl
@[simp] theorem State.hstM_ing (s : State) (f : HostTraffic → HostTraffic) : (s.hstM f).ing = s.ing := rfl
@[simp] theorem State.hstM_frag (s : State) (f : HostTraffic → HostTraffic) : (s.hstM f).frag = s.frag := rfl
@[simp] theorem State.hstM_cip (s : State) (f : HostTraffic → HostTraffic) : (s.hstM f).cip = s.cip := rfl
@[simp] theorem State.hstM_core (s : State) (f : HostTraffic → HostTraffic) : (s.hstM f).core = s.core := rfl
@[simp] theorem State.hstM_sched (s : State) (f : HostTraffic → HostTraffic) : (s.hstM f).sched = s.sched := rfl
@[simp] theorem State.hstM_mac (s : State) (f : HostTraffic → HostTraffic) : (s.hstM f).mac = s.mac := rfl
@[simp] theorem State.hstM_hst (s : State) (f : HostTraffic → HostTraffic) : (s.hstM f).hst = f s.hst := rfl
@[simp] theorem State.hstM_time (s : State) (f : HostTraffic → HostTraffic) : (s.hstM f).time = s.time := rfl
@[simp] theorem State.hstM_twin (s : State) (f : HostTraffic → HostTraffic) : (s.hstM f).twin = s.twin := rfl
@[simp] theorem State.hstM_run (s : State) (f : HostTraffic → HostTraffic) : (s.hstM f).run = s.run := rfl
@[simp] theorem State.hstM_pwr (s : State) (f : HostTraffic → HostTraffic) : (s.hstM f).pwr = s.pwr := rfl
@[simp] theorem State.hstM_ddr (s : State) (f : HostTraffic → HostTraffic) : (s.hstM f).ddr = s.ddr := rfl
@[simp] theorem State.hstM_cnt (s : State) (f : HostTraffic → HostTraffic) : (s.hstM f).cnt = s.cnt := rfl
@[simp] theorem State.hstM_tap (s : State) (f : HostTraffic → HostTraffic) : (s.hstM f).tap = s.tap := rfl
@[simp] theorem State.hstM_diag (s : State) (f : HostTraffic → HostTraffic) : (s.hstM f).diag = s.diag := rfl
@[simp] theorem State.hstM_out (s : State) (f : HostTraffic → HostTraffic) : (s.hstM f).out = s.out := rfl
@[simp] theorem State.hstM_free (s : State) (f : HostTraffic → HostTraffic) : (s.hstM f).free = s.free := rfl
@[simp] theorem State.hstM_pending (s : State) (f : HostTraffic → HostTraffic) : (s.hstM f).pending = s.pending := rfl

/-! ## `State.timeM` -/

@[simp] theorem State.timeM_mode (s : State) (f : TimeBlk → TimeBlk) : (s.timeM f).mode = s.mode := rfl
@[simp] theorem State.timeM_pins (s : State) (f : TimeBlk → TimeBlk) : (s.timeM f).pins = s.pins := rfl
@[simp] theorem State.timeM_hif (s : State) (f : TimeBlk → TimeBlk) : (s.timeM f).hif = s.hif := rfl
@[simp] theorem State.timeM_cmds (s : State) (f : TimeBlk → TimeBlk) : (s.timeM f).cmds = s.cmds := rfl
@[simp] theorem State.timeM_mbx (s : State) (f : TimeBlk → TimeBlk) : (s.timeM f).mbx = s.mbx := rfl
@[simp] theorem State.timeM_locks (s : State) (f : TimeBlk → TimeBlk) : (s.timeM f).locks = s.locks := rfl
@[simp] theorem State.timeM_smb (s : State) (f : TimeBlk → TimeBlk) : (s.timeM f).smb = s.smb := rfl
@[simp] theorem State.timeM_vnt (s : State) (f : TimeBlk → TimeBlk) : (s.timeM f).vnt = s.vnt := rfl
@[simp] theorem State.timeM_flt (s : State) (f : TimeBlk → TimeBlk) : (s.timeM f).flt = s.flt := rfl
@[simp] theorem State.timeM_book (s : State) (f : TimeBlk → TimeBlk) : (s.timeM f).book = s.book := rfl
@[simp] theorem State.timeM_parse (s : State) (f : TimeBlk → TimeBlk) : (s.timeM f).parse = s.parse := rfl
@[simp] theorem State.timeM_lookup (s : State) (f : TimeBlk → TimeBlk) : (s.timeM f).lookup = s.lookup := rfl
@[simp] theorem State.timeM_tcam (s : State) (f : TimeBlk → TimeBlk) : (s.timeM f).tcam = s.tcam := rfl
@[simp] theorem State.timeM_act (s : State) (f : TimeBlk → TimeBlk) : (s.timeM f).act = s.act := rfl
@[simp] theorem State.timeM_vin (s : State) (f : TimeBlk → TimeBlk) : (s.timeM f).vin = s.vin := rfl
@[simp] theorem State.timeM_ing (s : State) (f : TimeBlk → TimeBlk) : (s.timeM f).ing = s.ing := rfl
@[simp] theorem State.timeM_frag (s : State) (f : TimeBlk → TimeBlk) : (s.timeM f).frag = s.frag := rfl
@[simp] theorem State.timeM_cip (s : State) (f : TimeBlk → TimeBlk) : (s.timeM f).cip = s.cip := rfl
@[simp] theorem State.timeM_core (s : State) (f : TimeBlk → TimeBlk) : (s.timeM f).core = s.core := rfl
@[simp] theorem State.timeM_sched (s : State) (f : TimeBlk → TimeBlk) : (s.timeM f).sched = s.sched := rfl
@[simp] theorem State.timeM_mac (s : State) (f : TimeBlk → TimeBlk) : (s.timeM f).mac = s.mac := rfl
@[simp] theorem State.timeM_hst (s : State) (f : TimeBlk → TimeBlk) : (s.timeM f).hst = s.hst := rfl
@[simp] theorem State.timeM_time (s : State) (f : TimeBlk → TimeBlk) : (s.timeM f).time = f s.time := rfl
@[simp] theorem State.timeM_twin (s : State) (f : TimeBlk → TimeBlk) : (s.timeM f).twin = s.twin := rfl
@[simp] theorem State.timeM_run (s : State) (f : TimeBlk → TimeBlk) : (s.timeM f).run = s.run := rfl
@[simp] theorem State.timeM_pwr (s : State) (f : TimeBlk → TimeBlk) : (s.timeM f).pwr = s.pwr := rfl
@[simp] theorem State.timeM_ddr (s : State) (f : TimeBlk → TimeBlk) : (s.timeM f).ddr = s.ddr := rfl
@[simp] theorem State.timeM_cnt (s : State) (f : TimeBlk → TimeBlk) : (s.timeM f).cnt = s.cnt := rfl
@[simp] theorem State.timeM_tap (s : State) (f : TimeBlk → TimeBlk) : (s.timeM f).tap = s.tap := rfl
@[simp] theorem State.timeM_diag (s : State) (f : TimeBlk → TimeBlk) : (s.timeM f).diag = s.diag := rfl
@[simp] theorem State.timeM_out (s : State) (f : TimeBlk → TimeBlk) : (s.timeM f).out = s.out := rfl
@[simp] theorem State.timeM_free (s : State) (f : TimeBlk → TimeBlk) : (s.timeM f).free = s.free := rfl
@[simp] theorem State.timeM_pending (s : State) (f : TimeBlk → TimeBlk) : (s.timeM f).pending = s.pending := rfl

/-! ## `State.twinM` -/

@[simp] theorem State.twinM_mode (s : State) (f : Twin → Twin) : (s.twinM f).mode = s.mode := rfl
@[simp] theorem State.twinM_pins (s : State) (f : Twin → Twin) : (s.twinM f).pins = s.pins := rfl
@[simp] theorem State.twinM_hif (s : State) (f : Twin → Twin) : (s.twinM f).hif = s.hif := rfl
@[simp] theorem State.twinM_cmds (s : State) (f : Twin → Twin) : (s.twinM f).cmds = s.cmds := rfl
@[simp] theorem State.twinM_mbx (s : State) (f : Twin → Twin) : (s.twinM f).mbx = s.mbx := rfl
@[simp] theorem State.twinM_locks (s : State) (f : Twin → Twin) : (s.twinM f).locks = s.locks := rfl
@[simp] theorem State.twinM_smb (s : State) (f : Twin → Twin) : (s.twinM f).smb = s.smb := rfl
@[simp] theorem State.twinM_vnt (s : State) (f : Twin → Twin) : (s.twinM f).vnt = s.vnt := rfl
@[simp] theorem State.twinM_flt (s : State) (f : Twin → Twin) : (s.twinM f).flt = s.flt := rfl
@[simp] theorem State.twinM_book (s : State) (f : Twin → Twin) : (s.twinM f).book = s.book := rfl
@[simp] theorem State.twinM_parse (s : State) (f : Twin → Twin) : (s.twinM f).parse = s.parse := rfl
@[simp] theorem State.twinM_lookup (s : State) (f : Twin → Twin) : (s.twinM f).lookup = s.lookup := rfl
@[simp] theorem State.twinM_tcam (s : State) (f : Twin → Twin) : (s.twinM f).tcam = s.tcam := rfl
@[simp] theorem State.twinM_act (s : State) (f : Twin → Twin) : (s.twinM f).act = s.act := rfl
@[simp] theorem State.twinM_vin (s : State) (f : Twin → Twin) : (s.twinM f).vin = s.vin := rfl
@[simp] theorem State.twinM_ing (s : State) (f : Twin → Twin) : (s.twinM f).ing = s.ing := rfl
@[simp] theorem State.twinM_frag (s : State) (f : Twin → Twin) : (s.twinM f).frag = s.frag := rfl
@[simp] theorem State.twinM_cip (s : State) (f : Twin → Twin) : (s.twinM f).cip = s.cip := rfl
@[simp] theorem State.twinM_core (s : State) (f : Twin → Twin) : (s.twinM f).core = s.core := rfl
@[simp] theorem State.twinM_sched (s : State) (f : Twin → Twin) : (s.twinM f).sched = s.sched := rfl
@[simp] theorem State.twinM_mac (s : State) (f : Twin → Twin) : (s.twinM f).mac = s.mac := rfl
@[simp] theorem State.twinM_hst (s : State) (f : Twin → Twin) : (s.twinM f).hst = s.hst := rfl
@[simp] theorem State.twinM_time (s : State) (f : Twin → Twin) : (s.twinM f).time = s.time := rfl
@[simp] theorem State.twinM_twin (s : State) (f : Twin → Twin) : (s.twinM f).twin = f s.twin := rfl
@[simp] theorem State.twinM_run (s : State) (f : Twin → Twin) : (s.twinM f).run = s.run := rfl
@[simp] theorem State.twinM_pwr (s : State) (f : Twin → Twin) : (s.twinM f).pwr = s.pwr := rfl
@[simp] theorem State.twinM_ddr (s : State) (f : Twin → Twin) : (s.twinM f).ddr = s.ddr := rfl
@[simp] theorem State.twinM_cnt (s : State) (f : Twin → Twin) : (s.twinM f).cnt = s.cnt := rfl
@[simp] theorem State.twinM_tap (s : State) (f : Twin → Twin) : (s.twinM f).tap = s.tap := rfl
@[simp] theorem State.twinM_diag (s : State) (f : Twin → Twin) : (s.twinM f).diag = s.diag := rfl
@[simp] theorem State.twinM_out (s : State) (f : Twin → Twin) : (s.twinM f).out = s.out := rfl
@[simp] theorem State.twinM_free (s : State) (f : Twin → Twin) : (s.twinM f).free = s.free := rfl
@[simp] theorem State.twinM_pending (s : State) (f : Twin → Twin) : (s.twinM f).pending = s.pending := rfl

/-! ## `State.runM` -/

@[simp] theorem State.runM_mode (s : State) (f : TwinRun → TwinRun) : (s.runM f).mode = s.mode := rfl
@[simp] theorem State.runM_pins (s : State) (f : TwinRun → TwinRun) : (s.runM f).pins = s.pins := rfl
@[simp] theorem State.runM_hif (s : State) (f : TwinRun → TwinRun) : (s.runM f).hif = s.hif := rfl
@[simp] theorem State.runM_cmds (s : State) (f : TwinRun → TwinRun) : (s.runM f).cmds = s.cmds := rfl
@[simp] theorem State.runM_mbx (s : State) (f : TwinRun → TwinRun) : (s.runM f).mbx = s.mbx := rfl
@[simp] theorem State.runM_locks (s : State) (f : TwinRun → TwinRun) : (s.runM f).locks = s.locks := rfl
@[simp] theorem State.runM_smb (s : State) (f : TwinRun → TwinRun) : (s.runM f).smb = s.smb := rfl
@[simp] theorem State.runM_vnt (s : State) (f : TwinRun → TwinRun) : (s.runM f).vnt = s.vnt := rfl
@[simp] theorem State.runM_flt (s : State) (f : TwinRun → TwinRun) : (s.runM f).flt = s.flt := rfl
@[simp] theorem State.runM_book (s : State) (f : TwinRun → TwinRun) : (s.runM f).book = s.book := rfl
@[simp] theorem State.runM_parse (s : State) (f : TwinRun → TwinRun) : (s.runM f).parse = s.parse := rfl
@[simp] theorem State.runM_lookup (s : State) (f : TwinRun → TwinRun) : (s.runM f).lookup = s.lookup := rfl
@[simp] theorem State.runM_tcam (s : State) (f : TwinRun → TwinRun) : (s.runM f).tcam = s.tcam := rfl
@[simp] theorem State.runM_act (s : State) (f : TwinRun → TwinRun) : (s.runM f).act = s.act := rfl
@[simp] theorem State.runM_vin (s : State) (f : TwinRun → TwinRun) : (s.runM f).vin = s.vin := rfl
@[simp] theorem State.runM_ing (s : State) (f : TwinRun → TwinRun) : (s.runM f).ing = s.ing := rfl
@[simp] theorem State.runM_frag (s : State) (f : TwinRun → TwinRun) : (s.runM f).frag = s.frag := rfl
@[simp] theorem State.runM_cip (s : State) (f : TwinRun → TwinRun) : (s.runM f).cip = s.cip := rfl
@[simp] theorem State.runM_core (s : State) (f : TwinRun → TwinRun) : (s.runM f).core = s.core := rfl
@[simp] theorem State.runM_sched (s : State) (f : TwinRun → TwinRun) : (s.runM f).sched = s.sched := rfl
@[simp] theorem State.runM_mac (s : State) (f : TwinRun → TwinRun) : (s.runM f).mac = s.mac := rfl
@[simp] theorem State.runM_hst (s : State) (f : TwinRun → TwinRun) : (s.runM f).hst = s.hst := rfl
@[simp] theorem State.runM_time (s : State) (f : TwinRun → TwinRun) : (s.runM f).time = s.time := rfl
@[simp] theorem State.runM_twin (s : State) (f : TwinRun → TwinRun) : (s.runM f).twin = s.twin := rfl
@[simp] theorem State.runM_run (s : State) (f : TwinRun → TwinRun) : (s.runM f).run = f s.run := rfl
@[simp] theorem State.runM_pwr (s : State) (f : TwinRun → TwinRun) : (s.runM f).pwr = s.pwr := rfl
@[simp] theorem State.runM_ddr (s : State) (f : TwinRun → TwinRun) : (s.runM f).ddr = s.ddr := rfl
@[simp] theorem State.runM_cnt (s : State) (f : TwinRun → TwinRun) : (s.runM f).cnt = s.cnt := rfl
@[simp] theorem State.runM_tap (s : State) (f : TwinRun → TwinRun) : (s.runM f).tap = s.tap := rfl
@[simp] theorem State.runM_diag (s : State) (f : TwinRun → TwinRun) : (s.runM f).diag = s.diag := rfl
@[simp] theorem State.runM_out (s : State) (f : TwinRun → TwinRun) : (s.runM f).out = s.out := rfl
@[simp] theorem State.runM_free (s : State) (f : TwinRun → TwinRun) : (s.runM f).free = s.free := rfl
@[simp] theorem State.runM_pending (s : State) (f : TwinRun → TwinRun) : (s.runM f).pending = s.pending := rfl

/-! ## `State.pwrM` -/

@[simp] theorem State.pwrM_mode (s : State) (f : Power → Power) : (s.pwrM f).mode = s.mode := rfl
@[simp] theorem State.pwrM_pins (s : State) (f : Power → Power) : (s.pwrM f).pins = s.pins := rfl
@[simp] theorem State.pwrM_hif (s : State) (f : Power → Power) : (s.pwrM f).hif = s.hif := rfl
@[simp] theorem State.pwrM_cmds (s : State) (f : Power → Power) : (s.pwrM f).cmds = s.cmds := rfl
@[simp] theorem State.pwrM_mbx (s : State) (f : Power → Power) : (s.pwrM f).mbx = s.mbx := rfl
@[simp] theorem State.pwrM_locks (s : State) (f : Power → Power) : (s.pwrM f).locks = s.locks := rfl
@[simp] theorem State.pwrM_smb (s : State) (f : Power → Power) : (s.pwrM f).smb = s.smb := rfl
@[simp] theorem State.pwrM_vnt (s : State) (f : Power → Power) : (s.pwrM f).vnt = s.vnt := rfl
@[simp] theorem State.pwrM_flt (s : State) (f : Power → Power) : (s.pwrM f).flt = s.flt := rfl
@[simp] theorem State.pwrM_book (s : State) (f : Power → Power) : (s.pwrM f).book = s.book := rfl
@[simp] theorem State.pwrM_parse (s : State) (f : Power → Power) : (s.pwrM f).parse = s.parse := rfl
@[simp] theorem State.pwrM_lookup (s : State) (f : Power → Power) : (s.pwrM f).lookup = s.lookup := rfl
@[simp] theorem State.pwrM_tcam (s : State) (f : Power → Power) : (s.pwrM f).tcam = s.tcam := rfl
@[simp] theorem State.pwrM_act (s : State) (f : Power → Power) : (s.pwrM f).act = s.act := rfl
@[simp] theorem State.pwrM_vin (s : State) (f : Power → Power) : (s.pwrM f).vin = s.vin := rfl
@[simp] theorem State.pwrM_ing (s : State) (f : Power → Power) : (s.pwrM f).ing = s.ing := rfl
@[simp] theorem State.pwrM_frag (s : State) (f : Power → Power) : (s.pwrM f).frag = s.frag := rfl
@[simp] theorem State.pwrM_cip (s : State) (f : Power → Power) : (s.pwrM f).cip = s.cip := rfl
@[simp] theorem State.pwrM_core (s : State) (f : Power → Power) : (s.pwrM f).core = s.core := rfl
@[simp] theorem State.pwrM_sched (s : State) (f : Power → Power) : (s.pwrM f).sched = s.sched := rfl
@[simp] theorem State.pwrM_mac (s : State) (f : Power → Power) : (s.pwrM f).mac = s.mac := rfl
@[simp] theorem State.pwrM_hst (s : State) (f : Power → Power) : (s.pwrM f).hst = s.hst := rfl
@[simp] theorem State.pwrM_time (s : State) (f : Power → Power) : (s.pwrM f).time = s.time := rfl
@[simp] theorem State.pwrM_twin (s : State) (f : Power → Power) : (s.pwrM f).twin = s.twin := rfl
@[simp] theorem State.pwrM_run (s : State) (f : Power → Power) : (s.pwrM f).run = s.run := rfl
@[simp] theorem State.pwrM_pwr (s : State) (f : Power → Power) : (s.pwrM f).pwr = f s.pwr := rfl
@[simp] theorem State.pwrM_ddr (s : State) (f : Power → Power) : (s.pwrM f).ddr = s.ddr := rfl
@[simp] theorem State.pwrM_cnt (s : State) (f : Power → Power) : (s.pwrM f).cnt = s.cnt := rfl
@[simp] theorem State.pwrM_tap (s : State) (f : Power → Power) : (s.pwrM f).tap = s.tap := rfl
@[simp] theorem State.pwrM_diag (s : State) (f : Power → Power) : (s.pwrM f).diag = s.diag := rfl
@[simp] theorem State.pwrM_out (s : State) (f : Power → Power) : (s.pwrM f).out = s.out := rfl
@[simp] theorem State.pwrM_free (s : State) (f : Power → Power) : (s.pwrM f).free = s.free := rfl
@[simp] theorem State.pwrM_pending (s : State) (f : Power → Power) : (s.pwrM f).pending = s.pending := rfl

/-! ## `State.ddrM` -/

@[simp] theorem State.ddrM_mode (s : State) (f : Ddr → Ddr) : (s.ddrM f).mode = s.mode := rfl
@[simp] theorem State.ddrM_pins (s : State) (f : Ddr → Ddr) : (s.ddrM f).pins = s.pins := rfl
@[simp] theorem State.ddrM_hif (s : State) (f : Ddr → Ddr) : (s.ddrM f).hif = s.hif := rfl
@[simp] theorem State.ddrM_cmds (s : State) (f : Ddr → Ddr) : (s.ddrM f).cmds = s.cmds := rfl
@[simp] theorem State.ddrM_mbx (s : State) (f : Ddr → Ddr) : (s.ddrM f).mbx = s.mbx := rfl
@[simp] theorem State.ddrM_locks (s : State) (f : Ddr → Ddr) : (s.ddrM f).locks = s.locks := rfl
@[simp] theorem State.ddrM_smb (s : State) (f : Ddr → Ddr) : (s.ddrM f).smb = s.smb := rfl
@[simp] theorem State.ddrM_vnt (s : State) (f : Ddr → Ddr) : (s.ddrM f).vnt = s.vnt := rfl
@[simp] theorem State.ddrM_flt (s : State) (f : Ddr → Ddr) : (s.ddrM f).flt = s.flt := rfl
@[simp] theorem State.ddrM_book (s : State) (f : Ddr → Ddr) : (s.ddrM f).book = s.book := rfl
@[simp] theorem State.ddrM_parse (s : State) (f : Ddr → Ddr) : (s.ddrM f).parse = s.parse := rfl
@[simp] theorem State.ddrM_lookup (s : State) (f : Ddr → Ddr) : (s.ddrM f).lookup = s.lookup := rfl
@[simp] theorem State.ddrM_tcam (s : State) (f : Ddr → Ddr) : (s.ddrM f).tcam = s.tcam := rfl
@[simp] theorem State.ddrM_act (s : State) (f : Ddr → Ddr) : (s.ddrM f).act = s.act := rfl
@[simp] theorem State.ddrM_vin (s : State) (f : Ddr → Ddr) : (s.ddrM f).vin = s.vin := rfl
@[simp] theorem State.ddrM_ing (s : State) (f : Ddr → Ddr) : (s.ddrM f).ing = s.ing := rfl
@[simp] theorem State.ddrM_frag (s : State) (f : Ddr → Ddr) : (s.ddrM f).frag = s.frag := rfl
@[simp] theorem State.ddrM_cip (s : State) (f : Ddr → Ddr) : (s.ddrM f).cip = s.cip := rfl
@[simp] theorem State.ddrM_core (s : State) (f : Ddr → Ddr) : (s.ddrM f).core = s.core := rfl
@[simp] theorem State.ddrM_sched (s : State) (f : Ddr → Ddr) : (s.ddrM f).sched = s.sched := rfl
@[simp] theorem State.ddrM_mac (s : State) (f : Ddr → Ddr) : (s.ddrM f).mac = s.mac := rfl
@[simp] theorem State.ddrM_hst (s : State) (f : Ddr → Ddr) : (s.ddrM f).hst = s.hst := rfl
@[simp] theorem State.ddrM_time (s : State) (f : Ddr → Ddr) : (s.ddrM f).time = s.time := rfl
@[simp] theorem State.ddrM_twin (s : State) (f : Ddr → Ddr) : (s.ddrM f).twin = s.twin := rfl
@[simp] theorem State.ddrM_run (s : State) (f : Ddr → Ddr) : (s.ddrM f).run = s.run := rfl
@[simp] theorem State.ddrM_pwr (s : State) (f : Ddr → Ddr) : (s.ddrM f).pwr = s.pwr := rfl
@[simp] theorem State.ddrM_ddr (s : State) (f : Ddr → Ddr) : (s.ddrM f).ddr = f s.ddr := rfl
@[simp] theorem State.ddrM_cnt (s : State) (f : Ddr → Ddr) : (s.ddrM f).cnt = s.cnt := rfl
@[simp] theorem State.ddrM_tap (s : State) (f : Ddr → Ddr) : (s.ddrM f).tap = s.tap := rfl
@[simp] theorem State.ddrM_diag (s : State) (f : Ddr → Ddr) : (s.ddrM f).diag = s.diag := rfl
@[simp] theorem State.ddrM_out (s : State) (f : Ddr → Ddr) : (s.ddrM f).out = s.out := rfl
@[simp] theorem State.ddrM_free (s : State) (f : Ddr → Ddr) : (s.ddrM f).free = s.free := rfl
@[simp] theorem State.ddrM_pending (s : State) (f : Ddr → Ddr) : (s.ddrM f).pending = s.pending := rfl

/-! ## `State.cntM` -/

@[simp] theorem State.cntM_mode (s : State) (f : Counters → Counters) : (s.cntM f).mode = s.mode := rfl
@[simp] theorem State.cntM_pins (s : State) (f : Counters → Counters) : (s.cntM f).pins = s.pins := rfl
@[simp] theorem State.cntM_hif (s : State) (f : Counters → Counters) : (s.cntM f).hif = s.hif := rfl
@[simp] theorem State.cntM_cmds (s : State) (f : Counters → Counters) : (s.cntM f).cmds = s.cmds := rfl
@[simp] theorem State.cntM_mbx (s : State) (f : Counters → Counters) : (s.cntM f).mbx = s.mbx := rfl
@[simp] theorem State.cntM_locks (s : State) (f : Counters → Counters) : (s.cntM f).locks = s.locks := rfl
@[simp] theorem State.cntM_smb (s : State) (f : Counters → Counters) : (s.cntM f).smb = s.smb := rfl
@[simp] theorem State.cntM_vnt (s : State) (f : Counters → Counters) : (s.cntM f).vnt = s.vnt := rfl
@[simp] theorem State.cntM_flt (s : State) (f : Counters → Counters) : (s.cntM f).flt = s.flt := rfl
@[simp] theorem State.cntM_book (s : State) (f : Counters → Counters) : (s.cntM f).book = s.book := rfl
@[simp] theorem State.cntM_parse (s : State) (f : Counters → Counters) : (s.cntM f).parse = s.parse := rfl
@[simp] theorem State.cntM_lookup (s : State) (f : Counters → Counters) : (s.cntM f).lookup = s.lookup := rfl
@[simp] theorem State.cntM_tcam (s : State) (f : Counters → Counters) : (s.cntM f).tcam = s.tcam := rfl
@[simp] theorem State.cntM_act (s : State) (f : Counters → Counters) : (s.cntM f).act = s.act := rfl
@[simp] theorem State.cntM_vin (s : State) (f : Counters → Counters) : (s.cntM f).vin = s.vin := rfl
@[simp] theorem State.cntM_ing (s : State) (f : Counters → Counters) : (s.cntM f).ing = s.ing := rfl
@[simp] theorem State.cntM_frag (s : State) (f : Counters → Counters) : (s.cntM f).frag = s.frag := rfl
@[simp] theorem State.cntM_cip (s : State) (f : Counters → Counters) : (s.cntM f).cip = s.cip := rfl
@[simp] theorem State.cntM_core (s : State) (f : Counters → Counters) : (s.cntM f).core = s.core := rfl
@[simp] theorem State.cntM_sched (s : State) (f : Counters → Counters) : (s.cntM f).sched = s.sched := rfl
@[simp] theorem State.cntM_mac (s : State) (f : Counters → Counters) : (s.cntM f).mac = s.mac := rfl
@[simp] theorem State.cntM_hst (s : State) (f : Counters → Counters) : (s.cntM f).hst = s.hst := rfl
@[simp] theorem State.cntM_time (s : State) (f : Counters → Counters) : (s.cntM f).time = s.time := rfl
@[simp] theorem State.cntM_twin (s : State) (f : Counters → Counters) : (s.cntM f).twin = s.twin := rfl
@[simp] theorem State.cntM_run (s : State) (f : Counters → Counters) : (s.cntM f).run = s.run := rfl
@[simp] theorem State.cntM_pwr (s : State) (f : Counters → Counters) : (s.cntM f).pwr = s.pwr := rfl
@[simp] theorem State.cntM_ddr (s : State) (f : Counters → Counters) : (s.cntM f).ddr = s.ddr := rfl
@[simp] theorem State.cntM_cnt (s : State) (f : Counters → Counters) : (s.cntM f).cnt = f s.cnt := rfl
@[simp] theorem State.cntM_tap (s : State) (f : Counters → Counters) : (s.cntM f).tap = s.tap := rfl
@[simp] theorem State.cntM_diag (s : State) (f : Counters → Counters) : (s.cntM f).diag = s.diag := rfl
@[simp] theorem State.cntM_out (s : State) (f : Counters → Counters) : (s.cntM f).out = s.out := rfl
@[simp] theorem State.cntM_free (s : State) (f : Counters → Counters) : (s.cntM f).free = s.free := rfl
@[simp] theorem State.cntM_pending (s : State) (f : Counters → Counters) : (s.cntM f).pending = s.pending := rfl

/-! ## `State.tapM` -/

@[simp] theorem State.tapM_mode (s : State) (f : Tap → Tap) : (s.tapM f).mode = s.mode := rfl
@[simp] theorem State.tapM_pins (s : State) (f : Tap → Tap) : (s.tapM f).pins = s.pins := rfl
@[simp] theorem State.tapM_hif (s : State) (f : Tap → Tap) : (s.tapM f).hif = s.hif := rfl
@[simp] theorem State.tapM_cmds (s : State) (f : Tap → Tap) : (s.tapM f).cmds = s.cmds := rfl
@[simp] theorem State.tapM_mbx (s : State) (f : Tap → Tap) : (s.tapM f).mbx = s.mbx := rfl
@[simp] theorem State.tapM_locks (s : State) (f : Tap → Tap) : (s.tapM f).locks = s.locks := rfl
@[simp] theorem State.tapM_smb (s : State) (f : Tap → Tap) : (s.tapM f).smb = s.smb := rfl
@[simp] theorem State.tapM_vnt (s : State) (f : Tap → Tap) : (s.tapM f).vnt = s.vnt := rfl
@[simp] theorem State.tapM_flt (s : State) (f : Tap → Tap) : (s.tapM f).flt = s.flt := rfl
@[simp] theorem State.tapM_book (s : State) (f : Tap → Tap) : (s.tapM f).book = s.book := rfl
@[simp] theorem State.tapM_parse (s : State) (f : Tap → Tap) : (s.tapM f).parse = s.parse := rfl
@[simp] theorem State.tapM_lookup (s : State) (f : Tap → Tap) : (s.tapM f).lookup = s.lookup := rfl
@[simp] theorem State.tapM_tcam (s : State) (f : Tap → Tap) : (s.tapM f).tcam = s.tcam := rfl
@[simp] theorem State.tapM_act (s : State) (f : Tap → Tap) : (s.tapM f).act = s.act := rfl
@[simp] theorem State.tapM_vin (s : State) (f : Tap → Tap) : (s.tapM f).vin = s.vin := rfl
@[simp] theorem State.tapM_ing (s : State) (f : Tap → Tap) : (s.tapM f).ing = s.ing := rfl
@[simp] theorem State.tapM_frag (s : State) (f : Tap → Tap) : (s.tapM f).frag = s.frag := rfl
@[simp] theorem State.tapM_cip (s : State) (f : Tap → Tap) : (s.tapM f).cip = s.cip := rfl
@[simp] theorem State.tapM_core (s : State) (f : Tap → Tap) : (s.tapM f).core = s.core := rfl
@[simp] theorem State.tapM_sched (s : State) (f : Tap → Tap) : (s.tapM f).sched = s.sched := rfl
@[simp] theorem State.tapM_mac (s : State) (f : Tap → Tap) : (s.tapM f).mac = s.mac := rfl
@[simp] theorem State.tapM_hst (s : State) (f : Tap → Tap) : (s.tapM f).hst = s.hst := rfl
@[simp] theorem State.tapM_time (s : State) (f : Tap → Tap) : (s.tapM f).time = s.time := rfl
@[simp] theorem State.tapM_twin (s : State) (f : Tap → Tap) : (s.tapM f).twin = s.twin := rfl
@[simp] theorem State.tapM_run (s : State) (f : Tap → Tap) : (s.tapM f).run = s.run := rfl
@[simp] theorem State.tapM_pwr (s : State) (f : Tap → Tap) : (s.tapM f).pwr = s.pwr := rfl
@[simp] theorem State.tapM_ddr (s : State) (f : Tap → Tap) : (s.tapM f).ddr = s.ddr := rfl
@[simp] theorem State.tapM_cnt (s : State) (f : Tap → Tap) : (s.tapM f).cnt = s.cnt := rfl
@[simp] theorem State.tapM_tap (s : State) (f : Tap → Tap) : (s.tapM f).tap = f s.tap := rfl
@[simp] theorem State.tapM_diag (s : State) (f : Tap → Tap) : (s.tapM f).diag = s.diag := rfl
@[simp] theorem State.tapM_out (s : State) (f : Tap → Tap) : (s.tapM f).out = s.out := rfl
@[simp] theorem State.tapM_free (s : State) (f : Tap → Tap) : (s.tapM f).free = s.free := rfl
@[simp] theorem State.tapM_pending (s : State) (f : Tap → Tap) : (s.tapM f).pending = s.pending := rfl

/-! ## `State.diagM` -/

@[simp] theorem State.diagM_mode (s : State) (f : Diag → Diag) : (s.diagM f).mode = s.mode := rfl
@[simp] theorem State.diagM_pins (s : State) (f : Diag → Diag) : (s.diagM f).pins = s.pins := rfl
@[simp] theorem State.diagM_hif (s : State) (f : Diag → Diag) : (s.diagM f).hif = s.hif := rfl
@[simp] theorem State.diagM_cmds (s : State) (f : Diag → Diag) : (s.diagM f).cmds = s.cmds := rfl
@[simp] theorem State.diagM_mbx (s : State) (f : Diag → Diag) : (s.diagM f).mbx = s.mbx := rfl
@[simp] theorem State.diagM_locks (s : State) (f : Diag → Diag) : (s.diagM f).locks = s.locks := rfl
@[simp] theorem State.diagM_smb (s : State) (f : Diag → Diag) : (s.diagM f).smb = s.smb := rfl
@[simp] theorem State.diagM_vnt (s : State) (f : Diag → Diag) : (s.diagM f).vnt = s.vnt := rfl
@[simp] theorem State.diagM_flt (s : State) (f : Diag → Diag) : (s.diagM f).flt = s.flt := rfl
@[simp] theorem State.diagM_book (s : State) (f : Diag → Diag) : (s.diagM f).book = s.book := rfl
@[simp] theorem State.diagM_parse (s : State) (f : Diag → Diag) : (s.diagM f).parse = s.parse := rfl
@[simp] theorem State.diagM_lookup (s : State) (f : Diag → Diag) : (s.diagM f).lookup = s.lookup := rfl
@[simp] theorem State.diagM_tcam (s : State) (f : Diag → Diag) : (s.diagM f).tcam = s.tcam := rfl
@[simp] theorem State.diagM_act (s : State) (f : Diag → Diag) : (s.diagM f).act = s.act := rfl
@[simp] theorem State.diagM_vin (s : State) (f : Diag → Diag) : (s.diagM f).vin = s.vin := rfl
@[simp] theorem State.diagM_ing (s : State) (f : Diag → Diag) : (s.diagM f).ing = s.ing := rfl
@[simp] theorem State.diagM_frag (s : State) (f : Diag → Diag) : (s.diagM f).frag = s.frag := rfl
@[simp] theorem State.diagM_cip (s : State) (f : Diag → Diag) : (s.diagM f).cip = s.cip := rfl
@[simp] theorem State.diagM_core (s : State) (f : Diag → Diag) : (s.diagM f).core = s.core := rfl
@[simp] theorem State.diagM_sched (s : State) (f : Diag → Diag) : (s.diagM f).sched = s.sched := rfl
@[simp] theorem State.diagM_mac (s : State) (f : Diag → Diag) : (s.diagM f).mac = s.mac := rfl
@[simp] theorem State.diagM_hst (s : State) (f : Diag → Diag) : (s.diagM f).hst = s.hst := rfl
@[simp] theorem State.diagM_time (s : State) (f : Diag → Diag) : (s.diagM f).time = s.time := rfl
@[simp] theorem State.diagM_twin (s : State) (f : Diag → Diag) : (s.diagM f).twin = s.twin := rfl
@[simp] theorem State.diagM_run (s : State) (f : Diag → Diag) : (s.diagM f).run = s.run := rfl
@[simp] theorem State.diagM_pwr (s : State) (f : Diag → Diag) : (s.diagM f).pwr = s.pwr := rfl
@[simp] theorem State.diagM_ddr (s : State) (f : Diag → Diag) : (s.diagM f).ddr = s.ddr := rfl
@[simp] theorem State.diagM_cnt (s : State) (f : Diag → Diag) : (s.diagM f).cnt = s.cnt := rfl
@[simp] theorem State.diagM_tap (s : State) (f : Diag → Diag) : (s.diagM f).tap = s.tap := rfl
@[simp] theorem State.diagM_diag (s : State) (f : Diag → Diag) : (s.diagM f).diag = f s.diag := rfl
@[simp] theorem State.diagM_out (s : State) (f : Diag → Diag) : (s.diagM f).out = s.out := rfl
@[simp] theorem State.diagM_free (s : State) (f : Diag → Diag) : (s.diagM f).free = s.free := rfl
@[simp] theorem State.diagM_pending (s : State) (f : Diag → Diag) : (s.diagM f).pending = s.pending := rfl

/-! ## `State.outM` -/

@[simp] theorem State.outM_mode (s : State) (f : (List Output) → (List Output)) : (s.outM f).mode = s.mode := rfl
@[simp] theorem State.outM_pins (s : State) (f : (List Output) → (List Output)) : (s.outM f).pins = s.pins := rfl
@[simp] theorem State.outM_hif (s : State) (f : (List Output) → (List Output)) : (s.outM f).hif = s.hif := rfl
@[simp] theorem State.outM_cmds (s : State) (f : (List Output) → (List Output)) : (s.outM f).cmds = s.cmds := rfl
@[simp] theorem State.outM_mbx (s : State) (f : (List Output) → (List Output)) : (s.outM f).mbx = s.mbx := rfl
@[simp] theorem State.outM_locks (s : State) (f : (List Output) → (List Output)) : (s.outM f).locks = s.locks := rfl
@[simp] theorem State.outM_smb (s : State) (f : (List Output) → (List Output)) : (s.outM f).smb = s.smb := rfl
@[simp] theorem State.outM_vnt (s : State) (f : (List Output) → (List Output)) : (s.outM f).vnt = s.vnt := rfl
@[simp] theorem State.outM_flt (s : State) (f : (List Output) → (List Output)) : (s.outM f).flt = s.flt := rfl
@[simp] theorem State.outM_book (s : State) (f : (List Output) → (List Output)) : (s.outM f).book = s.book := rfl
@[simp] theorem State.outM_parse (s : State) (f : (List Output) → (List Output)) : (s.outM f).parse = s.parse := rfl
@[simp] theorem State.outM_lookup (s : State) (f : (List Output) → (List Output)) : (s.outM f).lookup = s.lookup := rfl
@[simp] theorem State.outM_tcam (s : State) (f : (List Output) → (List Output)) : (s.outM f).tcam = s.tcam := rfl
@[simp] theorem State.outM_act (s : State) (f : (List Output) → (List Output)) : (s.outM f).act = s.act := rfl
@[simp] theorem State.outM_vin (s : State) (f : (List Output) → (List Output)) : (s.outM f).vin = s.vin := rfl
@[simp] theorem State.outM_ing (s : State) (f : (List Output) → (List Output)) : (s.outM f).ing = s.ing := rfl
@[simp] theorem State.outM_frag (s : State) (f : (List Output) → (List Output)) : (s.outM f).frag = s.frag := rfl
@[simp] theorem State.outM_cip (s : State) (f : (List Output) → (List Output)) : (s.outM f).cip = s.cip := rfl
@[simp] theorem State.outM_core (s : State) (f : (List Output) → (List Output)) : (s.outM f).core = s.core := rfl
@[simp] theorem State.outM_sched (s : State) (f : (List Output) → (List Output)) : (s.outM f).sched = s.sched := rfl
@[simp] theorem State.outM_mac (s : State) (f : (List Output) → (List Output)) : (s.outM f).mac = s.mac := rfl
@[simp] theorem State.outM_hst (s : State) (f : (List Output) → (List Output)) : (s.outM f).hst = s.hst := rfl
@[simp] theorem State.outM_time (s : State) (f : (List Output) → (List Output)) : (s.outM f).time = s.time := rfl
@[simp] theorem State.outM_twin (s : State) (f : (List Output) → (List Output)) : (s.outM f).twin = s.twin := rfl
@[simp] theorem State.outM_run (s : State) (f : (List Output) → (List Output)) : (s.outM f).run = s.run := rfl
@[simp] theorem State.outM_pwr (s : State) (f : (List Output) → (List Output)) : (s.outM f).pwr = s.pwr := rfl
@[simp] theorem State.outM_ddr (s : State) (f : (List Output) → (List Output)) : (s.outM f).ddr = s.ddr := rfl
@[simp] theorem State.outM_cnt (s : State) (f : (List Output) → (List Output)) : (s.outM f).cnt = s.cnt := rfl
@[simp] theorem State.outM_tap (s : State) (f : (List Output) → (List Output)) : (s.outM f).tap = s.tap := rfl
@[simp] theorem State.outM_diag (s : State) (f : (List Output) → (List Output)) : (s.outM f).diag = s.diag := rfl
@[simp] theorem State.outM_out (s : State) (f : (List Output) → (List Output)) : (s.outM f).out = f s.out := rfl
@[simp] theorem State.outM_free (s : State) (f : (List Output) → (List Output)) : (s.outM f).free = s.free := rfl
@[simp] theorem State.outM_pending (s : State) (f : (List Output) → (List Output)) : (s.outM f).pending = s.pending := rfl

/-! ## `State.freeM` -/

@[simp] theorem State.freeM_mode (s : State) (f : Nat → Nat) : (s.freeM f).mode = s.mode := rfl
@[simp] theorem State.freeM_pins (s : State) (f : Nat → Nat) : (s.freeM f).pins = s.pins := rfl
@[simp] theorem State.freeM_hif (s : State) (f : Nat → Nat) : (s.freeM f).hif = s.hif := rfl
@[simp] theorem State.freeM_cmds (s : State) (f : Nat → Nat) : (s.freeM f).cmds = s.cmds := rfl
@[simp] theorem State.freeM_mbx (s : State) (f : Nat → Nat) : (s.freeM f).mbx = s.mbx := rfl
@[simp] theorem State.freeM_locks (s : State) (f : Nat → Nat) : (s.freeM f).locks = s.locks := rfl
@[simp] theorem State.freeM_smb (s : State) (f : Nat → Nat) : (s.freeM f).smb = s.smb := rfl
@[simp] theorem State.freeM_vnt (s : State) (f : Nat → Nat) : (s.freeM f).vnt = s.vnt := rfl
@[simp] theorem State.freeM_flt (s : State) (f : Nat → Nat) : (s.freeM f).flt = s.flt := rfl
@[simp] theorem State.freeM_book (s : State) (f : Nat → Nat) : (s.freeM f).book = s.book := rfl
@[simp] theorem State.freeM_parse (s : State) (f : Nat → Nat) : (s.freeM f).parse = s.parse := rfl
@[simp] theorem State.freeM_lookup (s : State) (f : Nat → Nat) : (s.freeM f).lookup = s.lookup := rfl
@[simp] theorem State.freeM_tcam (s : State) (f : Nat → Nat) : (s.freeM f).tcam = s.tcam := rfl
@[simp] theorem State.freeM_act (s : State) (f : Nat → Nat) : (s.freeM f).act = s.act := rfl
@[simp] theorem State.freeM_vin (s : State) (f : Nat → Nat) : (s.freeM f).vin = s.vin := rfl
@[simp] theorem State.freeM_ing (s : State) (f : Nat → Nat) : (s.freeM f).ing = s.ing := rfl
@[simp] theorem State.freeM_frag (s : State) (f : Nat → Nat) : (s.freeM f).frag = s.frag := rfl
@[simp] theorem State.freeM_cip (s : State) (f : Nat → Nat) : (s.freeM f).cip = s.cip := rfl
@[simp] theorem State.freeM_core (s : State) (f : Nat → Nat) : (s.freeM f).core = s.core := rfl
@[simp] theorem State.freeM_sched (s : State) (f : Nat → Nat) : (s.freeM f).sched = s.sched := rfl
@[simp] theorem State.freeM_mac (s : State) (f : Nat → Nat) : (s.freeM f).mac = s.mac := rfl
@[simp] theorem State.freeM_hst (s : State) (f : Nat → Nat) : (s.freeM f).hst = s.hst := rfl
@[simp] theorem State.freeM_time (s : State) (f : Nat → Nat) : (s.freeM f).time = s.time := rfl
@[simp] theorem State.freeM_twin (s : State) (f : Nat → Nat) : (s.freeM f).twin = s.twin := rfl
@[simp] theorem State.freeM_run (s : State) (f : Nat → Nat) : (s.freeM f).run = s.run := rfl
@[simp] theorem State.freeM_pwr (s : State) (f : Nat → Nat) : (s.freeM f).pwr = s.pwr := rfl
@[simp] theorem State.freeM_ddr (s : State) (f : Nat → Nat) : (s.freeM f).ddr = s.ddr := rfl
@[simp] theorem State.freeM_cnt (s : State) (f : Nat → Nat) : (s.freeM f).cnt = s.cnt := rfl
@[simp] theorem State.freeM_tap (s : State) (f : Nat → Nat) : (s.freeM f).tap = s.tap := rfl
@[simp] theorem State.freeM_diag (s : State) (f : Nat → Nat) : (s.freeM f).diag = s.diag := rfl
@[simp] theorem State.freeM_out (s : State) (f : Nat → Nat) : (s.freeM f).out = s.out := rfl
@[simp] theorem State.freeM_free (s : State) (f : Nat → Nat) : (s.freeM f).free = f s.free := rfl
@[simp] theorem State.freeM_pending (s : State) (f : Nat → Nat) : (s.freeM f).pending = s.pending := rfl

/-! ## `State.pendingM` -/

@[simp] theorem State.pendingM_mode (s : State) (f : (List Instr) → (List Instr)) : (s.pendingM f).mode = s.mode := rfl
@[simp] theorem State.pendingM_pins (s : State) (f : (List Instr) → (List Instr)) : (s.pendingM f).pins = s.pins := rfl
@[simp] theorem State.pendingM_hif (s : State) (f : (List Instr) → (List Instr)) : (s.pendingM f).hif = s.hif := rfl
@[simp] theorem State.pendingM_cmds (s : State) (f : (List Instr) → (List Instr)) : (s.pendingM f).cmds = s.cmds := rfl
@[simp] theorem State.pendingM_mbx (s : State) (f : (List Instr) → (List Instr)) : (s.pendingM f).mbx = s.mbx := rfl
@[simp] theorem State.pendingM_locks (s : State) (f : (List Instr) → (List Instr)) : (s.pendingM f).locks = s.locks := rfl
@[simp] theorem State.pendingM_smb (s : State) (f : (List Instr) → (List Instr)) : (s.pendingM f).smb = s.smb := rfl
@[simp] theorem State.pendingM_vnt (s : State) (f : (List Instr) → (List Instr)) : (s.pendingM f).vnt = s.vnt := rfl
@[simp] theorem State.pendingM_flt (s : State) (f : (List Instr) → (List Instr)) : (s.pendingM f).flt = s.flt := rfl
@[simp] theorem State.pendingM_book (s : State) (f : (List Instr) → (List Instr)) : (s.pendingM f).book = s.book := rfl
@[simp] theorem State.pendingM_parse (s : State) (f : (List Instr) → (List Instr)) : (s.pendingM f).parse = s.parse := rfl
@[simp] theorem State.pendingM_lookup (s : State) (f : (List Instr) → (List Instr)) : (s.pendingM f).lookup = s.lookup := rfl
@[simp] theorem State.pendingM_tcam (s : State) (f : (List Instr) → (List Instr)) : (s.pendingM f).tcam = s.tcam := rfl
@[simp] theorem State.pendingM_act (s : State) (f : (List Instr) → (List Instr)) : (s.pendingM f).act = s.act := rfl
@[simp] theorem State.pendingM_vin (s : State) (f : (List Instr) → (List Instr)) : (s.pendingM f).vin = s.vin := rfl
@[simp] theorem State.pendingM_ing (s : State) (f : (List Instr) → (List Instr)) : (s.pendingM f).ing = s.ing := rfl
@[simp] theorem State.pendingM_frag (s : State) (f : (List Instr) → (List Instr)) : (s.pendingM f).frag = s.frag := rfl
@[simp] theorem State.pendingM_cip (s : State) (f : (List Instr) → (List Instr)) : (s.pendingM f).cip = s.cip := rfl
@[simp] theorem State.pendingM_core (s : State) (f : (List Instr) → (List Instr)) : (s.pendingM f).core = s.core := rfl
@[simp] theorem State.pendingM_sched (s : State) (f : (List Instr) → (List Instr)) : (s.pendingM f).sched = s.sched := rfl
@[simp] theorem State.pendingM_mac (s : State) (f : (List Instr) → (List Instr)) : (s.pendingM f).mac = s.mac := rfl
@[simp] theorem State.pendingM_hst (s : State) (f : (List Instr) → (List Instr)) : (s.pendingM f).hst = s.hst := rfl
@[simp] theorem State.pendingM_time (s : State) (f : (List Instr) → (List Instr)) : (s.pendingM f).time = s.time := rfl
@[simp] theorem State.pendingM_twin (s : State) (f : (List Instr) → (List Instr)) : (s.pendingM f).twin = s.twin := rfl
@[simp] theorem State.pendingM_run (s : State) (f : (List Instr) → (List Instr)) : (s.pendingM f).run = s.run := rfl
@[simp] theorem State.pendingM_pwr (s : State) (f : (List Instr) → (List Instr)) : (s.pendingM f).pwr = s.pwr := rfl
@[simp] theorem State.pendingM_ddr (s : State) (f : (List Instr) → (List Instr)) : (s.pendingM f).ddr = s.ddr := rfl
@[simp] theorem State.pendingM_cnt (s : State) (f : (List Instr) → (List Instr)) : (s.pendingM f).cnt = s.cnt := rfl
@[simp] theorem State.pendingM_tap (s : State) (f : (List Instr) → (List Instr)) : (s.pendingM f).tap = s.tap := rfl
@[simp] theorem State.pendingM_diag (s : State) (f : (List Instr) → (List Instr)) : (s.pendingM f).diag = s.diag := rfl
@[simp] theorem State.pendingM_out (s : State) (f : (List Instr) → (List Instr)) : (s.pendingM f).out = s.out := rfl
@[simp] theorem State.pendingM_free (s : State) (f : (List Instr) → (List Instr)) : (s.pendingM f).free = s.free := rfl
@[simp] theorem State.pendingM_pending (s : State) (f : (List Instr) → (List Instr)) : (s.pendingM f).pending = f s.pending := rfl

/-! ## `State.emit` -/

@[simp] theorem State.emit_mode (s : State) (o : Output) : (s.emit o).mode = s.mode := rfl
@[simp] theorem State.emit_pins (s : State) (o : Output) : (s.emit o).pins = s.pins := rfl
@[simp] theorem State.emit_hif (s : State) (o : Output) : (s.emit o).hif = s.hif := rfl
@[simp] theorem State.emit_cmds (s : State) (o : Output) : (s.emit o).cmds = s.cmds := rfl
@[simp] theorem State.emit_mbx (s : State) (o : Output) : (s.emit o).mbx = s.mbx := rfl
@[simp] theorem State.emit_locks (s : State) (o : Output) : (s.emit o).locks = s.locks := rfl
@[simp] theorem State.emit_smb (s : State) (o : Output) : (s.emit o).smb = s.smb := rfl
@[simp] theorem State.emit_vnt (s : State) (o : Output) : (s.emit o).vnt = s.vnt := rfl
@[simp] theorem State.emit_flt (s : State) (o : Output) : (s.emit o).flt = s.flt := rfl
@[simp] theorem State.emit_book (s : State) (o : Output) : (s.emit o).book = s.book := rfl
@[simp] theorem State.emit_parse (s : State) (o : Output) : (s.emit o).parse = s.parse := rfl
@[simp] theorem State.emit_lookup (s : State) (o : Output) : (s.emit o).lookup = s.lookup := rfl
@[simp] theorem State.emit_tcam (s : State) (o : Output) : (s.emit o).tcam = s.tcam := rfl
@[simp] theorem State.emit_act (s : State) (o : Output) : (s.emit o).act = s.act := rfl
@[simp] theorem State.emit_vin (s : State) (o : Output) : (s.emit o).vin = s.vin := rfl
@[simp] theorem State.emit_ing (s : State) (o : Output) : (s.emit o).ing = s.ing := rfl
@[simp] theorem State.emit_frag (s : State) (o : Output) : (s.emit o).frag = s.frag := rfl
@[simp] theorem State.emit_cip (s : State) (o : Output) : (s.emit o).cip = s.cip := rfl
@[simp] theorem State.emit_core (s : State) (o : Output) : (s.emit o).core = s.core := rfl
@[simp] theorem State.emit_sched (s : State) (o : Output) : (s.emit o).sched = s.sched := rfl
@[simp] theorem State.emit_mac (s : State) (o : Output) : (s.emit o).mac = s.mac := rfl
@[simp] theorem State.emit_hst (s : State) (o : Output) : (s.emit o).hst = s.hst := rfl
@[simp] theorem State.emit_time (s : State) (o : Output) : (s.emit o).time = s.time := rfl
@[simp] theorem State.emit_twin (s : State) (o : Output) : (s.emit o).twin = s.twin := rfl
@[simp] theorem State.emit_run (s : State) (o : Output) : (s.emit o).run = s.run := rfl
@[simp] theorem State.emit_pwr (s : State) (o : Output) : (s.emit o).pwr = s.pwr := rfl
@[simp] theorem State.emit_ddr (s : State) (o : Output) : (s.emit o).ddr = s.ddr := rfl
@[simp] theorem State.emit_cnt (s : State) (o : Output) : (s.emit o).cnt = s.cnt := rfl
@[simp] theorem State.emit_tap (s : State) (o : Output) : (s.emit o).tap = s.tap := rfl
@[simp] theorem State.emit_diag (s : State) (o : Output) : (s.emit o).diag = s.diag := rfl
@[simp] theorem State.emit_out (s : State) (o : Output) : (s.emit o).out = s.out ++ [o] := rfl
@[simp] theorem State.emit_free (s : State) (o : Output) : (s.emit o).free = s.free := rfl
@[simp] theorem State.emit_pending (s : State) (o : Output) : (s.emit o).pending = s.pending := rfl

end Sys2Proof.Machine
end

