-- ==== Sys2Proof/Laws/Frame.lean ====
section
/-!
SUPPORT. What the operations every command shares can change: interrupts, performance counters, ring indices, wakes, DDR5 stores, trace records.
-/
namespace Sys2Proof.Machine

/-- Nothing has changed. -/
theorem Safety.Behind.rfl' (s : State) : Safety.Behind s s := by constructor <;> rfl

/-- Two such changes one after the other. -/
theorem Safety.Behind.trans {a b c : State} (h : Safety.Behind a b) (k : Safety.Behind b c) : Safety.Behind a c := by
  obtain ⟨h1, h2, h3, h4, h5, h6, h7, h8, h9, h10, h11, h12, h13, h14, h15, h16, h17, h18, h19, h20, h21, h22, h23⟩ := h
  obtain ⟨k1, k2, k3, k4, k5, k6, k7, k8, k9, k10, k11, k12, k13, k14, k15, k16, k17, k18, k19, k20, k21, k22, k23⟩ := k
  constructor <;> simp_all

/-- A fold of such changes. -/
theorem Safety.Behind.foldl {α : Type} (f : State → α → State) (hf : ∀ s x, Safety.Behind s (f s x)) (l : List α) (s : State) :
    Safety.Behind s (l.foldl f s) := by
  induction l generalizing s with
  | nil => exact .rfl' s
  | cons x t ih => exact (hf s x).trans (ih _)

theorem State.hifM_behind (s : State) (f : Hif → Hif) : Safety.Behind s (s.hifM f) := by constructor <;> rfl
theorem State.cmdsM_behind (s : State) (f : Cmds → Cmds) : Safety.Behind s (s.cmdsM f) := by constructor <;> rfl
theorem State.smbM_behind (s : State) (f : Smbus → Smbus) : Safety.Behind s (s.smbM f) := by constructor <;> rfl
theorem State.vntM_behind (s : State) (f : Vintner → Vintner) : Safety.Behind s (s.vntM f) := by constructor <;> rfl
theorem State.fltM_behind (s : State) (f : Faults → Faults) : Safety.Behind s (s.fltM f) := by constructor <;> rfl
theorem State.ddrM_behind (s : State) (f : Ddr → Ddr) : Safety.Behind s (s.ddrM f) := by constructor <;> rfl
theorem State.cntM_behind (s : State) (f : Counters → Counters) : Safety.Behind s (s.cntM f) := by constructor <;> rfl
theorem State.pwrM_behind (s : State) (f : Power → Power) : Safety.Behind s (s.pwrM f) := by constructor <;> rfl
theorem State.emit_behind (s : State) (o : Output) : Safety.Behind s (s.emit o) := by constructor <;> rfl

/-- Adding to a counter changes the counters only. -/
theorem State.perfAdd_eq (s : State) (n k : Nat) : ∃ c, s.perfAdd n k = { s with cnt := c } := by
  simp only [State.perfAdd]
  split <;> exact ⟨_, rfl⟩

/-- Counting performance events changes the counters only. -/
theorem State.perf_eq (s : State) (u ev k : Nat) : ∃ c, s.perf u ev k = { s with cnt := c } := by
  simp only [State.perf]
  generalize List.range 8 = l
  induction l generalizing s with
  | nil => exact ⟨s.cnt, rfl⟩
  | cons x t ih =>
    simp only [List.foldl_cons]
    split
    · obtain ⟨c, hc⟩ := s.perfAdd_eq (8 * u + x) k
      rw [hc]
      obtain ⟨d, hd⟩ := ih { s with cnt := c }
      exact ⟨d, hd⟩
    · exact ih s

theorem State.perf_behind (s : State) (u ev k : Nat) : Safety.Behind s (s.perf u ev k) := by
  obtain ⟨c, hc⟩ := s.perf_eq u ev k
  rw [hc]
  constructor <;> rfl

theorem State.perfHost_behind (s : State) (ev k : Nat) : Safety.Behind s (s.perfHost ev k) :=
  Safety.Behind.foldl _ (fun s _ => s.perf_behind _ _ _) _ s

/-- Signalling a vector changes the host link and what is put out, and nothing else. -/
theorem State.signal_eq (s : State) (v : Nat) : ∃ h o, s.signal v = { s with hif := h, out := o } := by
  simp only [State.signal, State.sendMsix]
  repeat' split
  all_goals exact ⟨_, _, rfl⟩

/-- Signalling a vector unless it is masked changes the host link and what is put out, and nothing else. -/
theorem State.signalUnless_eq (s : State) (i v : Nat) : ∃ h o, s.signalUnless i v = { s with hif := h, out := o } := by
  simp only [State.signalUnless]
  split
  · exact ⟨_, _, rfl⟩
  · exact s.signal_eq v

/-- A cause bit changes the host link and what is put out, and nothing else. -/
theorem State.setCause_eq (s : State) (i : Nat) : ∃ h o, s.setCause i = { s with hif := h, out := o } := by
  obtain ⟨h, o, e⟩ := State.signalUnless_eq (s.hifM fun h => { h with cause := orBit h.cause i }) i i
  exact ⟨h, o, e⟩

/-- A mailbox's cause bit changes the host link and what is put out, and nothing else. -/
theorem State.setMbxCause_eq (s : State) (m : Nat) : ∃ h o, s.setMbxCause m = { s with hif := h, out := o } := by
  simp only [State.setMbxCause]
  split
  · exact ⟨_, _, rfl⟩
  · obtain ⟨h, o, e⟩ := State.signalUnless_eq (s.hifM fun h => { h with mbxCause := orBit h.mbxCause m }) 3 3
    rw [e]
    exact ⟨h, o, rfl⟩

theorem State.setCause_behind (s : State) (i : Nat) : Safety.Behind s (s.setCause i) := by
  obtain ⟨h, o, e⟩ := s.setCause_eq i
  rw [e]
  constructor <;> rfl

theorem State.ringAdvance_behind (s : State) (r slots cause : Nat) : Safety.Behind s (s.ringAdvance r slots cause) := by
  simp only [State.ringAdvance]
  refine Safety.Behind.trans ?_ (State.setCause_behind _ _)
  split
  · exact ((s.hifM_behind _).trans (State.emit_behind _ _)).trans (State.perfHost_behind _ _ _)
  · exact s.hifM_behind _

theorem State.wakeDom_behind (s : State) (d : Nat) : Safety.Behind s (s.wakeDom d) := by
  simp only [State.wakeDom]
  split
  · exact ((s.emit_behind _).trans (State.perf_behind _ _ _ _)).trans (State.pwrM_behind _ _)
  · exact .rfl' s

theorem State.takePlanted_behind (s : State) (l : List Nat) : Safety.Behind s (s.takePlanted l).2 := by
  simp only [State.takePlanted]
  split
  · exact .rfl' s
  · constructor <;> rfl

theorem State.chanM_behind (s : State) (c : Nat) (f : Chan → Chan) : Safety.Behind s (s.chanM c f) := s.ddrM_behind _

theorem State.ddrRequest_behind (s : State) (c : Nat) : Safety.Behind s (s.ddrRequest c) :=
  (s.wakeDom_behind 31).trans (State.chanM_behind _ _ _)

theorem State.ddrPlant_behind (s : State) (c line : Nat) (whole : Bool) : Safety.Behind s (s.ddrPlant c line whole) :=
  ((s.takePlanted_behind _).trans (State.takePlanted_behind _ _)).trans (State.chanM_behind _ _ _)

theorem State.ddrStoreLine_behind (s : State) (a : Nat) (b : Bytes) : Safety.Behind s (s.ddrStoreLine a b) := by
  simp only [State.ddrStoreLine]
  split
  · exact s.ddrRequest_behind _
  · exact ((s.ddrRequest_behind _).trans (State.ddrPlant_behind _ _ _ _)).trans ((State.perf_behind _ _ _ _).trans (State.ddrM_behind _ _))

theorem State.ddrPieces_behind (n : Nat) (s : State) (a : Nat) (b : Bytes) : Safety.Behind s (State.ddrPieces n s a b) := by
  induction n generalizing s a b with
  | zero => exact .rfl' s
  | succ n ih =>
    simp only [State.ddrPieces]
    split
    · exact .rfl' s
    · exact (s.ddrStoreLine_behind _ _).trans (ih _ _ _)

theorem State.trace_behind (s : State) (on : Bool) (kind ctx addr tag op : Nat) (rest : Bytes) :
    Safety.Behind s (s.trace on kind ctx addr tag op rest) := by
  simp only [State.trace]
  repeat' split
  all_goals first
    | exact .rfl' s
    | exact s.vntM_behind _
    | exact (State.ddrPieces_behind _ s _ _).trans (State.vntM_behind _ _)

/-- A host-interface error changes its bit, and no ring. -/
theorem State.setHifErr_eq (s : State) (i : Nat) : ∃ h o, s.setHifErr i = { s with hif := h, out := o } ∧ h.err = orBit s.hif.err i ∧ h.rings = s.hif.rings := by
  simp only [State.setHifErr, State.signalUnless, State.signal, State.sendMsix]
  repeat' split
  all_goals exact ⟨_, _, rfl, rfl, rfl⟩

/-- Counting host events changes the counters only. -/
theorem State.perfHost_eq (s : State) (ev k : Nat) : ∃ c, s.perfHost ev k = { s with cnt := c } := by
  unfold State.perfHost State.perfAll
  generalize List.range _ = l
  induction l generalizing s with
  | nil => exact ⟨s.cnt, rfl⟩
  | cons x t ih =>
    simp only [List.foldl_cons]
    obtain ⟨c, hc⟩ := State.perf_eq s (71 + x) ev k
    rw [hc]
    obtain ⟨d, hd⟩ := ih { s with cnt := c }
    exact ⟨d, hd⟩

/-- Advancing a ring changes the host link, the counters and what is put out. -/
theorem State.ringAdvance_eq (s : State) (r n k : Nat) : ∃ h o c, s.ringAdvance r n k = { s with hif := h, out := o, cnt := c } := by
  simp only [State.ringAdvance]
  split
  · generalize hz : (State.emit _ _) = z
    obtain ⟨c, hc⟩ := z.perfHost_eq 0x13 1
    subst hz
    rw [hc]
    obtain ⟨h, o, e⟩ := State.setCause_eq _ k
    rw [e]
    exact ⟨_, _, _, rfl⟩
  · obtain ⟨h, o, e⟩ := State.setCause_eq _ k
    rw [e]
    exact ⟨_, _, _, rfl⟩

/-- Writing an event changes the host link, the counters and what is put out. -/
theorem State.writeEvent_eq (s : State) (e : Event) : ∃ h o c, s.writeEvent e = { s with hif := h, out := o, cnt := c } := by
  simp only [State.writeEvent]
  obtain ⟨c, hc⟩ := State.perfHost_eq (s.emit (.event (nth s.hif.rings 5 {}).engine e ((nth s.hif.rings 5 {}).place e.bytes))) 0x13 1
  rw [hc]
  obtain ⟨h, o, d, e⟩ := State.ringAdvance_eq _ 5 1 2
  rw [e]
  exact ⟨_, _, _, rfl⟩

/-- Raising an event changes the host link, the counters, what is put out and the event bookkeeping, where it takes one number. -/
theorem State.postEvent_eq (s : State) (a b : Nat) (l : List Word) : ∃ h o c k, s.postEvent a b l = { s with hif := h, out := o, cnt := c, cmds := k } ∧ k.eventSeq = (s.cmds.eventSeq + 1) % 4294967296 := by
  simp only [State.postEvent]
  split
  · exact ⟨_, _, _, _, rfl, rfl⟩
  · split
    · obtain ⟨h, o, c, e⟩ := State.writeEvent_eq (s.cmdsM fun c => { c with eventSeq := (c.eventSeq + 1) % 4294967296 }) { code := a, seq := s.cmds.eventSeq, objectId := b, time := s.ns32, payload := l }
      rw [e]
      exact ⟨_, _, _, _, rfl, rfl⟩
    · exact ⟨_, _, _, _, rfl, rfl⟩

/-- Queueing a record changes the cellar book only. -/
theorem State.bookPut_eq (s : State) (r : Bool) (a b c) : ∃ k, s.bookPut r a b c = { s with book := k } := by
  simp only [State.bookPut]; split <;> exact ⟨_, rfl⟩

/-- Taking a capture changes the faults, the cellar book, the host link, the counters, the event bookkeeping and what is put out. -/
theorem State.takeCapture_eq (s : State) (x : Capture) :
    ∃ f b h o c k, s.takeCapture x = { s with flt := f, book := b, hif := h, out := o, cnt := c, cmds := k } := by
  unfold State.takeCapture
  dsimp only
  generalize hu : State.fltM s _ = u
  have hb : ∀ (p : Bool) (r : Bool) (i c : _) (d : _), ∃ b, (if p = true then u.bookPut r i c d else u) = { u with book := b } := by
    intro p r i c d
    split
    · exact u.bookPut_eq r i c d
    · exact ⟨_, rfl⟩
  obtain ⟨b, hb⟩ := hb _ _ _ _ _
  rw [hb]
  subst hu
  split
  · obtain ⟨h, o, e⟩ := State.setCause_eq _ 4
    rw [e]
    obtain ⟨h', o', c, k, e', _⟩ := State.postEvent_eq _ _ _ _
    rw [e']
    exact ⟨_, _, _, _, _, _, rfl⟩
  · exact ⟨_, _, _, _, _, _, rfl⟩

/-- Raising a fault changes the faults, the cellar book, the host link, the counters, the event bookkeeping, what is put out and the free values drawn. -/
theorem State.fault_eq (s : State) (src m a addr syn : Nat) :
    ∃ f b h o c k n, s.fault src m a addr syn = { s with flt := f, book := b, hif := h, out := o, cnt := c, cmds := k, free := n } := by
  unfold State.fault
  split
  · exact ⟨_, _, _, _, _, _, _, rfl⟩
  · dsimp only
    split
    · exact ⟨_, _, _, _, _, _, _, rfl⟩
    · split
      · obtain ⟨f, b, h, o, c, k, e⟩ := State.takeCapture_eq _ _
        rw [e]
        exact ⟨_, _, _, _, _, _, _, rfl⟩
      · obtain ⟨f, b, h, o, c, k, e⟩ := State.takeCapture_eq _ _
        rw [e]
        exact ⟨_, _, _, _, _, _, _, rfl⟩

end Sys2Proof.Machine
end

