-- ==== Sys2Proof/Laws/Lists.lean ====
section
/-!
SUPPORT. Lists and sparse tables after one entry is changed.
-/
namespace Sys2Proof

/-- A bit that was set is set. -/
theorem nbit_orBit (n i : Nat) : nbit (orBit n i) i = true := by
  by_cases h : nbit n i
  · rw [orBit, if_pos h]; exact h
  · have hp : 0 < 2 ^ i := Nat.two_pow_pos i
    have e : (n + 2 ^ i) / 2 ^ i = n / 2 ^ i + 1 := Nat.add_div_right n hp
    rw [orBit, if_neg h]
    simp only [nbit, beq_iff_eq, e] at *
    omega

/-- What stands at a place that was changed. -/
theorem nth_updAt {α : Type} (l : List α) (i : Nat) (f : α → α) (d : α) (h : i < l.length) : nth (updAt l i f) i d = f (nth l i d) := by
  induction l generalizing i with
  | nil => simp at h
  | cons x t ih =>
    cases i with
    | zero => simp [updAt, nth]
    | succ n => simp at h; have := ih n h; simp only [nth] at *; simpa [updAt] using this

/-- A change past the end changes nothing. -/
theorem updAt_out {α : Type} (l : List α) (i : Nat) (f : α → α) (h : l.length ≤ i) : updAt l i f = l := by
  induction l generalizing i with
  | nil => rfl
  | cons x t ih =>
    cases i with
    | zero => simp at h
    | succ n => simp at h; simp [updAt, ih n h]

/-- Two changes that agree on what stands there are one. -/
theorem updAt_congr {α : Type} (l : List α) (i : Nat) (f g : α → α) (d : α) (h : f (nth l i d) = g (nth l i d)) : updAt l i f = updAt l i g := by
  by_cases hl : i < l.length
  · induction l generalizing i with
    | nil => rfl
    | cons x t ih =>
      cases i with
      | zero => simp [updAt]; simpa [nth] using h
      | succ n => simp at hl; simp [updAt]; exact ih n (by simpa [nth] using h) hl
  · rw [updAt_out _ _ _ (by omega), updAt_out _ _ _ (by omega)]

/-- A key just listed holds its value. -/
theorem Tbl.look_put {α : Type} (t : Tbl α) (q : Nat) (v : α) : Tbl.look (Tbl.put t q v) q = some v := by
  induction t with
  | nil => simp [Tbl.put, Tbl.look]
  | cons e t ih =>
    obtain ⟨k, w⟩ := e
    simp only [Tbl.put]
    split
    · simp [Tbl.look]
    · split
      · simp [Tbl.look]
      · simp only [Tbl.look]
        rw [if_neg (by omega)]; exact ih

/-- Other keys hold what they held. -/
theorem Tbl.look_put_ne {α : Type} (t : Tbl α) (q k : Nat) (v : α) (h : k ≠ q) : Tbl.look (Tbl.put t q v) k = Tbl.look t k := by
  induction t with
  | nil => simp [Tbl.put, Tbl.look]; omega
  | cons e t ih =>
    obtain ⟨j, w⟩ := e
    simp only [Tbl.put]
    split
    · simp only [Tbl.look]; rw [if_neg (by omega)]
    · split
      · simp only [Tbl.look]; rw [if_neg (by omega), if_neg (by omega)]
      · simp only [Tbl.look, ih]

end Sys2Proof
end

