-- ==== Sys2Proof/Laws/Mem.lean ====
section
/-!
SUPPORT. Every operation of the memory keeps its canonical form, and what a write leaves at each address.
-/
namespace Sys2Proof

/-- A memory whose keys start higher starts no lower. -/
theorem Mem.wfFrom_mono {m : List Host.Cell} {a b : Nat} (hab : a ≤ b) (h : Mem.wfFrom m b = true) : Mem.wfFrom m a = true := by
  cases m with
  | nil => rfl
  | cons e t =>
    simp only [Mem.wfFrom, Bool.and_eq_true, decide_eq_true_eq] at h ⊢
    exact ⟨⟨by omega, h.1.2⟩, h.2⟩

/-- Keeping only some cells keeps the canonical form. -/
theorem Mem.filter_wfFrom {m : List Host.Cell} {lo : Nat} (p : Host.Cell → Bool) (h : Mem.wfFrom m lo = true) :
    Mem.wfFrom (m.filter p) lo = true := by
  induction m generalizing lo with
  | nil => rfl
  | cons e t ih =>
    obtain ⟨k, v⟩ := e
    simp only [Mem.wfFrom, Bool.and_eq_true, decide_eq_true_eq] at h
    simp only [List.filter_cons]
    split
    · simp only [Mem.wfFrom, Bool.and_eq_true, decide_eq_true_eq]
      exact ⟨h.1, ih h.2⟩
    · exact Mem.wfFrom_mono (by omega) (ih h.2)

/-- Keeping only some cells keeps the canonical form of the whole memory. -/
theorem Mem.filter_wf {m : List Host.Cell} (p : Host.Cell → Bool) (h : Mem.wf m = true) : Mem.wf (m.filter p) = true :=
  Mem.filter_wfFrom p h

/-- A cell put in, of a key not listed and not the unlisted value, keeps the canonical form. -/
theorem Mem.insert_wfFrom {m : List Host.Cell} {lo a : Nat} {b : Byte} (h : Mem.wfFrom m lo = true) (ha : lo ≤ a)
    (hb : b ≠ Mem.unlisted) (hn : ∀ e ∈ m, e.1 ≠ a) : Mem.wfFrom (Mem.insert m a b) lo = true := by
  induction m generalizing lo with
  | nil => simp [Mem.insert, Mem.wfFrom, ha, hb]
  | cons e t ih =>
    obtain ⟨k, v⟩ := e
    have hk : k ≠ a := hn (k, v) (List.mem_cons_self)
    simp only [Mem.wfFrom, Bool.and_eq_true, decide_eq_true_eq] at h
    simp only [Mem.insert]
    split
    · simp only [Mem.wfFrom, Bool.and_eq_true, decide_eq_true_eq]
      exact ⟨⟨ha, hb⟩, ⟨by omega, h.1.2⟩, h.2⟩
    · simp only [Mem.wfFrom, Bool.and_eq_true, decide_eq_true_eq]
      exact ⟨h.1, ih h.2 (by omega) fun e he => hn e (List.mem_cons_of_mem _ he)⟩

/-- A write keeps the canonical form. -/
theorem Mem.write_wf {m : List Host.Cell} (h : Mem.wf m = true) (a : Nat) (b : Byte) : Mem.wf (Mem.write m a b) = true := by
  simp only [Mem.write]
  split
  · exact Mem.filter_wf _ h
  · exact Mem.insert_wfFrom (Mem.filter_wfFrom _ h) (Nat.zero_le a) (by assumption) fun e he => by
      simpa using (List.mem_filter.mp he).2

/-- Writing a string keeps the canonical form. -/
theorem Mem.writes_wf {m : List Host.Cell} (h : Mem.wf m = true) (a : Nat) (b : Bytes) : Mem.wf (Mem.writes m a b) = true := by
  induction b generalizing m a with
  | nil => exact h
  | cons x t ih => exact ih (Mem.write_wf h a x) (a + 1)

/-- A cell taken out is read at no other address. -/
theorem Mem.read_filter (m : List Host.Cell) (a x : Nat) :
    Mem.read (m.filter fun e => e.1 != a) x = if x = a then Mem.unlisted else Mem.read m x := by
  induction m with
  | nil => simp [Mem.read]
  | cons e t ih =>
    obtain ⟨k, v⟩ := e
    by_cases hk : k = a
    · subst hk
      simp only [List.filter_cons, bne_self_eq_false, Bool.false_eq_true, if_false, ih, Mem.read]
      split
      · rfl
      · rw [if_neg (fun h => by simp_all)]
    · have hka : (k != a) = true := by simpa using hk
      simp only [List.filter_cons, hka, if_true, Mem.read, ih]
      split
      · rename_i hkx
        rw [if_neg (by omega)]
      · rfl

/-- A cell put in is read at its address and at no other, when its key was not listed. -/
theorem Mem.read_insert {m : List Host.Cell} {a : Nat} (b : Byte) (hn : ∀ e ∈ m, e.1 ≠ a) (x : Nat) :
    Mem.read (Mem.insert m a b) x = if x = a then b else Mem.read m x := by
  induction m with
  | nil => simp only [Mem.insert, Mem.read, eq_comm]
  | cons e t ih =>
    obtain ⟨k, v⟩ := e
    have hk : k ≠ a := hn (k, v) (List.mem_cons_self)
    simp only [Mem.insert]
    split
    · simp only [Mem.read]
      by_cases hx : x = a
      · simp [hx]
      · rw [if_neg (fun h => hx h.symm), if_neg hx]
    · simp only [Mem.read, ih fun e he => hn e (List.mem_cons_of_mem _ he)]
      by_cases hx : k = x
      · rw [if_pos hx, if_neg (by omega), if_pos hx]
      · rw [if_neg hx, if_neg hx]

/-- What a write leaves at each address. -/
theorem Mem.read_write (m : List Host.Cell) (a x : Nat) (b : Byte) :
    Mem.read (Mem.write m a b) x = if x = a then b else Mem.read m x := by
  simp only [Mem.write]
  split
  · rename_i hb
    subst hb
    exact Mem.read_filter m a x
  · rw [Mem.read_insert b (fun e he => by simpa using (List.mem_filter.mp he).2) x, Mem.read_filter]
    by_cases hx : x = a
    · rw [if_pos hx, if_pos hx]
    · rw [if_neg hx, if_neg hx, if_neg hx]

/-- A string written is read back, and nothing else has changed. -/
theorem Mem.read_writes (m : List Host.Cell) (a : Nat) (b : Bytes) (x : Nat) :
    Mem.read (Mem.writes m a b) x = if a ≤ x ∧ x < a + b.length then by8 (byteAt b (x - a)) else Mem.read m x := by
  induction b generalizing m a with
  | nil =>
    have h : ¬ (a ≤ x ∧ x < a + 0) := by omega
    simp only [Mem.writes, List.length_nil, if_neg h]
  | cons v t ih =>
    simp only [Mem.writes, ih, Mem.read_write, List.length_cons]
    by_cases h : a + 1 ≤ x ∧ x < a + 1 + t.length
    · rw [if_pos h, if_pos (by omega)]
      obtain ⟨d, hd⟩ : ∃ d, x - a = d + 1 := ⟨x - a - 1, by omega⟩
      rw [hd, show x - (a + 1) = d by omega]; simp [byteAt, by8]
    · rw [if_neg h]
      by_cases h2 : x = a
      · subst h2; simp [byteAt, by8]
      · rw [if_neg (by omega), if_neg (by omega)]

end Sys2Proof
end

