-- ==== Sys2Proof/Laws/Staged.lean ====
section
/-!
SUPPORT. What a staged command does when the open vintage has room for it, and that counting references leaves the vintages alone.
-/
namespace Sys2Proof.Machine

/-! ## References leave the vintages alone -/

@[simp] theorem refAct_vin (s : State) (u : Bool) (a : Nat) : (s.refAct u a).vin = s.vin := rfl
@[simp] theorem refTmpl_vin (s : State) (u : Bool) (a : Nat) : (s.refTmpl u a).vin = s.vin := rfl
@[simp] theorem refHop_vin (s : State) (u : Bool) (a : Nat) : (s.refHop u a).vin = s.vin := rfl
@[simp] theorem refMeter_vin (s : State) (u : Bool) (a : Nat) : (s.refMeter u a).vin = s.vin := rfl
@[simp] theorem refBind_vin (s : State) (u : Bool) (a : Nat) : (s.refBind u a).vin = s.vin := rfl
@[simp] theorem refQueue_vin (s : State) (u : Bool) (a : Nat) : (s.refQueue u a).vin = s.vin := rfl
@[simp] theorem killQueueRef_vin (s : State) (q n : Nat) : (s.killQueueRef q n).vin = s.vin := rfl
@[simp] theorem tcamClear_vin (s : State) (k : Nat) : (s.tcamClear k).vin = s.vin := rfl

@[simp] theorem refsOfAct_vin (s : State) (u : Bool) (d : Option Nat) (a : List Word) : (s.refsOfAct u d a).vin = s.vin := by
  unfold State.refsOfAct
  dsimp only
  repeat' split
  all_goals simp

@[simp] theorem refsOfHop_vin (s : State) (u : Bool) (d : Option Nat) (a : List Word) : (s.refsOfHop u d a).vin = s.vin := by
  unfold State.refsOfHop
  split <;> simp

@[simp] theorem refsOfMirror_vin (s : State) (u : Bool) (d : Option Nat) (a : List Word) : (s.refsOfMirror u d a).vin = s.vin := by
  unfold State.refsOfMirror
  dsimp only
  repeat' split
  all_goals simp

@[simp] theorem refsOfExcept_vin (s : State) (u : Bool) (d : Option Nat) (ws : List Word) : (s.refsOfExcept u d ws).vin = s.vin := by
  unfold State.refsOfExcept
  generalize ws.take 10 = l
  induction l generalizing s with
  | nil => rfl
  | cons w l ih =>
    rw [List.foldl_cons, ih]
    repeat' split
    all_goals simp

@[simp] theorem tcamPlant_vin (s : State) (k : Nat) : (s.tcamPlant k).vin = s.vin := by
  unfold State.tcamPlant State.takePlanted
  dsimp only
  repeat' split
  all_goals rfl

/-! ## So do the tables and the TCAM -/

@[simp] theorem fault_vin (s : State) (src m a addr syn : Nat) : (s.fault src m a addr syn).vin = s.vin := by
  obtain ⟨_, _, _, _, _, _, _, e⟩ := s.fault_eq src m a addr syn
  rw [e]

@[simp] theorem tcamLose_vin (s : State) (h m a : Nat) : (s.tcamLose h m a).vin = s.vin := by
  unfold State.tcamLose
  dsimp only
  rw [fault_vin]
  show (State.tcamClear _ h).vin = _
  rw [tcamClear_vin]
  repeat' split
  all_goals rfl

@[simp] theorem tcamShadow_vin (s : State) (h : Nat) (rows : List Nat) (m a : Nat) : (s.tcamShadow h rows m a).2.vin = s.vin := by
  unfold State.tcamShadow
  dsimp only
  split
  · exact tcamLose_vin s h m a
  · rename_i hn
    clear hn
    dsimp only
    generalize List.filter _ _ = l
    induction l generalizing s with
    | nil => rfl
    | cons x l ih =>
      rw [List.foldl_cons, ih, fault_vin]
      rfl

@[simp] theorem readEntry_vin (s : State) (row : Nat) : (s.readEntry row).vin = s.vin := tcamShadow_vin _ _ _ _ _

theorem emMoves_vin (l : List Nat) (s : State) (n : Nat) : (s.emMoves l n).vin = s.vin := by
  induction l generalizing s n with
  | nil => rfl
  | cons x l ih => rw [State.emMoves, ih]; rfl

/-- Placing an exact-match entry leaves the vintages alone. -/
@[simp] theorem emPlace_vin (s : State) (t : Nat) (d : EmDef) (e : EmSlot) : (s.emPlace t d e).2.vin = s.vin := by
  unfold State.emPlace
  dsimp only
  split
  · rfl
  · split
    · dsimp only
      show (State.emMoves s _ _).vin = s.vin
      exact emMoves_vin _ _ _
    · rfl

@[simp] theorem emKill_vin (s : State) (n : Nat) (e : EmSlot) : (s.emKill n e).vin = s.vin := rfl

/-- The epoch being staged depends on the vintages alone. -/
theorem vintN_of_vin {s t : State} (h : t.vin = s.vin) : t.vintN = s.vintN := by
  simp only [State.vintN, State.epoch, State.curSlot, h]

/-- An exact-match command that is ready passes its checks and goes on with the table's key. -/
theorem emChecks_ready {c : Packet} {d : EmDef} {a : Nat} {p : EmDef → Bytes → Bool} (k : EmDef → Bytes → Res)
    (h : emReady c (some d) a p = true) :
    emChecks c (some d) a k = k d ((pktKey c a (if d.wide then 10 else 4)).take d.keyLen)
      ∧ p d ((pktKey c a (if d.wide then 10 else 4)).take d.keyLen) = true := by
  simp only [emReady, Bool.and_eq_true, beq_iff_eq] at h
  obtain ⟨⟨h1, h2⟩, h3⟩ := h
  simp only [emChecks, h1, ne_eq, not_true_eq_false, if_false, checks_pass h2]
  exact ⟨trivial, h3⟩

/-! ## The staging log -/

/-- The operations counted of the vintage in hand. -/
def State.vintOps (s : State) : Option Nat := s.vin.vint.map Vintage.ops

/-- Staging arrays leaves the operations counted as they were. -/
@[simp] theorem stagedM_vintOps (s : State) (f : Arrays → Arrays) : (s.stagedM f).vintOps = s.vintOps := by
  simp only [State.vintOps, State.stagedM, State.vintM, State.vinM, Option.map_map]
  rfl

/-- The operations counted depend on the vintages alone. -/
theorem vintOps_of_vin {s t : State} (h : t.vin = s.vin) : t.vintOps = s.vintOps := by
  simp only [State.vintOps, h]

/-- Staging an exception table leaves the operations counted as they were. -/
@[simp] theorem stageExcept_vintOps (s : State) (ws : List Word) : (s.stageExcept ws).vintOps = s.vintOps := by
  unfold State.stageExcept
  split
  · rfl
  · rw [stagedM_vintOps]
    exact vintOps_of_vin (by simp)

/-- A staged command with room in the log: its own effect, its operations and the digest, relayed. -/
theorem stagedCmd_room {s t : State} {op : Nat} {c : Packet} {d : Nat} {ws : List Word} {body : Packet → State → Res}
    (hr : s.hasRoom op c = true) (hb : body c s = .done .ok d ws t) (ho : t.vintOps = s.vintOps) :
    stagedCmd op body c s = Res.logged op c (.done .ok d ws t) := by
  unfold State.hasRoom at hr
  split at hr
  · cases hr
  · rename_i v hv
    simp only [Bool.and_eq_true, bne_iff_ne, ne_eq, beq_iff_eq, decide_eq_true_eq] at hr
    obtain ⟨⟨⟨hm, hh⟩, hv2⟩, hroom⟩ := hr
    have hvs : s.vin.vint = some v := by
      unfold State.openVint at hv
      exact (Option.filter_eq_some_iff.mp hv).1
    have : ∃ w, t.vin.vint = some w ∧ w.ops = v.ops := by
      unfold State.vintOps at ho
      rw [hvs] at ho
      cases hw : t.vin.vint with
      | none => rw [hw] at ho; cases ho
      | some w => rw [hw] at ho; exact ⟨w, rfl, by simpa using ho⟩
    obtain ⟨w, hw, how⟩ := this
    have hn : ¬ 65536 < w.ops + opsOf op := by omega
    simp only [stagedCmd, hm, hh, ↓reduceIte, hv, hv2, ne_eq, not_true_eq_false, stageOne, hb, hw, hn, Res.logged]

/-- A staged command whose result is OK and which leaves the log alone: its own effect, counted and relayed. -/
theorem stagedCmd_ok {s : State} {op : Nat} {c : Packet} {body : Packet → State → Res} {r : Res}
    (hr : s.hasRoom op c = true) (hb : body c s = r) (ho : ∃ d ws t, r = .done .ok d ws t ∧ t.vintOps = s.vintOps) :
    stagedCmd op body c s = Res.logged op c r := by
  obtain ⟨d, ws, t, rfl, ht⟩ := ho
  exact stagedCmd_room hr hb ht

/-- Counting a reference to an action leaves the number of the vintage in hand. -/
theorem refAct_vintN (s : State) (up : Bool) (a : Nat) : (s.refAct up a).vintN = s.vintN := rfl

end Sys2Proof.Machine
end

