-- ==== Sys2Proof/Machine/Pcie.lean ====
section
/-!
DEFINITION. The PCI Express function as a configuration request finds it: its identity, BARs, capabilities and limits, and how it answers (R42, R43). The offsets of the registers are those of the PCI Express type 0 header (PRESUMED).
-/
namespace Sys2Proof.Machine

/-- A base address register: its number, its size in bytes, and what it reaches. -/
structure Bar where
  /-- 0, 2 or 4. -/
  number : Nat
  /-- Size in bytes. -/
  size : Nat
  /-- 64-bit. -/
  wide : Bool
  /-- Prefetchable. -/
  prefetch : Bool
deriving DecidableEq, Repr

/-- Capabilities of the function. -/
inductive PcieCap
  /-- PCI Express. -/
  | express
  /-- MSI-X, with this many vectors. -/
  | msix (vectors : Nat)
  /-- Power Management: D0 and D3hot. -/
  | power
  /-- Advanced Error Reporting. -/
  | aer
  /-- Device Serial Number. -/
  | serial
deriving DecidableEq, Repr

/-- Vendor ID and Device ID. -/
def pcieVendor : Nat := 0x1F3A
def pcieDevice : Nat := 0x0960
/-- Revision ID of stepping B0. -/
def pcieRevision : Nat := 0x10
/-- Class code: encryption controller, other. -/
def pcieClass : Nat := 0x108000
/-- The three BARs: registers, performance-counter user pages, and the MSI-X table with its pending bits. -/
def pcieBars : List Bar := [⟨0, 65536, true, false⟩, ⟨2, 262144, true, false⟩, ⟨4, 16384, true, false⟩]
/-- Offsets in BAR4 of the MSI-X table and of its pending-bit array. -/
def msixTableOffset : Nat := 0
def msixPbaOffset : Nat := 0x2000
/-- The capabilities. -/
def pcieCaps : List PcieCap := [.express, .msix 64, .power, .aer, .serial]
/-- Largest payload supported and largest read request, in bytes. -/
def pcieMaxPayload : Nat := 512
def pcieMaxReadRequest : Nat := 4096
/-- Bits of a tag. -/
def pcieTagBits : Nat := 10

/-- The Device Serial Number: HIF_SERIAL_HI and HIF_SERIAL_LO. -/
def pcieSerial : Nat := Config.serialFuse % 2 ^ 64

/-- What the Link Status register reports of a trained link: the rate, 1 to 5 for 2.5 to 32 GT/s, and the number of lanes, 1, 2, 4 or 8. Which of them the link trains to is open: a free value of the boot. -/
def State.pcieLink (s : State) : Option (Nat × Nat) :=
  if s.pins.pcieUp then
    let x := Config.pcieTrained s.mode.bootCount
    some (1 + x % 5, 2 ^ (x / 5 % 4))
  else none

/-- How a configuration read is answered. -/
inductive CfgAnswer
  /-- Not at all: the link is down. -/
  | silent
  /-- Configuration Request Retry Status. -/
  | retry
  /-- Completed, with the 32 bits of the register. -/
  | data (v : Nat)
deriving DecidableEq, Repr

/-- The size mask a BAR reads as after all ones are written to it: the low word of a 64-bit memory BAR has type 2 in its low bits. -/
def Bar.mask (b : Bar) (high : Bool) : Nat :=
  let m := 2 ^ 64 - b.size
  if high then m / 4294967296 else m % 4294967296 + 4 * b2n b.wide + 8 * b2n b.prefetch

/-- The 32 bits at an offset of the header that the specification fixes: identity, Bus Master Enable in Command with the capability bit of Status, class. -/
def State.cfgHeader (s : State) (off : Nat) : Nat :=
  match off with
  | 0x00 => pcieVendor + 65536 * pcieDevice
  | 0x04 => 4 * b2n s.hif.bme + 65536 * 16
  | 0x08 => pcieRevision + 256 * pcieClass
  | _ => 0

/-- A configuration read: nothing answers while the link is down, retry status comes until CONFIG (R43). -/
def State.cfgRead (s : State) (off : Nat) : CfgAnswer :=
  if !s.pins.pcieUp then .silent else if s.mode.mode.isUp then .data (s.cfgHeader off) else .retry

end Sys2Proof.Machine
end

