-- ==== Sys2Proof/WellFormed.lean ====
section
/-!
DEFINITION. Which commands are well formed: a packet whose parts agree, and operands inside the ranges the manual gives them.
A meaning is defined on ill-formed commands as well; the checks here say what the outside can send.
-/
namespace Sys2Proof

/-- A packet's parts agree: a ring of R48 or the tunnel, and as many parameter words as param_length says (R83). -/
def Packet.wf (c : Packet) : Bool :=
  c.params.length == c.plen.toNat &&
    (match c.path with
    | .ring r => decide (r < 4)
    | .tunnel => true)

/-- A well-formed command: rings, ports, groups, slices, columns, mailboxes, locks, masters, channels and domains that the manual numbers. -/
def wellFormed : Instr → Bool
  | .nop c => c.wf
  | .syncSummary c => c.wf
  | .deviceIdentity c => c.wf
  | .modeSet c => c.wf
  | .cfgBatchBegin c => c.wf
  | .cfgBatchEnd c => c.wf
  | .kwkEstablish c => c.wf
  | .portLayoutSet c => c.wf
  | .portSet c => c.wf
  | .portStatus c => c.wf
  | .lbPortSet c => c.wf
  | .lbStatus c => c.wf
  | .parseInfo c => c.wf
  | .parseStateSet c => c.wf
  | .parseTransSet c => c.wf
  | .parseExceptSet c => c.wf
  | .parseDefaultLoad c => c.wf
  | .parseRead c => c.wf
  | .fragConfig c => c.wf
  | .fragStatus c => c.wf
  | .emTableDefine c => c.wf
  | .emInsert c => c.wf
  | .emModify c => c.wf
  | .emDelete c => c.wf
  | .emSearch c => c.wf
  | .emRead c => c.wf
  | .emStatus c => c.wf
  | .pfxRealmDefine c => c.wf
  | .pfxAdd c => c.wf
  | .pfxModify c => c.wf
  | .pfxDelete c => c.wf
  | .pfxSearch c => c.wf
  | .pfxStatus c => c.wf
  | .lookupProfileSet c => c.wf
  | .lookupMapSet c => c.wf
  | .tcamBankWidth c => c.wf
  | .tcamGroupDefine c => c.wf
  | .tcamProfileSet c => c.wf
  | .tcamInsert c => c.wf
  | .tcamDelete c => c.wf
  | .tcamRead c => c.wf
  | .tcamSearch c => c.wf
  | .tcamStatus c => c.wf
  | .vintOpen c => c.wf
  | .vintStage c => c.wf
  | .vintCommit c => c.wf
  | .vintAbort c => c.wf
  | .vintStatus c => c.wf
  | .vintCommitAt c => c.wf
  | .actWrite c => c.wf
  | .actDelete c => c.wf
  | .actRead c => c.wf
  | .templateWrite c => c.wf
  | .templateDelete c => c.wf
  | .nexthopWrite c => c.wf
  | .nexthopDelete c => c.wf
  | .mirrorSessionSet c => c.wf
  | .bypassClassSet c => c.wf
  | .meterProfileSet c => c.wf
  | .meterSet c => c.wf
  | .meterRead c => c.wf
  | .actionConfig c => c.wf
  | .actStatus c => c.wf
  | .reasonCounts c => c.wf
  | .saInstall c => c.wf
  | .saRetire c => c.wf
  | .saSwitch c => c.wf
  | .saRead c => c.wf
  | .saSpillPolicy c => c.wf
  | .cipherPortSet c => c.wf
  | .bindingRead c => c.wf
  | .cipherStatus c => c.wf
  | .coreXpSet c => c.wf
  | .coreColumnSet c => c.wf
  | .coreXpStatus c => c.wf
  | .coreColumnStatus c => c.wf
  | .corePortFlush c => c.wf
  | .corePortStatus c => c.wf
  | .poolCarve c => c.wf
  | .poolColumnSet c => c.wf
  | .poolModeSet c => c.wf
  | .poolQuotaSet c => c.wf
  | .poolStatus c => c.wf
  | .poolBufferRead c => c.wf
  | .poolQuarantineRelease c => c.wf
  | .schedPortSet c => c.wf
  | .schedGroupSet c => c.wf
  | .schedQueueSet c => c.wf
  | .schedPortStatus c => c.wf
  | .schedGroupStatus c => c.wf
  | .schedQueueStatus c => c.wf
  | .schedQueueStats c => c.wf
  | .schedStatus c => c.wf
  | .schedSampleRingSet c => c.wf
  | .schedSampleRead c => c.wf
  | .timeSet c => c.wf
  | .timeGet c => c.wf
  | .timeSelect c => c.wf
  | .ptpDomainSet c => c.wf
  | .ptpPortSet c => c.wf
  | .ptpStatus c => c.wf
  | .ptpTsRead c => c.wf
  | .pulseSet c => c.wf
  | .captureRead c => c.wf
  | .gateListSet c => c.wf
  | .gateListRead c => c.wf
  | .htxRingSet c => c.wf
  | .hrxRingSet c => c.wf
  | .segProfileSet c => c.wf
  | .hringStatus c => c.wf
  | .twinConfig c => c.wf
  | .twinEnrol c => c.wf
  | .twinTakeover c => c.wf
  | .twinStatus c => c.wf
  | .twinLock c => c.wf
  | .powerPolicySet c => c.wf
  | .powerStatus c => c.wf
  | .sliceRetire c => c.wf
  | .sliceAdmit c => c.wf
  | .sliceStatus c => c.wf
  | .ddrTrain c => c.wf
  | .ddrConfig c => c.wf
  | .ddrStatus c => c.wf
  | .statRead c => c.wf
  | .statClear c => c.wf
  | .snapAreaSet c => c.wf
  | .snapTake c => c.wf
  | .snapStatus c => c.wf
  | .snapRead c => c.wf
  | .prfSelect c => c.wf
  | .prfRead c => c.wf
  | .bwmSet c => c.wf
  | .bwmRead c => c.wf
  | .faultStatus c => c.wf
  | .faultRead c => c.wf
  | .faultClear c => c.wf
  | .faultReactionSet c => c.wf
  | .bookInfo c => c.wf
  | .bookRead c => c.wf
  | .faultInject c => c.wf
  | .guardSet c => c.wf
  | .bookClear c => c.wf
  | .diagLoopback c => c.wf
  | .diagMemTest c => c.wf
  | .mbxNop m => decide (m < 16)
  | .ringRescan m => decide (m < 16)
  | .holdHost m => decide (m < 16)
  | .hostRelease m => decide (m < 16)
  | .tunnelWrite data _ => decide (data.length ≤ 255)
  | .tunnelRead => true
  | .bookSelect data _ => decide (data.length ≤ 255)
  | .smbusBookRead => true
  | .smbusLockAcquire n => decide (n < 32)
  | .smbusLockRelease n _ _ => decide (n < 32)
  | .alertResponse => true
  | .smbusTimeout => true
  | .hifDb r _ => decide (r < 6)
  | .hifTxdb t _ => decide (t < 16)
  | .hifRxdb r _ => decide (r < 16)
  | .ringEnable r _ => decide (r < 6)
  | .ringDisable r _ => decide (r < 6)
  | .irqMaskWrite offset _ => decide (offset < 65536)
  | .mbxMsg m k _ master => decide (m < 16) && decide (k < 12) && decide (master < 4)
  | .send m master => decide (m < 16) && decide (master < 4)
  | .withdraw m master _ => decide (m < 16) && decide (master < 4)
  | .release m master => decide (m < 16) && decide (master < 4)
  | .accept m master => decide (m < 16) && decide (master < 4)
  | .mbxAck m _ master => decide (m < 16) && decide (master < 4)
  | .overflowNotice => true
  | .lockAcquire n masters => decide (n < 32) && masters.all fun x => decide (x < 4)
  | .lockRelease n master => decide (n < 32) && decide (master < 4)
  | .force n master => decide (n < 32) && decide (master < 4)
  | .restart => true
  | .vintnerRestarted => true
  | .traceEnable _ => true
  | .vntTraceLost => true
  | .hifReset _ => true
  | .celBookSelect _ => true
  | .busMasterEnable _ => true
  | .registerWrite offset _ => decide (offset < 65536)
  | .bar0BadAccess offset _ _ => decide (offset < 65536)
  | .commandFetch heads => heads.all fun h => decide (h.ring < 4) && decide (64 ≤ h.bytes.length) && h.bytes.length % 64 == 0
  | .replyWrite => true
  | .holdoffExpire v => decide (v < 40)
  | .dmaError ring => (decide (ring < 6) || (decide (16 ≤ ring) && decide (ring < 48)))
  | .machineCheck addr _ ctx tag opcode => decide (addr < 16384) && (decide (ctx < 8) || ctx == 0xFF) && decide (tag < 4096) && decide (opcode < 65536)
  | .auxVinUp _ addrSel => decide (addrSel < 4)
  | .auxVinLost => true
  | .resetNAssert => true
  | .resetNDeassert _ _ => true
  | .perstNAssert => true
  | .perstNDeassert => true
  | .pgInConfirm => true
  | .railTimeout => true
  | .pgInLost => true
  | .bootComplete fail dimms => (match fail with
      | some (k, _) => decide (1 ≤ k) && decide (k ≤ 5)
      | none => true) && decide (dimms.length ≤ 4)
  | .refclkLost => true
  | .refclkReturn => true
  | .safeReqN _ => true
  | .takeN _ => true
  | .ownInAssert cutting => cutting.all fun p => decide (p < 64)
  | .ownInDeassert => true
  | .claimWindowEnd => true
  | .ppsInEdge i => decide (i < 2)
  | .pulseEdge o => decide (o < 4)
  | .thermalRead _ => true
  | .linkUp p => decide (p < 64)
  | .linkDown p cause lane _ _ => decide (p < 64) && (decide (1 ≤ cause) && decide (cause ≤ 5)) && (lane.all fun l => decide (l < 68))
  | .frameReceive p _ _ => decide (p < 64)
  | .pauseRefresh p => decide (p < 64)
  | .pauseReceive p quanta => decide (p < 64) && decide (quanta < 65536)
  | .pfcReceive p mask times => decide (p < 64) && decide (mask < 256) && times.length == 8 && times.all fun x => decide (x < 65536)
  | .pauseExpire p prio => decide (p < 64) && (prio.all fun i => decide (i < 8))
  | .pauseStormTrip p => decide (p < 64)
  | .pauseStormClear p => decide (p < 64)
  | .ingressCipher g => decide (g < 8)
  | .saFetchDone sa => decide (sa < 4194304)
  | .saFetchRetry => true
  | .distributionRound _ => true
  | .slicePass k => decide (k < 8)
  | .sliceTimeout k => decide (k < 8)
  | .fragHoldTimeout => true
  | .fragEntryRemoval _ => true
  | .reorderRelease src => decide (src < 11)
  | .residueWrite src col => decide (src < 11) && decide (col < 11)
  | .residueAged src col => decide (src < 11) && decide (col < 11)
  | .poolRebuild col pool => decide (col < 11) && decide (pool < 4)
  | .selection p => decide (p < 67)
  | .shaperRefill kind _ => decide (kind < 3)
  | .adaptiveQuantum _ => true
  | .egressCipher g => decide (g < 8)
  | .frameTransmit p => decide (p < 64)
  | .flushMarkersPassed p => decide (p < 67)
  | .hostTxFetch t descs => decide (t < 16) && descs.all fun d => d.1.length == 16
  | .hostRxDelivery => true
  | .hostRingStalled r => decide (r < 16)
  | .epochRetire _ => true
  | .commitCycle => true
  | .sweep => true
  | .rebasingPass => true
  | .tcamScrub => true
  | .tcamRepair _ => true
  | .collectorParity _ => true
  | .cipherKat g bad => decide (g < 8) && (bad.all fun b => decide (b < 2))
  | .bookCommit _ => true
  | .drainComplete => true
  | .drainTimeout => true
  | .trellisLinkUp => true
  | .trellisLinkDown => true
  | .trellisFrame counter _ _ _ => decide (counter < 2 ^ 64)
  | .hello _ => true
  | .proof _ => true
  | .handshakeRetry => true
  | .heartbeatSend => true
  | .heartbeat _ => true
  | .heartbeatMissed => true
  | .leapComplete => true
  | .ack _ _ => true
  | .syncBegin _ => true
  | .syncEnd => true
  | .syncResult _ _ => true
  | .handover => true
  | .handoverTimeout => true
  | .handoverDone _ => true
  | .vintageOpen _ => true
  | .vintageStage _ => true
  | .prepare _ _ _ _ => true
  | .ready _ => true
  | .refuse _ _ _ => true
  | .vintageCommit _ => true
  | .vintageAbort _ => true
  | .number _ _ => true
  | .window _ _ => true
  | .context _ _ => true
  | .binding _ _ => true
  | .sci _ _ => true
  | .retire _ _ => true
  | .port _ _ => true
  | .mbx m msg => decide (m < 16) && decide (msg.length ≤ 12)
  | .mbxState m code ack _ => decide (m < 16) && decide (code < 8) && decide (ack < 65536)
  | .lockReq lock op => decide (lock < 32) && decide (op < 2)
  | .lockResult lock op result owner => decide (lock < 32) && decide (op < 2) && decide (result < 4) && decide (owner < 4)
  | .hairpin _ => true
  | .ptpSync d port _ _ => decide (d < 2) && decide (port < 64)
  | .followUp d port _ => decide (d < 2) && decide (port < 64)
  | .delayResp d port _ => decide (d < 2) && decide (port < 64)
  | .pdelayResp d port _ _ => decide (d < 2) && decide (port < 64)
  | .pdelayRespFollowUp d port _ => decide (d < 2) && decide (port < 64)
  | .holdover d => decide (d < 2)
  | .gateBoundary p => decide (p < 64)
  | .gateListSwitch p => decide (p < 64)
  | .snapshotTick => true
  | .snapshotDone => true
  | .bwmWindowEnd _ => true
  | .refreshDue ch rank _ => decide (ch < 4) && decide (rank < 2)
  | .refreshMakeup ch rank issued => decide (ch < 4) && decide (rank < 2) && decide (issued < 9)
  | .driftTrack ch _ => decide (ch < 4)
  | .powerDownEntry ch rank _ => decide (ch < 4) && decide (rank < 2)
  | .ddrThermalRead temps => decide (temps.length ≤ 4)
  | .patrolScrub => true
  | .trainingDone passed => decide (passed < 16)
  | .dozeEntry d _ _ => decide (d < 33)
  | .deepEntry d _ _ => decide (d < 33)
  | .wakeComplete d _ => decide (d < 33)
  | .slicePolicy => true
  | .flushComplete p => decide (p < 67)
  | .slewComplete => true
  | .handshakeTimeout => true
  | .fullMirrorSent => true
  | .bookClearDone => true
  | .diagMemTestDone => true
  | .testAccessPort edge _ _ => decide (edge < 4)
  | .msixVectorUnmask vector => (vector.all fun v => decide (v < 64))

end Sys2Proof
end

