-- ==== Sys2Proof/Tests/Slice0.lean ====
section
/-!
SUPPORT. Tests of the model: refused operands, single steps whose results the spec gives, and states that meet the hypotheses of the statements.
-/
namespace Sys2Proof.Tests

set_option Elab.async false

open Sys2Proof.Machine

/-! ## Small states -/

/-- A packet over the tunnel with an object, a handle and parameter words. -/
def pk (obj handle : Nat) (ws : List Nat) : Packet :=
  { path := .tunnel, flags := 0, format := 1, tag := 5, plen := BitVec.ofNat 16 ws.length
    objectId := wd obj, handle := wd handle, params := ws.map wd }

/-- The machine in a mode, the Vintner running. -/
def inMode (m : Mode) : State :=
  { State.reset with mode := { mode := m, prev := .boot, cause := 0 }, vnt := { running := true } }

/-- CONFIG with one command in flight, waiting to start. -/
def started (op : Nat) (c : Packet) : State :=
  { inMode .config with cmds := { tags := [{ opcode := op, pkt := c, phase := .waiting }] } }

/-- A command in flight in a state made from that one meets its condition. -/
def ok (f : Packet → State → Bool) (op : Nat) (c : Packet) (g : State → State) : Bool := f c (g (started op c))

/-- A vintage with handle 1 is open, with these arrays. -/
def opened (a : Arrays) (s : State) : State :=
  s.vinM fun v => { v with vint := some { handle := 1, n := 2, state := .opened, arrays := a } }

/-- A vintage with handle 1 is prepared. -/
def prepared (s : State) : State :=
  s.vinM fun v => { v with vint := some { handle := 1, n := 2, state := .prepared } }

/-- The arrays in force. -/
def current (a : Arrays) (s : State) : State := s.slotM s.vin.cur fun x => { x with arrays := a }

/-- One DDR5 channel in service. -/
def memory (s : State) : State :=
  s.ddrM fun d => { d with inUse := 1, chans := [{ st := .inService, ranks := 1, gib := 16, supported := true }, {}, {}, {}] }

/-- An exact-match table of 4-byte keys. -/
def tEm : EmDef := { wide := false, keyLen := 4, base := 0, k := 0, seed0 := 1, seed1 := 2, segs := [(0, 4)] }
/-- Its entry for the key 7. -/
def tSlot : EmSlot := { key := [7, 0, 0, 0], birth := 1, death := 0, deathSet := false, action := 0 }
/-- 10.0.0.0/8 of realm 0. -/
def tPfx : Prefix := { realm := 0, v6 := false, len := 8, addr := 0x0A000000, birth := 1, death := 0, deathSet := false, action := 3 }
/-- A search group of bank 0. -/
def tGroup : TcamGroup := { multi := false, width := 0, banks := 1, prio := [], segs := [(0, 20)] }
/-- An entry that matches everything. -/
def tTcam : TcamEnt :=
  { width := 0, key := List.replicate 20 0, mask := List.replicate 20 0, birth := 1, death := 0, deathSet := false, action := 0 }
/-- Arrays with one parse state, which ends the parse, and no default action. -/
def tArrays : Arrays := { states := [(0, [0, 0, 0, 0x81000000, 0, 0, 0, 0])], except := List.replicate 15 0 ++ [0xFFFFF] }
/-- An outbound MACsec SA. -/
def tSa : Sa :=
  { key := List.replicate 32 0, salt := List.replicate 12 0, ssci := 0, sci := 0, pn := 1, threshold := 0, spi := 0, flags := 3, conf := 0
    includeSci := false, outerKeep := false, pin := false, an := 0, group := 0, port := 0, windowBits := 0, counter := 0, countEn := false
    serial := 1, udpSrc := 0, udpDst := 0 }
/-- The key of RFC 3394 4.3. -/
def kek : Bytes := (List.range 32).map by8
/-- SA_INSTALL of an outbound MACsec SA under that key, its key wrapped as RFC 3394 4.3 lists. -/
def install : List Nat :=
  [1, 0, 0, 0, 0, 0, 1, 0, 0, 0, 0, 0, 0, 0, 0, 1]
    ++ (bytesWords (beBytes 24 0x64E8C3F9CE0F5BA263E9777905818A2A93C8191E7D6E8AE7)).map (·.toNat) ++ [0, 0, 0, 0]
/-- The base point of P-384. -/
def generatorX : Nat := 0xaa87ca22be8b05378eb1c71ef320ad746e1d3b628ba79b9859f741e082542a385502f25dbf55296c3a545e3872760ab7
/-- Its y coordinate. -/
def generatorY : Nat := 0x3617de4a96262c6f5d9e98bf9292dc29f8f41dbd289a147ce9da3113b5f0b8c00a60b1ce1d7e819d7a431d7c90ea0e5f
/-- The base point as command words. -/
def generator : List Nat := (bytesWords (beBytes 48 generatorX ++ beBytes 48 generatorY)).map (·.toNat)
/-- The record of tSa, sealed as the first of its boot under a key of 32 bytes of 1 (R308). -/
def tRecord : Bytes :=
  beBytes 64 0x0100000000000000b46a46c0a295add793884038a750d52148b70d6564198bf4d5a8e11e4251c865844abc527de47097539ff33c1039483bb7028e1e887bc2e4
    ++ beBytes 64 0xdda16d3607d0f538bd84624d05e971cc97571ed13a58ddf67633cc8c2ecb8a67e5d2ff55481fd731aa38e8774e3164494c5cb38e82358d54961618d699672264
    ++ beBytes 64 0x4306053ee875b23c68b286f5fb461b883df1b36185d0398357a0c09c64d73e3e749aa6b38697aa67619ae1d51ae6469d730aef4f5829820c1caac79644ee8a38
    ++ beBytes 64 0x4c8f40d5c4b1d44cbc238e9215c742622241bfc63caccbb9f5e425348f7fe94ac593d81603acde3676722de493755c7574980cd402d7a95bccb92ecdfdb280f6
/-- An SA whose context lives in its DDR5 record. -/
def spilled (s : State) : State :=
  ((memory s).ddrM fun d => { d with mem := ((List.range 256).zip tRecord).filter fun e => e.2 != 0 }).cipM fun k => { k with
    sealKey := some (List.replicate 32 1), sealCount := 1, spillEnable := true
    sas := [(0, { ctx := none, outbound := true, esp := false, group := 0, replay := false, generation := 1 })] }
/-- A paired and enrolled partner. -/
def partner (s : State) : State := s.twinM fun t => { t with st := .paired, linkUp := true, keys := some ([], []) }

/-- A binding of SA 0. -/
def tBind : Binding := { sa := 0, valid := true, group := 0, esp := false, tunnel := false, udp := false, generation := 0 }
/-- Mailbox i in a state, its first message word given. -/
def posted (i : Nat) (st : MbxState) (w : Nat) (s : State) : State :=
  s.mbxM fun l => updAt l i fun b => { b with state := st, msg := [wd w] }
/-- A packet. -/
def tPkt : Pkt := { bytes := [], rxLen := 64, source := 0, origin := 0 }
/-- Its copy to port 0, queue 0. -/
def tCopy : Copy := { bytes := List.replicate 60 0, port := 0, queue := 0, pkt := tPkt }
/-- That copy in a queue. -/
def tEnt : QEnt := { copy := tCopy, col := 0, unit := 0, owner := 0, pool := 0, len := 64, trunc := false, at_ := 0 }
/-- A reply without data. -/
def tReply : Reply := { path := .ring 0, opcode := 0, status := .ok, tag := 5, detail := 0, time := 0, data := [] }
/-- A one-step Sync of clock 0, port 0, sequenceId 0. -/
def tPtp : Bytes := List.replicate 44 0
/-- A transmit descriptor of 64 bytes, whole. -/
def tDesc : Bytes := [0, 0, 0, 0, 0, 0, 0, 0, 64, 0, 3, 0, 0, 0, 0, 0]
/-- Command ring 1 holds one slot, and the reply ring has room. -/
def fetching (s : State) : State :=
  (s.hifM fun x => { x with bme := true, ready := true }).ringM 4 (fun g => { g with enable := true, active := true, slots := 1024 })
    |>.ringM 1 fun g => { g with enable := true, active := true, slots := 1024, host := 1 }
/-- A fragment-table entry with its last use and creation at these times before a record time past every limit. -/
def aged (i use now : Nat) : State :=
  ((inMode .forward).fragM fun f => { f with table := [(i, { v6 := false, key := [], epoch := 1, slot := 0, created := 0, lastUse := use })] }).timeM
    fun t => { t with record := { t := now } }
/-- A frame stands in a queue of node 66, which is enabled. -/
def twinQueued : State :=
  (((inMode .forward).twinM fun t => { t with st := .paired, hairpin := true, partnerHairpin := true, credits := 1000 }).cportM 66
    fun x => { x with egress := .enabled }).schedM fun k => { k with
      groups := [(3, { en := true, port := 66, quantum := 1000 })]
      queues := [(7, { en := true, group := 3, quantum := 1000, q := [{ tEnt with copy := { tCopy with port := 66, queue := 7 } }] })] }
/-- A queue of node 64 waits for descriptors of receive ring 3. -/
def stalling : State :=
  (((inMode .forward).hstM fun h => { h with rx := [(3, { size := 4, bufSize := 2048 })] }).cportM 64 fun x => { x with egress := .enabled }).schedM
    fun k => { k with
      groups := [(3, { en := true, port := 64, quantum := 1000 })]
      queues := [(0, { en := true, group := 3, quantum := 1000, q := [{ tEnt with copy := { tCopy with port := 64 } }] })] }
/-- A partner's HELLO whose identity key is the base point. -/
def tHello : Bytes := List.replicate 12 0 ++ beBytes 48 generatorX ++ beBytes 48 generatorY
/-- Its signature of the transcript with the secret number 1, worked out by hand from FIPS 186-5. -/
def tProof : Bytes := beBytes 48 generatorX ++ beBytes 48 0xde7e5eca22248710eb112f8f0d37fa24bbd176ec733285782b3ba7472e5053e460918cb3860ee645a0d0e7bcb6abf59

/-! ## What a command answers -/

/-- The state a command leaves meets a condition. -/
def after (c : Instr) (s : State) (f : State → Bool) : Bool :=
  match exec c s with
  | .next t => f t
  | _ => false

/-- The replies a command makes on the tunnel. -/
def answers (c : Instr) (s : State) : List (Status × Nat × List Word) :=
  match exec c s with
  | .next t => t.out.filterMap fun o => match o with
    | .tunnelReply r => some (r.status, r.detail, r.data)
    | _ => none
  | _ => []

/-- What a command of the table answers when it starts in a state. -/
def replies (op : Nat) (f : Packet → Instr) (p : Packet) (g : State → State) : List (Status × Nat × List Word) :=
  answers (f p) (g (started op p))

/-! ## Refused operands: one ill-formed term for each check -/

theorem test_ill_formed_packets :
    wellFormed (.nop { pk 0 0 [] with plen := 1 }) = false ∧ wellFormed (.nop { pk 0 0 [] with path := .ring 4 }) = false ∧
    wellFormed (.commandFetch [{ ring := 4, bytes := List.replicate 64 0#8 }]) = false ∧
    wellFormed (.commandFetch [{ ring := 3, bytes := List.replicate 63 0#8 }]) = false ∧
    wellFormed (.nop (pk 0 0 [])) = true ∧ wellFormed (.commandFetch [{ ring := 3, bytes := List.replicate 64 0#8 }]) = true := by decide

theorem test_ill_formed_mailboxes :
    wellFormed (.mbxNop 16) = false ∧ wellFormed (.ringRescan 16) = false ∧ wellFormed (.holdHost 16) = false ∧ wellFormed (.hostRelease 16) = false ∧
    wellFormed (.mbxMsg 16 0 0 1) = false ∧ wellFormed (.mbxMsg 0 12 0 1) = false ∧ wellFormed (.mbxMsg 0 0 0 4) = false ∧
    wellFormed (.send 16 1) = false ∧ wellFormed (.send 0 4) = false ∧ wellFormed (.withdraw 16 1 false) = false ∧ wellFormed (.withdraw 0 4 false) = false ∧
    wellFormed (.release 16 1) = false ∧ wellFormed (.release 0 4) = false ∧ wellFormed (.accept 16 1) = false ∧ wellFormed (.accept 0 4) = false ∧
    wellFormed (.mbxAck 16 0 1) = false ∧ wellFormed (.mbxAck 0 0 4) = false ∧ wellFormed (.mbxMsg 15 11 0 3) = true := by decide

theorem test_ill_formed_locks_and_smbus :
    wellFormed (.lockAcquire 32 [0]) = false ∧ wellFormed (.lockAcquire 0 [4]) = false ∧ wellFormed (.lockRelease 32 1) = false ∧
    wellFormed (.lockRelease 0 4) = false ∧ wellFormed (.force 32 1) = false ∧ wellFormed (.force 0 4) = false ∧
    wellFormed (.smbusLockAcquire 32) = false ∧ wellFormed (.smbusLockRelease 32 1 true) = false ∧
    wellFormed (.tunnelWrite (List.replicate 256 0) true) = false ∧ wellFormed (.bookSelect (List.replicate 256 0) true) = false ∧
    wellFormed (.lockAcquire 31 [0, 3]) = true := by decide +kernel

theorem test_ill_formed_registers :
    wellFormed (.hifDb 6 0) = false ∧ wellFormed (.hifTxdb 16 0) = false ∧ wellFormed (.hifRxdb 16 0) = false ∧ wellFormed (.ringEnable 6 0) = false ∧
    wellFormed (.ringDisable 6 0) = false ∧ wellFormed (.irqMaskWrite 65536 0) = false ∧ wellFormed (.registerWrite 65536 0) = false ∧
    wellFormed (.bar0BadAccess 65536 4 true) = false ∧ wellFormed (.holdoffExpire 40) = false ∧ wellFormed (.dmaError 48) = false ∧
    wellFormed (.dmaError 6) = false ∧ wellFormed (.dmaError 47) = true ∧ wellFormed (.hifDb 5 0) = true := by decide

theorem test_ill_formed_vintner_and_power :
    wellFormed (.machineCheck 16384 0 0 0 0) = false ∧ wellFormed (.machineCheck 0 0 8 0 0) = false ∧ wellFormed (.machineCheck 0 0 0 4096 0) = false ∧
    wellFormed (.machineCheck 0 0 0 0 65536) = false ∧ wellFormed (.machineCheck 0 0 0xFF 0 0) = true ∧ wellFormed (.auxVinUp true 4) = false ∧
    wellFormed (.bootComplete (some (6, 0)) []) = false ∧ wellFormed (.bootComplete (some (0, 0)) []) = false ∧
    wellFormed (.ownInAssert [64]) = false ∧ wellFormed (.dozeEntry 33 [] false) = false ∧ wellFormed (.deepEntry 33 [] false) = false ∧
    wellFormed (.wakeComplete 33 0) = false ∧ wellFormed (.testAccessPort 4 true true) = false ∧ wellFormed (.msixVectorUnmask (some 64)) = false := by decide

theorem test_ill_formed_ports :
    wellFormed (.linkUp 64) = false ∧ wellFormed (.linkDown 64 1 none false false) = false ∧ wellFormed (.linkDown 0 0 none false false) = false ∧
    wellFormed (.linkDown 0 6 none false false) = false ∧ wellFormed (.linkDown 0 1 (some 68) false false) = false ∧
    wellFormed (.frameReceive 64 [] (0, 0)) = false ∧ wellFormed (.pauseRefresh 64) = false ∧ wellFormed (.pauseReceive 64 0) = false ∧
    wellFormed (.pauseReceive 0 65536) = false ∧ wellFormed (.pfcReceive 64 0 (List.replicate 8 0)) = false ∧
    wellFormed (.pfcReceive 0 256 (List.replicate 8 0)) = false ∧ wellFormed (.pfcReceive 0 1 [0]) = false ∧
    wellFormed (.pfcReceive 0 1 (List.replicate 8 65536)) = false ∧ wellFormed (.pauseExpire 64 none) = false ∧
    wellFormed (.pauseExpire 0 (some 8)) = false ∧ wellFormed (.pauseStormTrip 64) = false ∧ wellFormed (.pauseStormClear 64) = false ∧
    wellFormed (.ppsInEdge 2) = false ∧ wellFormed (.pulseEdge 4) = false ∧ wellFormed (.frameTransmit 64) = false ∧
    wellFormed (.gateBoundary 64) = false ∧ wellFormed (.gateListSwitch 64) = false := by decide

theorem test_ill_formed_forwarding :
    wellFormed (.ingressCipher 8) = false ∧ wellFormed (.saFetchDone 4194304) = false ∧ wellFormed (.slicePass 8) = false ∧
    wellFormed (.sliceTimeout 8) = false ∧ wellFormed (.reorderRelease 11) = false ∧ wellFormed (.residueWrite 11 0) = false ∧
    wellFormed (.residueWrite 0 11) = false ∧ wellFormed (.residueAged 11 0) = false ∧ wellFormed (.residueAged 0 11) = false ∧
    wellFormed (.poolRebuild 11 0) = false ∧ wellFormed (.poolRebuild 0 4) = false ∧ wellFormed (.selection 67) = false ∧
    wellFormed (.shaperRefill 3 0) = false ∧ wellFormed (.egressCipher 8) = false ∧ wellFormed (.flushMarkersPassed 67) = false ∧
    wellFormed (.hostTxFetch 16 []) = false ∧ wellFormed (.hostTxFetch 0 [([], [])]) = false ∧ wellFormed (.hostRingStalled 16) = false ∧
    wellFormed (.cipherKat 8 none) = false ∧ wellFormed (.cipherKat 0 (some 2)) = false ∧ wellFormed (.flushComplete 67) = false := by decide

theorem test_ill_formed_twin_and_time :
    wellFormed (.trellisFrame (2 ^ 64) 0 true true) = false ∧ wellFormed (.mbx 16 []) = false ∧ wellFormed (.mbx 12 (List.replicate 13 0)) = false ∧
    wellFormed (.mbxState 16 0 0 0) = false ∧ wellFormed (.mbxState 12 8 0 0) = false ∧ wellFormed (.mbxState 12 0 65536 0) = false ∧
    wellFormed (.lockReq 32 0) = false ∧ wellFormed (.lockReq 0 2) = false ∧ wellFormed (.lockResult 32 0 0 0) = false ∧
    wellFormed (.lockResult 0 2 0 0) = false ∧ wellFormed (.lockResult 0 0 4 0) = false ∧ wellFormed (.lockResult 0 0 0 4) = false ∧
    wellFormed (.ptpSync 2 0 [] 0) = false ∧ wellFormed (.ptpSync 0 64 [] 0) = false ∧ wellFormed (.followUp 2 0 []) = false ∧
    wellFormed (.followUp 0 64 []) = false ∧ wellFormed (.delayResp 2 0 []) = false ∧ wellFormed (.delayResp 0 64 []) = false ∧
    wellFormed (.pdelayResp 2 0 [] 0) = false ∧ wellFormed (.pdelayResp 0 64 [] 0) = false ∧ wellFormed (.pdelayRespFollowUp 2 0 []) = false ∧
    wellFormed (.pdelayRespFollowUp 0 64 []) = false ∧ wellFormed (.holdover 2) = false := by decide

theorem test_ill_formed_memory :
    wellFormed (.refreshDue 4 0 false) = false ∧ wellFormed (.refreshDue 0 2 false) = false ∧ wellFormed (.refreshMakeup 4 0 0) = false ∧
    wellFormed (.refreshMakeup 0 2 0) = false ∧ wellFormed (.refreshMakeup 0 0 9) = false ∧ wellFormed (.driftTrack 4 []) = false ∧
    wellFormed (.powerDownEntry 4 0 false) = false ∧ wellFormed (.powerDownEntry 0 2 false) = false ∧
    wellFormed (.ddrThermalRead [0, 0, 0, 0, 0]) = false ∧ wellFormed (.trainingDone 16) = false := by decide

/-! ## Published vectors of the algorithms the manual names -/

/-- FIPS 180-4, SHA-384 of "abc". -/
theorem test_sha384 :
    beNat (Sha.sha384 [0x61, 0x62, 0x63]) =
      0xcb00753f45a35e8bb5a03d699ac65007272c32ab0eded1631a8b605a43ff5bed8086072ba1e7cc2358baeca134c825a7 := by decide +kernel

/-- FIPS 197 appendix C.1 and C.3. -/
theorem test_aes :
    Aes.beL (Aes.encWith (Aes.schedule (List.range 16)) (Aes.nums (beBytes 16 0x00112233445566778899aabbccddeeff))) = 0x69c4e0d86a7b0430d8cdb78070b4c55a ∧
    Aes.beL (Aes.encWith (Aes.schedule (List.range 32)) (Aes.nums (beBytes 16 0x00112233445566778899aabbccddeeff))) = 0x8ea2b7ca516745bfeafc49904b496089 := by
  decide +kernel

/-- The published check values over the nine digits; CRC-32C here has no final XOR (R174). -/
theorem test_crc : crc32cF ((List.range 9).map fun i => by8 (0x31 + i)) = 0xE3069283 ^^^ 0xFFFFFFFF ∧ fcs32 ((List.range 9).map fun i => by8 (0x31 + i)) = 0xCBF43926 := by
  decide +kernel

/-! ## Worked examples of the manual -/

/-- Chapter 4: KWK_ESTABLISH takes 3 slots, a SYNC_SUMMARY reply 128, a KWK_ESTABLISH reply of 4 words one. -/
theorem test_slots :
    (pk 0 0 (List.replicate 32 0)).slots = 3 ∧ ({ tReply with data := List.replicate 2044 0 } : Reply).slots = 128 ∧
    ({ tReply with data := List.replicate 4 0 } : Reply).slots = 1 := by decide +kernel

/-- Chapter 6: the words of the default graph's IPv4 state. -/
theorem test_default_ipv4_state :
    (Tbl.look defaultStates 10).map (·.map (·.toNat)) =
      some [0x00000704, 0x00100F00, 0x00FF0109, 0x81001440, 0x001B0101, 0x001A0109, 0x002C040C, 0x003C0410] := by decide +kernel

/-- Chapter 7: slots of the exact-match example. -/
theorem test_exact_slots :
    let d : EmDef := { wide := false, keyLen := 13, base := 16, k := 2, seed0 := 0, seed1 := 0, segs := [(44, 4), (60, 4), (26, 1), (28, 4)] }
    d.buckets = 4096 ∧ d.slots = 16384 ∧ d.slot 0x0A41 2 = 76038 ∧ d.slot 0x03C2 1 = 0x10F09 ∧ d.slot 0x0F07 0 = 0x13C1C ∧ d.bucketOf 76038 = 0x0A41 := by
  decide +kernel

/-- Chapter 8: death 0x7F31 is not visible at 0x7F31, birth 0x7F2E is. -/
theorem test_visible :
    before 0x7F31 0x7F31 = false ∧ visible 0x7F00 0x7F31 true 0x7F31 = false ∧ visible 0x7F2E 0 false 0x7F31 = true ∧ nextEpoch 0xFFFF = 1 := by decide

/-- The meter of the actions example, its buckets full. -/
def tMeter : State :=
  (inMode .forward).actM fun a => { a with
    mprofiles := [(7, [0, 2000000, 4000000, 3036, 6072])]
    meters := [(0x210, { enable := true, profile := 7, cb := 256 * 3036, pb := 256 * 6072, clock := 0 })] }

/-- The colours of 1,518-byte frames at these core clocks. -/
def colours : List Nat → State → List Nat
  | [], _ => []
  | c :: r, s =>
    let x := { s with time := { s.time with core := c } }.meterUpdate 0x210 1518 false
    x.1 :: colours r x.2.2

/-- Chapter 10: frames every 123.04 ns are green, green, yellow, yellow and red. -/
theorem test_meter : colours [0, 197, 394, 591, 787] tMeter = [0, 0, 1, 1, 2] := by decide +kernel

/-- Chapter 11: 1,518 bytes leave as 1,550 with the SCI. -/
theorem test_growth : Copy.growthBy { tCopy with intent := 1 } true false = 32 ∧ Copy.growthBy { tCopy with intent := 1 } false false = 24 := by decide +kernel

/-- Chapter 14: k is 6 at a bound of 1,000 ns and 7 at 1,200 ns. -/
def tAdaptive (bound : Nat) : State :=
  let q (n : Nat) : FQueue := { en := true, group := 0x120, quantum := n, q := [tEnt] }
  (inMode .forward).schedM fun k => { k with
    groups := [(0x120, { en := true, adaptive := true, port := 17, cls := 3, bound := bound, mean := 1570 * 65536 })]
    queues := [(0x1204, q 256), (0x1205, q 512), (0x1206, q 1024)] }

theorem test_adaptive_quantum :
    ((adaptiveQuantum 0x120 (tAdaptive 1000)).sgrp 0x120).kNext = 6 ∧
    ((adaptiveQuantum 0x120 (tAdaptive 1200)).sgrp 0x120).kNext = 7 := by decide +kernel

/-- Chapter 16: 64,000 bytes at an mss of 1,448 make 45 frames; a frame of 9,000 bytes takes five descriptors of 2,048. -/
theorem test_descriptors :
    ceilDiv 64000 1448 = 45 ∧ ceilDiv 9000 2048 = 5 := by decide

/-- Chapter 18: one flipped bit among bits 63:48 of a good word shows as PERR 0x08. -/
theorem test_parity : perrOf (BitVec.ofNat 136 (2 ^ 48)) = perrOf 0 ^^^ 0x08 := by decide +kernel
/-- Chapters 5 and 19: eight 100GbE ports get 448 cells each, one 800GbE port 4,032. -/
theorem test_default_shares :
    layoutPorts 0 1#32 = [0] ∧ layoutPorts 0 0x1E#32 = List.range 8 ∧ (lbDefault 1#32 0).share = 4032 ∧ (lbDefault 0x1E#32 3).share = 448 := by decide

/-- PAUSE goes to 01-80-C2-00-00-01 with type 0x8808 and opcode 1, 60 bytes before its FCS. -/
theorem test_pause_frame :
    (macControl [] (beBytes 2 1 ++ beBytes 2 0xFFFF)).length = 60 ∧ beAt (macControl (List.replicate 6 0) (beBytes 2 1 ++ beBytes 2 0xFFFF)) 0 18 =
      0x0180C200000100000000000088080001FFFF := by decide +kernel

/-! ## Single steps -/

/-- R89, R101: NOP is silent, or answers OK with REPLY_ALWAYS; an object_id other than zero answers BAD_PARAM at offset 8. -/
theorem test_nop :
    replies 0x0000 .nop (pk 0 0 []) id = [] ∧ replies 0x0000 .nop { pk 0 0 [] with flags := 1 } id = [(.ok, 0, [])] ∧
    replies 0x0000 .nop (pk 1 0 []) id = [(.badParam, 8, [])] := by decide +kernel

/-- R103: MODE_SET to FORWARD changes the mode with cause MODE_SET. -/
theorem test_mode_set : after (.modeSet (pk 0 0 [4])) (started 0x0003 (pk 0 0 [4])) (fun t => t.mode.mode == .forward && t.mode.prev == .config) = true := by
  decide +kernel

/-- R71, R72: the host's read of a free lock answers 1 and master 1; of a lock the Vintner holds, 2 and master 0. -/
theorem test_lock :
    after (.lockAcquire 5 [1]) (inMode .config) (fun t => t.out == [.readData 0x101] && nth t.locks 5 none == some 1) = true ∧
    after (.lockAcquire 5 [1]) ((inMode .config).locksM fun l => updAt l 5 fun _ => some 0) (fun t => t.out == [.readData 2]) = true := by decide +kernel

/-- R64: SEND posts a mailbox; the Vintner's answer to NOP leaves it ACKED with code 0 and its cause bit set. -/
theorem test_mailbox :
    after (.send 2 1) (inMode .config) (fun t => (nth t.mbx 2 {}).state == .posted) = true ∧
    after (.mbxNop 2) (posted 2 .posted 0 (inMode .config))
      (fun t => (nth t.mbx 2 {}).state == .acked && (nth t.mbx 2 {}).ack == 0 && t.hif.mbxCause == 4) = true := by decide +kernel

/-- R50: a doorbell of five slots for a ring of four sets DB_ERR and HIF_ERR.DOORBELL. -/
theorem test_doorbell :
    after (.hifDb 0 5) ((inMode .config).ringM 0 fun g => { g with slots := 4 }) (fun t => (t.ring 0).dbErr && t.hif.err == 1 && (t.ring 0).host == 0) = true ∧
    after (.hifDb 0 4) ((inMode .config).ringM 0 fun g => { g with slots := 4 }) (fun t => !(t.ring 0).dbErr && (t.ring 0).host == 4) = true := by
  decide +kernel

/-- Chapter 3's example: a machine check halts the Vintner at the word's address, and alerts. -/
theorem test_machine_check :
    after (.machineCheck 0x2A17 1 3 0 0) (inMode .config) (fun t => t.vnt.haltedMc && !t.vnt.running && t.vnt.haltAddr == 0x2A17 && t.vnt.mcCount == 1) = true := by
  decide +kernel

/-- R28: BOOT completes into CONFIG with the Vintner running. -/
theorem test_boot : after (.bootComplete none []) State.reset (fun t => t.mode.mode == .config && t.mode.prev == .boot && t.vnt.running) = true := by decide +kernel

/-- R25, R509: losing PG_IN goes to DORMANT. -/
theorem test_power_lost : after .pgInLost (inMode .forward) (fun t => t.mode.mode == .dormant) = true := by decide +kernel

/-- R182: of 10.0.0.0/8 and a default route, the search answers the longer. -/
theorem test_prefix :
    let s := (inMode .config).lookupM fun l => { l with pfx := [{ tPfx with len := 0, addr := 0, action := 9 }, tPfx] }
    (s.pfxFind 0 false 0x0A010203 5).map (·.action) = some 3 ∧ (s.pfxFind 0 false 0x0B010203 5).map (·.action) = some 9 ∧
    s.pfxFind 1 false 0x0A010203 5 = none ∧ s.pfxFind 0 true 0x0A010203 5 = none := by decide +kernel

/-- Two's-complement rates and saturation: a counter of 32 bits stays at its largest value. -/
theorem test_saturates : sat32 4294967295 = 4294967295 ∧ sat32 4294967294 = 4294967295 := by decide

/-- R622: five clocks with TMS high reach Test-Logic-Reset from any state. -/
theorem test_tap :
    after (.testAccessPort 0 true false) { inMode .config with tap := { st := .selectIr, trstN := true } } (fun t => t.tap.st == .reset) = true := by decide +kernel

/-- R42, R43: a configuration read finds vendor 0x1F3A and device 0x0960 from CONFIG on, and Retry Status in BOOT. -/
theorem test_pcie :
    (inMode .config).cfgRead 0 = .data 0x09601F3A ∧ State.cfgRead (inMode .boot) 0 = .retry ∧
    State.cfgRead ((inMode .config).pinsM fun p => { p with pcieUp := false }) 0 = .silent := by decide +kernel

/-! ## States and operands that meet the hypotheses of the statements -/

theorem test_witness_EmptyQueueIsOneClock : (inMode .config).pending = [] ∧ (inMode .off).mode.mode = .off ∧ (inMode .off).pending = [] := by decide

/-- The Vintner is halted: mailbox 0 waits with reason 3, and a message to the host stands in mailbox 8. -/
def waitingState : State :=
  posted 8 .posted 0 (((inMode .config).vntM fun v => { v with running := false, haltedMc := true }).mbxM fun l =>
    updAt l 0 fun b => { b with state := .waiting, reason := 3 })

theorem test_witness_MailboxesAgreeAlways :
    Safety.mailboxes waitingState ∧ waitingState.mode.mode ≠ .off ∧ (nth waitingState.mbx 0 {}).state = .waiting ∧
    (nth waitingState.mbx 8 {}).state = .posted ∧ (∃ t, step waitingState = .next t) :=
  ⟨fun _ => by decide +kernel, by decide, by decide, by decide, ⟨_, rfl⟩⟩

theorem test_witness_EventsTakeTheNextNumber :
    (nth (inMode .config).hif.rings 5 {}).active = false ∧ (nth ((inMode .config).ringM 5 fun g => { g with active := true }).hif.rings 5 {}).active = true := by
  decide

theorem test_witness_SettledStatesStay :
    let s := (inMode .config).cipM fun k => { k with sas := [(0, { ctx := some tSa, outbound := true, esp := false, group := 0, replay := false })] }
    s.flt.due = [] ∧ s.cip.sas ≠ [] ∧ (∀ e ∈ s.cip.sas, e.2.retiring = false) ∧ s.core.cols ≠ [] ∧ ∀ k ∈ s.core.cols, k.carve = none := by decide +kernel

theorem test_witness_StoresWriteTheirOwnBytes :
    Mem.read ((inMode .config).ddrStore 5 [7]).ddr.mem 5 = 7 ∧ Mem.read ((inMode .config).ddrStore 5 [7]).ddr.mem 6 = 0 ∧
    ((inMode .config).chan ((inMode .config).ddr.chanOf 5)).st ≠ .failed ∧
    (((inMode .config).chanM 0 fun c => { c with st := .failed }).chan (State.ddr ((inMode .config).chanM 0 fun c => { c with st := .failed }) |>.chanOf 5)).st = .failed := by
  decide +kernel

theorem test_witness_RecordsAreLaidOut :
    (List.replicate 224 (0 : Byte)).length ≤ 224 ∧ (inMode .config).book.queue ≠ [] ∧ (inMode .config).book.clearing = false ∧ (inMode .config).mode.mode ≠ .off ∧
    (State.bookM (inMode .config) fun b => { b with clearing := true }).book.clearing = true := by decide +kernel

theorem test_witness_DoorbellsStayWithinTheRing :
    let s := (inMode .config).ringM 0 fun g => { g with slots := 4 }
    s.barUp = true ∧ (5 : Nat) < 6 ∧ (s.ring 0).slots = 4 ∧ 0 < s.hif.rings.length ∧ ¬ ((5 : Int) - (s.ring 0).engine) % 65536 ≤ (s.ring 0).slots := by decide

theorem test_witness_BadAccessesReadZero :
    (inMode .config).barUp = true ∧ regListed 0 = true ∧ regListed (2 / 4 * 4) = true ∧ regListed 0xFFFC = false := by decide +kernel

theorem test_witness_WritesReachTheirRegister : regListed 0xFFFC = false ∧ regListed 0x100 = true ∧ regListed 0x114 = true := by decide +kernel

/-- Capture inputs at the boundaries: an edge 100 ns less one unit ago, one 100 ns ago, a FIFO with 15 entries and one with 16. -/
theorem test_witness_CapturesKeepSixteenEdges :
    let at_ (t : Nat) (n : Nat) : State := (inMode .config).timeM fun x => { x with
      record := { t := t }, caps := [{ fifo := List.replicate n (0, 0), last := some 0 }, {}] }
    after (.ppsInEdge 0) (at_ 6553599 15) (fun t => (nth t.time.caps 0 {}).fifo.length == 15) = true ∧
    after (.ppsInEdge 0) (at_ 6553600 15) (fun t => (nth t.time.caps 0 {}).fifo.length == 16 && !(nth t.time.caps 0 {}).overflow) = true ∧
    after (.ppsInEdge 0) (at_ 6553600 16) (fun t => (nth t.time.caps 0 {}).fifo.length == 16 && (nth t.time.caps 0 {}).overflow) = true ∧
    (pk 1 0 []).obj < 2 := by decide +kernel

theorem test_witness_StampsKeepTheNewestSixteen :
    let at_ (n : Nat) : State := (inMode .config).ptpPortM 3 fun q => { q with desig := true, fifo := List.replicate n (0, 0, 0, 0) }
    ((at_ 15).ptpPort 3).fifo.length < 16 ∧ 16 ≤ ((at_ 16).ptpPort 3).fifo.length ∧ ((at_ 16).postStamp 3 tPtp 9).ptpPort 3 = { desig := true, fifo := List.replicate 15 (0, 0, 0, 0) ++ [(0, 0, 0, 9)], overflow := true } ∧
    (at_ 16).hasPort (pk 3 0 []).obj = true ∧ ((at_ 16).ptpPort (pk 3 0 []).obj).desig = true := by decide +kernel

theorem test_witness_LocksFollowTheTable :
    31 < (inMode .config).locks.length ∧ (inMode .config).barUp = true ∧ (inMode .config).masterUp 3 = false ∧
    (partner (inMode .config)).masterUp 3 = true ∧ (inMode .config).masterUp 0 = true ∧ (inMode .config).masterUp 2 = true ∧
    nth (inMode .config).locks 31 none = none ∧ nth ((inMode .config).locksM fun l => updAt l 31 fun _ => some 3).locks 31 none = some 3 := by decide

theorem test_witness_ModeChangesAreReported : (255 : Nat) < 256 ∧ Mode.forward.isUp = true := by decide

theorem test_witness_FirstFaultsAreCaptured :
    faultClass 0x41 ≠ none ∧ (Tbl.lookD (inMode .config).flt.src 0x41 {}).capture = none ∧
    (Tbl.lookD ((inMode .config).fault 0x41 0 0 0 0).flt.src 0x41 {}).capture.isSome = true := by decide +kernel

/-! ## A state and operands that meet each clause of the statements of completion

One theorem for each statement: every condition `Ready.x` holds of a concrete packet, or of concrete operands, and a small state. A clause that also names a value which its condition says exists has it in that state. -/

theorem test_witness_SystemCommandsRun :
    (ok Ready.nop 0x0000 (pk 0 0 []) id && ok Ready.syncSummary 0x0001 (pk 0 0 []) id && ok Ready.deviceIdentity 0x0002 (pk 0 0 (List.replicate 8 0)) id
    && ok Ready.modeSet 0x0003 (pk 0 0 [4]) id && ok Ready.cfgBatchBegin 0x0004 (pk 0 0 []) id
    && ok Ready.cfgBatchEnd 0x0005 (pk 0 0 [1]) (fun s => s.cmdsM fun k => { k with batchOpen := true })
    && ok Ready.cfgBatchEnd2 0x0005 (pk 0 0 [0]) (fun s => s.cmdsM fun k => { k with batchOpen := true }) && ok Ready.kwkEstablish 0x0006 (pk 0 0 (generator ++ List.replicate 8 0)) id) = true := by decide +kernel

theorem test_witness_PortCommandsRun :
    (ok Ready.portLayoutSet 0x0100 (pk 0 0 [30]) id && ok Ready.portSet 0x0101 (pk 0 0 [0, 1518, 0, 0]) id && ok Ready.portStatus 0x0102 (pk 0 0 []) id
    && ok Ready.lbPortSet 0x0120 (pk 0 0 [128, 64, 0, 65538]) id && ok Ready.lbStatus 0x0121 (pk 0 0 []) id) = true := by decide +kernel

theorem test_witness_ParseCommandsRun :
    (ok Ready.parseInfo 0x0200 (pk 0 0 []) id && ok Ready.parseStateSet 0x0201 (pk 0 1 (List.replicate 8 0)) (opened ({})) && ok Ready.parseTransSet 0x0202 (pk 0 1 [0, 0]) (opened ({}))
    && ok Ready.parseExceptSet 0x0203 (pk 0 1 (List.replicate 16 0)) (opened ({})) && ok Ready.parseDefaultLoad 0x0204 (pk 0 1 []) (opened ({}))
    && ok Ready.parseRead 0x0205 (pk 0 0 [0]) id && ok Ready.fragConfig 0x0210 (pk 0 0 [0, 0, 0]) id && ok Ready.fragStatus 0x0211 (pk 0 0 []) id) = true := by decide +kernel

theorem test_witness_LookupCommandsRun :
    (ok Ready.emTableDefine 0x0300 (pk 0 1 (List.replicate 8 0)) (opened ({ em := [(0, tEm)] })) && ok Ready.emTableDefine2 0x0300 (pk 0 1 [1025, 0, 1, 2, 1024, 0, 0, 0]) (opened ({}))
    && ok Ready.emInsert 0x0301 (pk 0 1 [0, 7, 0, 0, 0]) (opened ({ em := [(0, tEm)] }))
    && ok Ready.emModify 0x0302 (pk 0 1 [0, 7, 0, 0, 0]) (fun s => (opened ({ em := [(0, tEm)] }) s).lookupM fun l => { l with slots := [(tEm.slot (tEm.cands [7, 0, 0, 0]).1 0, tSlot)] })
    && ok Ready.emDelete 0x0303 (pk 0 1 [7, 0, 0, 0]) (fun s => (opened ({ em := [(0, tEm)] }) s).lookupM fun l => { l with slots := [(tEm.slot (tEm.cands [7, 0, 0, 0]).1 0, tSlot)] })
    && ok Ready.emSearch 0x0304 (pk 0 0 [0, 7, 0, 0, 0]) (current { em := [(0, tEm)] }) && ok Ready.emRead 0x0305 (pk 0 0 []) id && ok Ready.emStatus 0x0306 (pk 0 0 []) id
    && ok Ready.pfxRealmDefine 0x0310 (pk 0 1 [2147483658]) (opened ({})) && ok Ready.pfxAdd 0x0311 (pk 0 1 [8, 5, 10, 0, 0, 0]) (opened ({ realms := [(0, 10)] }))
    && ok Ready.pfxModify 0x0312 (pk 0 1 [8, 5, 10, 0, 0, 0]) (fun s => (opened ({ realms := [(0, 10)] }) s).lookupM fun l => { l with pfx := [tPfx] })
    && ok Ready.pfxDelete 0x0313 (pk 0 1 [8, 0, 10, 0, 0, 0]) (fun s => (opened ({ realms := [(0, 10)] }) s).lookupM fun l => { l with pfx := [tPfx] })
    && ok Ready.pfxSearch 0x0314 (pk 0 0 [0, 10, 0, 0, 0]) (current { realms := [(0, 10)] }) && ok Ready.pfxStatus 0x0316 (pk 0 0 []) id
    && ok Ready.lookupProfileSet 0x0320 (pk 0 1 [0, 0]) (opened ({})) && ok Ready.lookupMapSet 0x0321 (pk 0 1 (List.replicate 16 0)) (opened ({}))) = true := by decide +kernel

theorem test_witness_TcamCommandsRun :
    (ok Ready.tcamBankWidth 0x0400 (pk 0 0 [0]) id && ok Ready.tcamGroupDefine 0x0401 (pk 0 1 (List.replicate 19 0)) (opened ({}))
    && ok Ready.tcamGroupDefine2 0x0401 (pk 0 1 [1, 1, 0, 0, 0, 0, 0, 0, 0, 0, 0, 5120, 0, 0, 0, 0, 0, 0, 0]) (opened ({})) && ok Ready.tcamProfileSet 0x0402 (pk 0 1 [0]) (opened ({}))
    && ok Ready.tcamInsert 0x0403 (pk 0 1 (List.replicate 11 0)) (opened ({}))
    && ok Ready.tcamDelete 0x0404 (pk 0 1 []) (fun s => (opened ({}) s).tcamM fun t => { t with ents := [(0, tTcam)] }) && ok Ready.tcamRead 0x0405 (pk 0 0 []) id
    && ok Ready.tcamSearch 0x0406 (pk 0 0 [0, 0, 1, 0, 0, 0, 0, 0]) (current { groups := [(0, tGroup)] }) && ok Ready.tcamStatus 0x0407 (pk 0 0 []) id) = true := by decide +kernel

theorem test_witness_VintageCommandsRun :
    (ok Ready.vintOpen 0x0500 (pk 0 0 []) id && ok Ready.vintStage 0x0501 (pk 0 1 [16777732, 0, 0, 0]) (opened ({})) && ok Ready.vintCommit 0x0502 (pk 0 1 []) (opened (tArrays))
    && ok Ready.vintCommit2 0x0502 (pk 0 1 []) prepared && ok Ready.vintAbort 0x0503 (pk 0 1 []) (opened ({})) && ok Ready.vintStatus 0x0504 (pk 0 0 []) id
    && ok Ready.vintStatus2 0x0504 (pk 0 1 []) (opened ({})) && ok Ready.vintCommitAt 0x0505 (pk 0 1 [0, 0, 0]) (opened (tArrays))
    && ok Ready.vintCommitAt2 0x0505 (pk 0 1 [0, 0, 0]) prepared) = true := by decide +kernel

theorem test_witness_ActionCommandsRun :
    (ok Ready.actWrite 0x0600 (pk 0 1 [1, 0, 0, 0, 0, 0, 0]) (opened ({}))
    && ok Ready.actDelete 0x0601 (pk 0 1 []) (fun s => (opened ({}) s).actM fun a => { a with acts := [(0, { birth := 1, death := 0, deathSet := false, words := [], refs := 0 })] })
    && ok Ready.actRead 0x0602 (pk 0 0 []) id
    && ok Ready.templateWrite 0x0603 (pk 0 1 [1, 0, 0, 0, 0, 0, 0, 0, 0, 0, 0, 0, 0, 0, 0, 0, 0, 0, 0, 0, 0, 0, 0, 0, 0, 0, 0, 0, 0, 0, 0, 0, 0]) (opened ({}))
    && ok Ready.templateDelete 0x0604 (pk 0 1 []) (fun s => (opened ({}) s).actM fun a => { a with tmpls := [(0, { birth := 1, death := 0, deathSet := false, len := 1, data := [], refs := 0 })] })
    && ok Ready.nexthopWrite 0x0605 (pk 0 1 [1, 0, 0]) (opened ({}))
    && ok Ready.nexthopDelete 0x0606 (pk 0 1 []) (fun s => (opened ({}) s).actM fun a => { a with hops := [(0, { birth := 1, death := 0, deathSet := false, words := [], refs := 0 })] })
    && ok Ready.mirrorSessionSet 0x0607 (pk 0 1 [0, 0, 0, 0, 0]) (fun s => (opened ({}) s).actM fun a => { a with mirrors := [(0, [{ birth := 2 }, {}, {}, {}])] })
    && ok Ready.mirrorSessionSet2 0x0607 (pk 0 1 [0, 0, 0, 0, 0]) (fun s => (opened ({}) s).actM fun a => { a with mirrors := [(0, [{ birth := 1 }, {}, {}, {}])] })
    && ok Ready.mirrorSessionSet3 0x0607 (pk 0 1 [0, 0, 0, 0, 0]) (opened ({})) && ok Ready.bypassClassSet 0x0608 (pk 0 1 [0]) (opened ({}))
    && ok Ready.meterProfileSet 0x0609 (pk 0 0 [0, 0, 0, 64, 64]) id
    && ok Ready.meterSet 0x060A (pk 0 0 [32768]) (fun s => s.actM fun a => { a with mprofiles := [(0, [0, 0, 0, 64, 64])] }) && ok Ready.meterRead 0x060B (pk 0 0 []) id
    && ok Ready.actionConfig 0x060C (pk 0 0 [4294901760]) id && ok Ready.actStatus 0x060D (pk 0 0 []) id && ok Ready.reasonCounts 0x060E (pk 0 0 []) id) = true := by decide +kernel

theorem test_witness_CipherCommandsRun :
    (ok Ready.saInstall 0x0700 (pk 0 0 install) (fun s => s.cmdsM fun k => { k with kwk := some kek, kwkGen := 1 })
    && ok Ready.saRetire 0x0701 (pk 0 0 []) (fun s => s.cipM fun k => { k with sas := [(0, { ctx := some tSa, outbound := true, esp := false, group := 0, replay := false })] })
    && ok Ready.saSwitch 0x0702 (pk 0 0 [2147483648]) id
    && ok Ready.saSwitch2 0x0702 (pk 0 0 [0]) (fun s => s.cipM fun k => { k with sas := [(0, { ctx := some tSa, outbound := true, esp := false, group := 0, replay := false })], bindings := [(0, tBind)] })
    && ok Ready.saSwitch3 0x0702 (pk 0 0 [0]) (fun s => s.cipM fun k => { k with sas := [(0, { ctx := some tSa, outbound := true, esp := false, group := 0, replay := false })] })
    && ok Ready.saRead 0x0703 (pk 0 0 []) (fun s => s.cipM fun k => { k with sas := [(0, { ctx := some tSa, outbound := true, esp := false, group := 0, replay := false })] })
    && ok Ready.saRead2 0x0703 (pk 0 0 []) spilled && ok Ready.saSpillPolicy 0x0704 (pk 2147483648 0 [1, 0, 0]) memory
    && ok Ready.saSpillPolicy2 0x0704 (pk 0 0 [1]) (fun s => s.cipM fun k => { k with sas := [(0, { ctx := some tSa, outbound := true, esp := false, group := 0, replay := false })] })
    && ok Ready.saSpillPolicy3 0x0704 (pk 0 0 [0]) (fun s => s.cipM fun k => { k with sas := [(0, { ctx := some tSa, outbound := true, esp := false, group := 0, replay := false, wasBound := true })] })
    && ok Ready.cipherPortSet 0x0705 (pk 0 0 [0]) (fun s => s.macM fun m => { m with ports := [(0, { cipher := true })] }) && ok Ready.bindingRead 0x0706 (pk 0 0 []) id
    && ok Ready.cipherStatus 0x0707 (pk 0 0 []) id) = true := by decide +kernel

theorem test_witness_CoreCommandsRun :
    (ok Ready.coreXpSet 0x0800 (pk 0 0 [64]) id && ok Ready.coreColumnSet 0x0801 (pk 0 0 [0]) id && ok Ready.coreXpStatus 0x0802 (pk 0 0 []) id
    && ok Ready.coreColumnStatus 0x0803 (pk 0 0 []) id && ok Ready.corePortFlush 0x0804 (pk 0 0 []) id && ok Ready.corePortStatus 0x0805 (pk 0 0 []) id
    && ok Ready.poolCarve 0x0810 (pk 0 0 [0]) id && ok Ready.poolColumnSet 0x0811 (pk 0 0 [0]) id && ok Ready.poolModeSet 0x0812 (pk 0 0 [0]) id
    && ok Ready.poolQuotaSet 0x0813 (pk 0 0 [0, 0, 0, 0]) (fun s => s.coreM fun k => { k with compat := true }) && ok Ready.poolStatus 0x0814 (pk 0 0 []) id
    && ok Ready.poolBufferRead 0x0815 (pk 0 0 []) id && ok Ready.poolQuarantineRelease 0x0816 (pk 0 0 []) id) = true := by decide +kernel

theorem test_witness_SchedulerCommandsRun :
    (ok Ready.schedPortSet 0x0900 (pk 0 0 [0, 4194368, 4194368, 4194368, 4194368, 0, 0]) id && ok Ready.schedGroupSet 0x0901 (pk 0 0 [0, 0, 0, 0, 0]) id
    && ok Ready.schedGroupSet2 0x0901 (pk 0 0 [1, 64, 0, 0, 0]) id && ok Ready.schedQueueSet 0x0902 (pk 0 0 [0, 0, 0, 0]) id
    && ok Ready.schedQueueSet2 0x0902 (pk 0 0 [1, 64, 0, 0]) (fun s => s.schedM fun k => { k with groups := [(0, { en := true })] }) && ok Ready.schedPortStatus 0x0903 (pk 0 0 []) id
    && ok Ready.schedGroupStatus 0x0904 (pk 0 0 []) id && ok Ready.schedQueueStatus 0x0905 (pk 0 0 []) id && ok Ready.schedQueueStats 0x0906 (pk 0 0 []) id
    && ok Ready.schedStatus 0x0907 (pk 0 0 []) id && ok Ready.schedSampleRingSet 0x0908 (pk 0 0 [0, 0, 0]) id && ok Ready.schedSampleRingSet2 0x0908 (pk 0 0 [2561, 0, 0]) memory
    && ok Ready.schedSampleRead 0x0909 (pk 0 0 [0, 0, 1]) (fun s => (memory s).schedM fun k => { k with ringEn := true, ringLog2 := 10 })) = true := by decide +kernel

theorem test_witness_TimeCommandsRun :
    (ok Ready.timeSet 0x0A00 (pk 0 0 [0, 0, 0, 0, 0]) id && ok Ready.timeGet 0x0A01 (pk 0 0 []) id && ok Ready.timeSelect 0x0A02 (pk 0 0 [0, 1]) id
    && ok Ready.ptpDomainSet 0x0A03 (pk 0 0 (List.replicate 10 0)) id
    && ok Ready.ptpDomainSet2 0x0A03 (pk 0 0 [1, 131072, 0, 0, 0, 0, 0, 0, 1, 1]) (fun s => s.timeM fun t => { t with ptpPorts := [(0, { desig := true })] })
    && ok Ready.ptpPortSet 0x0A04 (pk 0 0 [0, 0, 0]) id && ok Ready.ptpStatus 0x0A05 (pk 0 0 []) id
    && ok Ready.ptpTsRead 0x0A06 (pk 0 0 []) (fun s => s.timeM fun t => { t with ptpPorts := [(0, { desig := true })] }) && ok Ready.pulseSet 0x0A10 (pk 0 0 (List.replicate 7 0)) id
    && ok Ready.pulseSet2 0x0A10 (pk 0 0 [1, 10000, 0, 0, 0, 0, 5]) id && ok Ready.captureRead 0x0A11 (pk 0 0 []) id && ok Ready.gateListSet 0x0A20 (pk 0 0 [0, 0, 0, 0, 0]) id
    && ok Ready.gateListSet2 0x0A20 (pk 0 0 [65537, 0, 0, 0, 1000, 255, 1000]) id && ok Ready.gateListRead 0x0A21 (pk 0 0 [0]) id) = true := by decide +kernel

theorem test_witness_HostTrafficAndTwinCommandsRun :
    (ok Ready.htxRingSet 0x0B00 (pk 0 0 [0, 0, 0, 0, 0, 0]) id && ok Ready.htxRingSet2 0x0B00 (pk 0 0 [16, 0, 0, 0, 0, 0]) id
    && ok Ready.htxRingSet3 0x0B00 (pk 0 0 [16, 0, 0, 0, 0, 0]) (fun s => s.hstM fun h => { h with tx := [(0, { size := 16 })] })
    && ok Ready.hrxRingSet 0x0B01 (pk 0 0 (List.replicate 7 0)) id && ok Ready.hrxRingSet2 0x0B01 (pk 0 0 [16, 0, 0, 0, 0, 64, 1000]) id
    && ok Ready.hrxRingSet3 0x0B01 (pk 0 0 [16, 0, 0, 0, 0, 64, 1000]) (fun s => s.hstM fun h => { h with rx := [(0, { size := 16, bufSize := 64 })] })
    && ok Ready.segProfileSet 0x0B02 (pk 0 0 [3539944, 8718, 2]) id && ok Ready.hringStatus 0x0B03 (pk 0 0 []) id && ok Ready.twinConfig 0x0C00 (pk 0 0 [2306]) id
    && ok Ready.twinEnrol 0x0C01 (pk 0 0 (List.replicate 12 0)) (fun s => s.twinM fun t => { t with fingerprint := some (List.replicate 48 0) })
    && ok Ready.twinTakeover 0x0C02 (pk 0 0 []) (fun s => s.modeM fun b => { b with mode := .twinStandby }) && ok Ready.twinStatus 0x0C03 (pk 0 0 []) id
    && ok Ready.twinLock 0x0C04 (pk 0 0 [0]) partner) = true := by decide +kernel

theorem test_witness_PowerAndMemoryCommandsRun :
    (ok Ready.powerPolicySet 0x0D00 (pk 0 0 [0, 0, 0, 0]) id && ok Ready.powerStatus 0x0D01 (pk 0 0 []) id && ok Ready.sliceRetire 0x0D20 (pk 0 0 []) id
    && ok Ready.sliceAdmit 0x0D21 (pk 0 0 []) id && ok Ready.sliceStatus 0x0D22 (pk 0 0 []) id && ok Ready.ddrTrain 0x0E00 (pk 0 0 [1]) memory
    && ok Ready.ddrConfig 0x0E01 (pk 0 0 [0, 10]) id && ok Ready.ddrStatus 0x0E02 (pk 0 0 []) id) = true := by decide +kernel

theorem test_witness_CounterCommandsRun :
    (ok Ready.statRead 0x0F00 (pk 0 0 [1]) id && ok Ready.statClear 0x0F01 (pk 0 0 [1]) id && ok Ready.snapAreaSet 0x0F02 (pk 0 0 [0, 0, 0]) id
    && ok Ready.snapTake 0x0F03 (pk 0 0 [0, 0, 0, 0]) id && ok Ready.snapStatus 0x0F04 (pk 0 0 []) id
    && ok Ready.snapRead 0x0F05 (pk 0 0 [1]) (fun s => (memory s).cntM fun c => { c with image := true, area := some 0 }) && ok Ready.prfSelect 0x0F10 (pk 0 0 [0]) id
    && ok Ready.prfRead 0x0F11 (pk 0 0 []) id && ok Ready.bwmSet 0x0F20 (pk 0 0 [1000]) id && ok Ready.bwmRead 0x0F21 (pk 0 0 []) id) = true := by decide +kernel

theorem test_witness_FaultCommandsRun :
    (ok Ready.faultStatus 0x1000 (pk 0 0 []) id && ok Ready.faultRead 0x1001 (pk 0 0 []) id && ok Ready.faultClear 0x1002 (pk 0 0 []) id && ok Ready.faultReactionSet 0x1003 (pk 1 0 [0]) id
    && ok Ready.bookInfo 0x1004 (pk 0 0 []) id && ok Ready.bookRead 0x1005 (pk 0 0 []) id) = true := by decide +kernel

theorem test_witness_FactoryCommandsRun :
    (ok Ready.faultInject 0x1100 (pk 0 0 [0, 0, 0]) id && ok Ready.guardSet 0x1101 (pk 0 0 [0]) id && ok Ready.bookClear 0x1102 (pk 0 0 [49642]) id
    && ok Ready.diagLoopback 0x1110 (pk 0 0 [0]) id && ok Ready.diagMemTest 0x1111 (pk 0 0 []) id) = true := by decide +kernel

theorem test_witness_MailboxServiceAndSmbusRun :
    (Ready.mbxNop 0 ((posted 0 .posted 0 (inMode .config))) && Ready.mbxNop2 0 ((posted 0 .posted 4 (inMode .config))) && Ready.mbxNop3 0 ((posted 0 .posted 0x10000 (inMode .config)))
    && Ready.ringRescan 0 ((posted 0 .posted 1 (inMode .config))) && Ready.holdHost 0 ((posted 0 .posted 2 (inMode .config)))
    && Ready.hostRelease 0 ((posted 0 .posted 3 (inMode .config))) && Ready.tunnelWrite [0x80, 0] true (inMode .config)
    && Ready.tunnelRead (((inMode .config).smbM fun x => { x with reply := some ([], 0) })) && Ready.bookSelect [0, 0, 0, 0] true (inMode .config)
    && Ready.smbusBookRead (inMode .config) && Ready.smbusLockAcquire 31 (inMode .config) && Ready.smbusLockRelease 1 true (inMode .config)
    && Ready.alertResponse (((inMode .config).smbM fun x => { x with reply := some ([], 0) }))) = true := by decide +kernel

theorem test_witness_DoorbellsAndRingControlsRun :
    (Ready.hifDb 0 4 (((inMode .config).ringM 0 fun g => { g with slots := 4 })) && Ready.hifDb2 0 5 (((inMode .config).ringM 0 fun g => { g with slots := 4 }))
    && Ready.hifTxdb 0 4 (((inMode .config).txM 0 fun g => { g with size := 4 })) && Ready.hifTxdb2 0 5 (((inMode .config).txM 0 fun g => { g with size := 4 }))
    && Ready.hifRxdb 0 4 (((inMode .config).rxM 0 fun g => { g with size := 4 })) && Ready.hifRxdb2 0 5 (((inMode .config).rxM 0 fun g => { g with size := 4 }))
    && Ready.ringEnable 0 1 (((inMode .config).ringM 0 fun g => { g with slots := 1024 })) && Ready.ringEnable2 0 1 (((inMode .config).ringM 0 fun g => { g with slots := 1000 }))
    && Ready.ringDisable 0 0 (((inMode .config).ringM 0 fun g => { g with enable := true, active := true })) && Ready.irqMaskWrite (inMode .config)
    && Ready.irqMaskWrite2 (inMode .config) && Ready.irqMaskWrite3 (inMode .config) && Ready.irqMaskWrite4 (inMode .config) && Ready.irqMaskWrite5 (inMode .config)) = true := by decide +kernel

theorem test_witness_MailboxesAndLocksRun :
    (Ready.mbxMsg 0 11 1 (inMode .config) && Ready.mbxMsg2 0 11 2 (inMode .config) && Ready.send 0 1 (inMode .config) && Ready.withdraw 0 1 false ((posted 0 .posted 0 (inMode .config)))
    && Ready.withdraw2 0 1 ((posted 0 .waiting 0 (inMode .config))) && Ready.withdraw3 0 1 ((posted 0 .acked 0 (inMode .config)))
    && Ready.release 0 1 ((posted 0 .acked 0 (inMode .config))) && Ready.accept 8 1 ((posted 8 .posted 0 (inMode .config))) && Ready.mbxAck 8 1 ((posted 8 .accepted 0 (inMode .config)))
    && Ready.overflowNotice (((inMode .config).cmdsM fun x => { x with lost := 1 })) && Ready.lockAcquire 31 && Ready.lockRelease 2 (inMode .config)
    && Ready.force 5 (((inMode .config).locksM fun x => updAt x 5 fun _ => some 2))) = true := by decide +kernel

theorem test_witness_RegisterEventsRun :
    (Ready.restart (((inMode .config).vntM fun x => { x with haltedMc := true, running := false }))
    && Ready.vintnerRestarted (((inMode .config).vntM fun x => { x with restarting := true })) && Ready.traceEnable 0xA01 ((memory (inMode .config)))
    && Ready.traceEnable2 0x101 ((memory (inMode .config))) && Ready.vntTraceLost (inMode .config) && Ready.hifReset 0xB0070001 (inMode .config)
    && Ready.hifReset2 0xB0070000 (inMode .config) && Ready.celBookSelect (inMode .config) && Ready.busMasterEnable (inMode .config) && Ready.registerWrite (inMode .config)
    && Ready.bar0BadAccess 2 4 (inMode .config)) = true := by decide +kernel

theorem test_witness_HostPathEventsRun :
    (Ready.commandFetch [{ ring := 1, bytes := [0#8, 0#8, 0#8, 1#8] ++ List.replicate 60 0#8 }] (fetching (inMode .config))
    && Ready.replyWrite (((fetching (inMode .config)).cmdsM fun x => { x with held := [(tReply, true)] }))
    && Ready.holdoffExpire 3 (((inMode .config).hifM fun x => { x with holdRun := 8 })) && Ready.dmaError 0 (((inMode .config).ringM 0 fun g => { g with active := true }))
    && Ready.dmaError2 16 (((inMode .config).txM 0 fun g => { g with size := 4 })) && Ready.dmaError3 32 (((inMode .config).rxM 0 fun g => { g with size := 4 }))
    && Ready.machineCheck 5 1 3 (inMode .config) && Ready.machineCheck2 5 1 7 (inMode .config)) = true := by decide +kernel

theorem test_witness_PowerAndResetEventsRun :
    (Ready.auxVinUp (inMode .off) && Ready.resetNDeassert (((inMode .config).pinsM fun x => { x with resetN := false }))
    && Ready.pgInConfirm (((inMode .dormant).pwrM fun x => { x with railStep := some 1 }))
    && Ready.railTimeout (((inMode .dormant).pwrM fun x => { x with railStep := some 4 }).pinsM fun p => { p with pgIn := false }) && Ready.pgInLost (inMode .config)
    && Ready.pgInLost2 (inMode .dormant) && Ready.bootComplete (State.reset) && Ready.refclkLost (inMode .config)
    && Ready.refclkReturn (((inMode .config).pinsM fun x => { x with refclk := false })) && Ready.ownInAssert [] (inMode .config)
    && Ready.ownInAssert2 [] ((((inMode .twinActive).pinsM fun x => { x with ownOut := true })).runM fun x => { x with owner := true })
    && Ready.ownInAssert3 [] ((((inMode .twinActive).pinsM fun x => { x with twinId := true })).runM fun x => { x with claim := true })
    && Ready.ownInDeassert (((inMode .twinActive).pinsM fun x => { x with ownIn := true }))
    && Ready.ownInDeassert2 (((inMode .twinStandby).pinsM fun x => { x with ownIn := true, takeN := false }))
    && Ready.claimWindowEnd ((((inMode .twinActive).pinsM fun x => { x with ownOut := true })).runM fun x => { x with claim := true })) = true := by decide +kernel

theorem test_witness_EdgeAndThermalEventsRun :
    (Ready.ppsInEdge 1 (inMode .config) && Ready.pulseEdge 3 (((inMode .config).pulseM 3 fun x => { x with mode := 1 })) && Ready.thermalRead (inMode .config)) = true := by decide +kernel

theorem test_witness_PortEventsRun :
    (Ready.linkUp 0 (((inMode .config).mportM 0 fun x => { x with en := true })) && Ready.linkDown 0 none (((inMode .config).mportM 0 fun x => { x with en := true, up := true }))
    && Ready.linkDown2 0 (((inMode .config).mportM 0 fun x => { x with en := true, up := true }))
    && Ready.frameReceive 0 (((inMode .config).mportM 0 fun x => { x with en := true, up := true }))
    && Ready.pauseRefresh 0 (((inMode .config).lbM 0 fun x => { x with fcMode := 1, xoffOn := true }))
    && Ready.pauseReceive 0 (((inMode .config).mportM 0 fun x => { x with en := true, up := true, rxFc := 1 }))
    && Ready.pfcReceive 0 (((inMode .config).mportM 0 fun x => { x with en := true, up := true, rxFc := 2 })) && Ready.pauseExpire 0 (inMode .config)
    && Ready.pauseStormTrip 0 (((inMode .config).mportM 0 fun x => { x with en := true, up := true, rxFc := 1, pause := 100 }))
    && Ready.pauseStormClear 0 (((inMode .config).mportM 0 fun x => { x with tripped := true }))) = true := by decide +kernel

theorem test_witness_ForwardingEventsRun :
    (Ready.ingressCipher 0 (((inMode .forward).ingM fun x => { x with groups := [{ pend := [{ pkt := tPkt, port := 0, cells := 1, prio := 0 }] }] }))
    && Ready.saFetchDone 0 (((inMode .forward).cipM fun x => { x with sas := [(0, { ctx := none, outbound := true, esp := false, group := 0, replay := false, fetching := true })] }))
    && Ready.distributionRound false (inMode .forward) && Ready.slicePass 7 (((inMode .forward).sliceM 7 fun x => { x with held := [(tPkt, false)] }))
    && Ready.sliceTimeout 0 (((inMode .forward).sliceM 0 fun x => { x with held := [(tPkt, false)] }))
    && Ready.fragHoldTimeout (((inMode .forward).fragM fun x => { x with timeoutUs := 0, held := [{ key := [], pkt := tPkt, units := 1, handle := 0, owner := 0, pool := 0, at_ := 0 }] }))
    && Ready.fragHoldTimeout2 (((inMode .forward).fragM fun x => { x with timeoutUs := 0, orphanHost := true, held := [{ key := [], pkt := tPkt, units := 1, handle := 0, owner := 0, pool := 0, at_ := 0 }] }))
    && Ready.fragEntryRemoval 9 (aged 9 0 1000000000000000) && Ready.fragEntryRemoval2 9 (aged 9 1000000000000000 1000000000000000)
    && Ready.residueWrite 0 0 (((inMode .forward).xpM 0 0 fun x => { x with residue := [{ copy := tCopy, refCol := 0, refUnit := 0, owner := 0, pool := 0, at_ := 0 }] }))
    && Ready.residueAged 0 0 (((inMode .forward).xpM 0 0 fun x => { x with rmin := 0, slimit := 0, residue := [{ copy := tCopy, refCol := 0, refUnit := 0, owner := 0, pool := 0, at_ := 0 }] }).timeM fun x => { x with record := { t := 6553600000 } })
    && Ready.poolRebuild 0 2 (((inMode .forward).colM 0 fun x => { x with rebuilding := [2] }))) = true := by decide +kernel

theorem test_witness_EgressEventsRun :
    (Ready.selection 66 (twinQueued) && Ready.shaperRefill 7 (((inMode .forward).schedM fun x => { x with queues := [(7, {})] }))
    && Ready.shaperRefill2 7 (((inMode .forward).schedM fun x => { x with groups := [(7, {})] }))
    && Ready.shaperRefill3 66 (((inMode .forward).schedM fun x => { x with nodes := [(66, {})] }))
    && Ready.adaptiveQuantum 3 (((inMode .forward).schedM fun x => { x with groups := [(3, { en := true, adaptive := true })], queues := [(7, { en := true, group := 3, quantum := 64, q := [tEnt] })] }))
    && Ready.egressCipher 0 (((inMode .forward).cipM fun x => { x with egress := [(0, [{ port := 0, copy := tCopy, queue := 0, charged := 64 }])] }))
    && Ready.frameTransmit 0 (((inMode .forward).mportM 0 fun x => { x with en := true, up := true, tx := [{ bytes := [], mark := false, bypass := false, sa := none, charged := 64 }] }))
    && Ready.flushMarkersPassed 66 (((inMode .forward).cportM 66 fun x => { x with egress := .await }))
    && Ready.hostTxFetch 0 [(tDesc, List.replicate 64 0)] (((inMode .forward).hifM fun x => { x with bme := true }).txM 0 fun g => { g with size := 4, host := 1 })
    && Ready.hostTxFetch2 0 (((inMode .forward).hifM fun x => { x with bme := true }).hstM fun x => { x with pieces := [(0, (1, []))] })
    && Ready.hostTxFetch3 0 (List.replicate 4 (List.replicate 16 0, [])) (((inMode .forward).hifM fun x => { x with bme := true }).txM 0 fun g => { g with size := 4, host := 4 })
    && Ready.hostRxDelivery (((inMode .forward).hifM fun x => { x with bme := true }).hstM fun x => { x with sel := [{ ring := 0, descs := 1, ent := tEnt, queue := 0 }] })
    && Ready.hostRingStalled 3 (stalling)) = true := by decide +kernel

theorem test_witness_VintageAndRepairEventsRun :
    (Ready.epochRetire 1 (((inMode .forward).slotM 1 fun x => { x with live := true }))
    && Ready.commitCycle (((inMode .config).vinM fun x => { x with vint := some { handle := 1, n := 1, state := .waitTime } }))
    && Ready.commitCycle2 (((inMode .config).vinM fun x => { x with vint := some { handle := 1, n := 1, state := .waitSlot } }))
    && Ready.commitCycle3 (((inMode .twinStandby).vinM fun x => { x with vint := some { handle := 1, n := 1, state := .prepared, at? := some 0 } }))
    && Ready.tcamRepair true (((inMode .config).tcamM fun x => { x with repairB := [5] })) && Ready.collectorParity (some 0x40) (inMode .config)
    && Ready.collectorParity2 (some 0x40) (((inMode .config).fltM fun x => { x with src := [(0, { capture := some { source := 0, cls := 3, master := 0, access := 0, addr := 0, time := 0, reactions := 0, syndrome := 0 } })] }))
    && Ready.cipherKat 0 (inMode .config) && Ready.bookCommit true (inMode .config) && Ready.bookCommit2 false (inMode .config)) = true := by decide +kernel

theorem test_witness_TwinLinkEventsRun :
    (Ready.drainComplete (inMode .drain) && Ready.drainTimeout (inMode .drain) && Ready.trellisLinkUp (((inMode .config).twinM fun x => { x with en := true }))
    && Ready.trellisLinkDown (((inMode .config).twinM fun x => { x with linkUp := true }))
    && Ready.trellisFrame 8 true true (((inMode .config).twinM fun x => { x with keys := some ([], []), linkUp := true, rxCounter := 7 }))
    && Ready.trellisFrame2 7 true true (((inMode .config).twinM fun x => { x with keys := some ([], []), linkUp := true, rxCounter := 7 }))
    && Ready.hello (Hello.body { twinId := 1, strideLog2 := 9, microcode := 0, idX := generatorX, idY := generatorY, ephX := generatorX, ephY := generatorY, nonce := [] }) (((inMode .config).twinM fun x => { x with st := .auth }))
    && Ready.proof (((inMode .config).twinM fun x => { x with st := .auth }))
    && Ready.proof2 tProof (((inMode .config).twinM fun x => { x with st := .auth, partnerHello := some tHello }))
    && Ready.handshakeRetry (((inMode .config).twinM fun x => { x with st := .authFailed, linkUp := true }))
    && Ready.heartbeatSend (((inMode .config).twinM fun x => { x with keys := some ([], []) })) && Ready.heartbeat (((inMode .config).twinM fun x => { x with keys := some ([], []) }))
    && Ready.heartbeatMissed (((inMode .config).twinM fun x => { x with keys := some ([], []) })) && Ready.leapComplete (((inMode .takeover).runM fun x => { x with leaping := true }))
    && Ready.ack (((inMode .config).twinM fun x => { x with keys := some ([], []) }))
    && Ready.syncBegin 1 ((partner (inMode .config)).modeM fun b => { b with pendingTarget := some .twinStandby }) && Ready.syncBegin2 1 (partner (inMode .config))
    && Ready.syncBegin3 ((((((inMode .config).twinM fun x => { x with st := .sync, keys := some ([], []) })).pinsM fun x => { x with twinId := true })).runM fun x => { x with syncActive := true })
    && Ready.syncEnd (((((inMode .config).vinM fun x => { x with vint := some { handle := 1, n := 1, state := .opened } })).twinM fun x => { x with st := .sync, keys := some ([], []) }))
    && Ready.syncResult (((((inMode .config).twinM fun x => { x with st := .sync })).runM fun x => { x with syncActive := true })) && Ready.handover (inMode .twinStandby)
    && Ready.handover2 (((inMode .twinActive).twinM fun x => { x with st := .inSync })) && Ready.handover4 (inMode .takeover) && Ready.handover3 (inMode .twinActive)
    && Ready.handoverTimeout (((inMode .twinStandby).runM fun x => { x with handoverIn := true }))
    && Ready.handoverDone (((inMode .twinActive).runM fun x => { x with handoverOut := true }))
    && Ready.handoverDone2 false (((inMode .twinStandby).runM fun x => { x with askedHandover := true }))
    && P384.verify (Hello.ofBody (tHello.drop 4)).idX (Hello.ofBody (tHello.drop 4)).idY
      ((Twin.transcript { partnerHello := some tHello } false) ++ [by8 (Hello.ofBody (tHello.drop 4)).twinId]) (beAt tProof 0 48) (beAt tProof 48 48)) = true := by decide +kernel

theorem test_witness_TwinMessageEventsRun :
    (Ready.vintageOpen 1 (((inMode .twinStandby).twinM fun x => { x with keys := some ([], []) }))
    && Ready.vintageOpen2 2 (((inMode .twinStandby).twinM fun x => { x with keys := some ([], []) }))
    && Ready.vintageStage (((((inMode .twinStandby).vinM fun x => { x with vint := some { handle := 1, n := 1, state := .opened } })).twinM fun x => { x with keys := some ([], []) }))
    && Ready.prepare 1 0 0xFFFFFFFF (((((inMode .twinStandby).vinM fun x => { x with vint := some { handle := 1, n := 1, state := .opened, arrays := tArrays } })).twinM fun x => { x with keys := some ([], []) }))
    && Ready.prepare2 1 1 0xFFFFFFFF (((((inMode .twinStandby).vinM fun x => { x with vint := some { handle := 1, n := 1, state := .opened, arrays := tArrays } })).twinM fun x => { x with keys := some ([], []) }))
    && Ready.prepare3 (((inMode .twinActive).twinM fun x => { x with keys := some ([], []) }))
    && Ready.ready 1 (((inMode .twinActive).vinM fun x => { x with vint := some { handle := 1, n := 1, state := .waitTwin } }))
    && Ready.refuse 1 (((inMode .twinActive).vinM fun x => { x with vint := some { handle := 1, n := 1, state := .waitTwin } }))
    && Ready.vintageCommit 1 (((((inMode .twinStandby).vinM fun x => { x with vint := some { handle := 1, n := 1, state := .prepared } })).twinM fun x => { x with keys := some ([], []) }))
    && Ready.vintageAbort 1 (((((inMode .twinStandby).vinM fun x => { x with vint := some { handle := 1, n := 1, state := .prepared } })).twinM fun x => { x with keys := some ([], []) }))
    && Ready.number (((inMode .twinStandby).twinM fun x => { x with keys := some ([], []) })) && Ready.window (((inMode .twinActive).twinM fun x => { x with keys := some ([], []) }))
    && Ready.context [0, 0, 0, 0] (((inMode .twinStandby).twinM fun x => { x with keys := some ([], []) }))
    && Ready.context2 [0, 0, 0, 0] (((((inMode .twinStandby).cipM fun x => { x with sas := [(0, { ctx := some tSa, outbound := true, esp := false, group := 0, replay := false })] })).twinM fun x => { x with keys := some ([], []) }))
    && Ready.binding (((inMode .twinStandby).twinM fun x => { x with keys := some ([], []) })) && Ready.sci (((inMode .twinStandby).twinM fun x => { x with keys := some ([], []) }))
    && Ready.retire (((inMode .twinStandby).twinM fun x => { x with keys := some ([], []) })) && Ready.port (((inMode .twinStandby).twinM fun x => { x with keys := some ([], []) }))
    && Ready.mbx 13 (partner (inMode .config)) && Ready.mbxState 15 (partner (inMode .config)) && Ready.mbxState2 12 (partner (inMode .config))
    && Ready.lockReq 31 (partner (inMode .config))
    && Ready.lockResult 5 0 (((inMode .config).cmdsM fun x => { x with tags := [{ opcode := 0x0C04, pkt := pk 5 0 [0], phase := .pended }] }))
    && Ready.hairpin (((inMode .forward).twinM fun x => { x with keys := some ([], []), hairpin := true }))) = true := by decide +kernel

theorem test_witness_TimeAndSnapshotEventsRun :
    (Ready.ptpSync 0 0 tPtp (((inMode .config).domM 0 fun x => { x with en := true }))
    && Ready.followUp 0 0 ([0x08] ++ List.replicate 43 0) (((inMode .config).domM 0 fun x => { x with en := true, sync := some (0, 0, 0) }))
    && Ready.delayResp 0 0 ([0x09] ++ List.replicate 53 0) (((inMode .config).domM 0 fun x => { x with en := true, dreq := some (0, 0), msOffset := some 0 }))
    && Ready.pdelayResp 0 0 ([0x03] ++ List.replicate 53 0) (((inMode .config).domM 0 fun x => { x with en := true, p2p := true, preq := some (0, 0) }))
    && Ready.pdelayRespFollowUp 0 0 ([0x0A] ++ List.replicate 53 0) (((inMode .config).domM 0 fun x => { x with en := true, p2p := true, preq := some (0, 0), presp := some (0, 0, 0, 0) }))
    && Ready.holdover 0 (((inMode .config).domM 0 fun x => { x with en := true, servo := .locked }))
    && Ready.holdover2 0 (((((inMode .config).domM 0 fun x => { x with en := true, servo := .locked })).domM 1 fun x => { x with en := true, servo := .locked }).timeM fun x => { x with source := 1, autoSwitch := true })
    && Ready.gateBoundary 0 (((inMode .config).gateM 0 fun x => { x with oper := some { base := 0, cycle := 1000, entries := [(255, 1000)] } }))
    && Ready.gateListSwitch 0 (((inMode .config).gateM 0 fun x => { x with admin := some { base := 0, cycle := 1000, entries := [(255, 1000)] } }))
    && Ready.snapshotTick (((inMode .config).cntM fun x => { x with snap := .armed })) && Ready.snapshotDone (((inMode .config).cntM fun x => { x with snap := .copying }))) = true := by decide +kernel

theorem test_witness_MemoryAndPowerEventsRun :
    (Ready.bwmWindowEnd 66 && Ready.refreshDue 0 0 ((memory (inMode .config))) && Ready.refreshMakeup 0 ((memory (inMode .config))) && Ready.driftTrack 0 ((memory (inMode .config)))
    && Ready.powerDownEntry 0 0 false ((memory (inMode .config))) && Ready.patrolScrub (((memory (inMode .config)).cipM fun x => { x with spillEnable := true }))
    && Ready.trainingDone (((inMode .config).ddrM fun x => { x with trainMask := 1 })) && Ready.dozeEntry 2 (List.replicate 40 100000) (inMode .config)
    && Ready.deepEntry 2 (List.replicate 40 1000000) (inMode .config) && Ready.wakeComplete 2 (((inMode .config).pwrM fun x => { x with waking := [2] }))
    && Ready.slicePolicy (((inMode .config).ingM fun x => { x with slices := { passes := 16000 } :: { st := .retiredPolicy } :: List.replicate 6 { st := .retiredHost } }))
    && Ready.slicePolicy2 (inMode .config)) = true := by decide +kernel

theorem test_witness_CompletionEventsRun :
    (Ready.flushComplete 66 (inMode .config) && Ready.slewComplete (((inMode .config).timeM fun x => { x with source := 1 }))
    && Ready.handshakeTimeout (((inMode .config).twinM fun x => { x with st := .auth }))
    && Ready.fullMirrorSent (((((inMode .config).twinM fun x => { x with st := .sync })).runM fun x => { x with syncActive := true }))
    && Ready.bookClearDone (((inMode .config).bookM fun x => { x with clearing := true }))
    && Ready.diagMemTestDone (((inMode .config).cmdsM fun x => { x with tags := [{ opcode := 0x1111, pkt := pk 0 0 [], phase := .pended }] })) && Ready.testAccessPort (inMode .config)
    && Ready.msixVectorUnmask (inMode .config)) = true := by decide +kernel

end Sys2Proof.Tests
end

section
/-!
PROOFS. The host link (chapter 3): the bound on doorbell writes (R50), and accesses BAR0 does not take (R45).
-/
namespace Sys2Proof

/-- The index field of a doorbell write is a 16-bit number. -/
theorem Word.fld_index_lt (v : Word) : v.fld 15 0 < 65536 :=
  Nat.mod_lt _ (by decide)

end Sys2Proof

namespace Sys2Proof.Machine

/-! ## Accesses behind BAR0, and host-interface errors -/

/-- While BAR0 answers, an access reaches its register. -/
theorem State.overBar_of_barUp {s : State} (h : s.barUp = true) (t : State) : s.overBar t = t :=
  if_pos h

/-- The error recorded is set in IRQ_HIF_ERR. -/
theorem State.nbit_setHifErr_err (s : State) (i : Nat) : nbit (s.setHifErr i).hif.err i = true := by
  obtain ⟨h, o, hs, herr, -⟩ := s.setHifErr_eq i
  rw [hs]
  exact herr ▸ nbit_orBit _ _

/-- Recording an error leaves every control ring as it was. -/
@[simp] theorem State.setHifErr_ring (s : State) (i r : Nat) : (s.setHifErr i).ring r = s.ring r := by
  obtain ⟨h, o, hs, -, hrings⟩ := s.setHifErr_eq i
  rw [hs]
  exact congrArg (nth · r {}) hrings

/-- Recording an error changes only the host interface and what is put out. -/
theorem State.setHifErr_changes_hif_out (s : State) (i : Nat) : ∃ h o, s.setHifErr i = { s with hif := h, out := o } := by
  obtain ⟨h, o, hs, -, -⟩ := s.setHifErr_eq i
  exact ⟨h, o, hs⟩

/-! ## Control rings -/

/-- A change of a control ring that exists is what the ring then is. -/
theorem State.ringM_ring {s : State} {r : Nat} (hr : r < s.hif.rings.length) (f : CRing → CRing) :
    (s.ringM r f).ring r = f (s.ring r) :=
  nth_updAt _ _ f _ hr

/-- A change that keeps the host index keeps it whether or not the ring exists. -/
theorem State.ringM_ring_host (s : State) (r : Nat) {f : CRing → CRing} (hf : ∀ g, (f g).host = g.host) :
    ((s.ringM r f).ring r).host = (s.ring r).host := by
  rcases Nat.lt_or_ge r s.hif.rings.length with hr | hr
  · rw [State.ringM_ring hr, hf]
  · rw [State.ring, State.ringM, State.hifM_hif, updAt_out _ _ _ hr, State.ring]

/-! ## Doorbells of control rings (R50) -/

/-- The slots a ring spans once its host index is `host`, modulo 65,536: those the host is ahead of the engine on a command ring, those the engine is ahead of the host on the reply and the event ring. -/
def doorbellSpan (r : Nat) (host engine : Int) : Int :=
  if r < 4 then (host - engine) % 65536 else (engine - host) % 65536

/-- A span is never negative. -/
theorem doorbellSpan_nonneg (r : Nat) (host engine : Int) : 0 ≤ doorbellSpan r host engine := by
  unfold doorbellSpan
  split <;> exact Int.emod_nonneg _ (by decide)

/-- The distance the doorbell counts in natural numbers is the span of R50, for any 16-bit host index. -/
theorem doorbellSpan_eq_natDistance (r i e : Nat) (hi : i < 65536) :
    doorbellSpan r i e =
      ((if r < 4 then (i + 65536 - e % 65536) % 65536 else (e + 65536 - i) % 65536 : Nat) : Int) := by
  unfold doorbellSpan
  split <;> omega

/-- A doorbell of a span within the ring moves the host index and wakes HOST. -/
theorem State.ringDoorbell_accepted {s : State} {r : Nat} {v : Word}
    (h : doorbellSpan r (v.fld 15 0) (s.ring r).engine ≤ (s.ring r).slots) :
    s.ringDoorbell r v = (s.ringM r fun g => { g with host := v.fld 15 0 }).wakeHost := by
  rw [doorbellSpan_eq_natDistance _ _ _ v.fld_index_lt, Int.ofNat_le] at h
  exact if_pos h

/-- A doorbell of a wider span sets DB_ERR and IRQ_HIF_ERR.DOORBELL, and moves nothing. -/
theorem State.ringDoorbell_refused {s : State} {r : Nat} {v : Word}
    (h : ¬ doorbellSpan r (v.fld 15 0) (s.ring r).engine ≤ (s.ring r).slots) :
    s.ringDoorbell r v = (s.ringM r fun g => { g with dbErr := true }).setHifErr 0 := by
  rw [doorbellSpan_eq_natDistance _ _ _ v.fld_index_lt, Int.ofNat_le] at h
  exact if_neg h

/-- HIF_DB on one of the six control rings, while BAR0 answers, is a write of that ring's doorbell. -/
theorem exec_hifDb_of_barUp {s : State} {r : Nat} (hr : r < 6) (hbar : s.barUp = true) (v : Word) :
    exec (.hifDb r v) s = .next (s.ringDoorbell r v).settle := by
  change (s.overBar (if r < 6 then s.ringDoorbell r v else s)).done = _
  rw [State.overBar_of_barUp hbar, if_pos hr, State.done]

/-- Settles O13: the model's distance in natural numbers is the integer span of R50, so the doorbell's own bound is the bound stated; the refusal changes DB_ERR and the error bit only. -/
theorem doorbellsStayWithinTheRing : Obligations.DoorbellsStayWithinTheRing := by
  intro r v s hr hbar host engine span refused
  have hspan : span = doorbellSpan r host engine := rfl
  rw [exec_hifDb_of_barUp hr hbar]
  refine ⟨?accepted, ?refused, ?error, ?index, ?ringError⟩
  case accepted =>
    rintro ⟨-, hle⟩
    rw [State.ringDoorbell_accepted (hspan ▸ hle)]
  case refused =>
    intro hout
    have hgt : ¬ span ≤ (s.ring r).slots := fun hle => hout ⟨hspan ▸ doorbellSpan_nonneg r host engine, hle⟩
    rw [State.ringDoorbell_refused (hspan ▸ hgt)]
  case error => exact State.nbit_setHifErr_err _ 0
  case index =>
    rw [State.setHifErr_ring]
    exact s.ringM_ring_host r fun _ => rfl
  case ringError =>
    intro hlen
    rw [State.setHifErr_ring, State.ringM_ring hlen]

/-! ## Accesses BAR0 does not take (R45) -/

/-- BAR0_BAD_ACCESS, while BAR0 answers, is the access itself. -/
theorem exec_bar0BadAccess_of_barUp {s : State} (hbar : s.barUp = true) (off bytes : Nat) (write : Bool) :
    exec (.bar0BadAccess off bytes write) s = .next (bar0BadAccess off bytes write s).settle := by
  change (s.overBar (bar0BadAccess off bytes write s)).done = _
  rw [State.overBar_of_barUp hbar, State.done]

/-- An access of another width or alignment to a listed offset records ACCESS; a read of it is answered with zero. -/
theorem bar0BadAccess_listed {off bytes : Nat} (write : Bool) (s : State) (hbad : off % 4 ≠ 0 ∨ bytes ≠ 4)
    (hlisted : regListed (off / 4 * 4) = true) :
    bar0BadAccess off bytes write s = if write then s.setHifErr 3 else (s.setHifErr 3).emit (.readData 0) := by
  have hbad' : (off % 4 != 0 || bytes != 4) = true := by simpa using hbad
  simp [bar0BadAccess, hlisted, hbad']

/-- An access to an offset the map does not list records nothing; a read of it is answered with zero. -/
theorem bar0BadAccess_unlisted {off : Nat} (bytes : Nat) (write : Bool) (s : State)
    (hunlisted : regListed (off / 4 * 4) = false) :
    bar0BadAccess off bytes write s = if write then s else s.emit (.readData 0) := by
  simp [bar0BadAccess, hunlisted]

/-- Settles O14: whether the map lists the register the access falls in decides between the two answers. -/
theorem badAccessesReadZero : Obligations.BadAccessesReadZero := by
  intro off bytes write s hbar answered
  rw [exec_bar0BadAccess_of_barUp hbar]
  constructor
  · intro hbad hlisted
    exact ⟨by rw [bar0BadAccess_listed write s hbad hlisted], s.nbit_setHifErr_err 3, s.setHifErr_changes_hif_out 3⟩
  · intro hunlisted
    rw [bar0BadAccess_unlisted bytes write s hunlisted]

end Sys2Proof.Machine
end

section
/-!
PROOFS. Time domains and gates (chapter 15): the capture FIFOs of PPS_IN (R410), and the egress stamp FIFOs of the PTP ports (R402).
-/
namespace Sys2Proof.Machine

/-! ## PPS_IN captures (R410) -/

/-- An edge at this record time comes within 100 ns of the input's last captured edge. -/
def CapIn.CloseTo (c : CapIn) (now : Nat) : Prop := ∃ x, c.last = some x ∧ now < x + 100 * 65536

/-- The state with one capture input changed. -/
def State.capM (s : State) (i : Nat) (f : CapIn → CapIn) : State :=
  s.timeM fun t => { t with caps := updAt t.caps i f }

/-- Two changes of a capture input that agree on what it holds are one. -/
theorem State.capM_congr {s : State} {i : Nat} {f g : CapIn → CapIn}
    (h : f (nth s.time.caps i {}) = g (nth s.time.caps i {})) : s.capM i f = s.capM i g := by
  rw [State.capM, State.capM, State.timeM, State.timeM, updAt_congr _ _ _ _ _ h]

/-- A capture input takes an edge: one entry of line and record time while it has room, the overflow flag when it is full. -/
def CapIn.take (c : CapIn) (line record : Nat) : CapIn :=
  if 16 ≤ c.fifo.length then { c with overflow := true }
  else { c with fifo := c.fifo ++ [(line, record)], last := some record }

/-- With room, the entry is stored and its record time is kept. -/
theorem CapIn.take_of_room {c : CapIn} (line record : Nat) (h : c.fifo.length < 16) :
    c.take line record = { c with fifo := c.fifo ++ [(line, record)], last := some record } :=
  if_neg (Nat.not_le.mpr h)

/-- Without room, only the overflow flag changes: the dropped edge is not the last captured one. -/
theorem CapIn.take_of_full {c : CapIn} (line record : Nat) (h : 16 ≤ c.fifo.length) :
    c.take line record = { c with overflow := true } :=
  if_pos h

/-- An edge within 100 ns of the last captured one changes nothing. -/
theorem ppsInEdge_of_closeTo {s : State} {i : Nat}
    (h : (nth s.time.caps i {}).CloseTo s.time.record.t) : ppsInEdge i s = s := by
  obtain ⟨x, hlast, hnow⟩ := h
  simp [ppsInEdge, hlast, hnow]

/-- Any other edge is taken, with line and record time of the one tick. -/
theorem ppsInEdge_of_not_closeTo {s : State} {i : Nat}
    (h : ¬ (nth s.time.caps i {}).CloseTo s.time.record.t) :
    ppsInEdge i s = s.capM i fun c => c.take s.time.line.t s.time.record.t := by
  cases hlast : (nth s.time.caps i {}).last with
  | none => simp [ppsInEdge, hlast, State.capM, State.timeM, CapIn.take]
  | some x =>
    have hnow : ¬ s.time.record.t < x + 6553600 := fun hnow => h ⟨x, hlast, hnow⟩
    simp [ppsInEdge, hlast, hnow, State.capM, State.timeM, CapIn.take]

/-- An edge taken while the FIFO has room is stored, and is the captured edge the next one is measured from. -/
theorem ppsInEdge_of_room {s : State} {i : Nat} (hfar : ¬ (nth s.time.caps i {}).CloseTo s.time.record.t)
    (h : (nth s.time.caps i {}).fifo.length < 16) :
    ppsInEdge i s = s.capM i fun c =>
      { c with fifo := c.fifo ++ [(s.time.line.t, s.time.record.t)], last := some s.time.record.t } :=
  (ppsInEdge_of_not_closeTo hfar).trans (State.capM_congr (CapIn.take_of_room _ _ h))

/-- An edge taken while the FIFO is full is dropped, and only the overflow flag tells of it. -/
theorem ppsInEdge_of_full {s : State} {i : Nat} (hfar : ¬ (nth s.time.caps i {}).CloseTo s.time.record.t)
    (h : 16 ≤ (nth s.time.caps i {}).fifo.length) :
    ppsInEdge i s = s.capM i fun c => { c with overflow := true } :=
  (ppsInEdge_of_not_closeTo hfar).trans (State.capM_congr (CapIn.take_of_full _ _ h))

/-- The step of PPS_IN_EDGE, from what the edge makes of the state. -/
theorem exec_ppsInEdge_eq {i : Nat} {s t : State} (h : ppsInEdge i s = t) :
    exec (.ppsInEdge i) s = .next t.settle :=
  congrArg (fun u : State => Host.Outcome.next u.settle) h

/-- CAPTURE_READ of one of the two inputs passes its only check. -/
theorem captureRead_of_lt {c : Packet} (s : State) (h : c.obj < 2) :
    captureRead c s = .data
      (wd ((nth s.time.caps c.obj {}).fifo.length + 65536 * b2n (nth s.time.caps c.obj {}).overflow)
        :: (nth s.time.caps c.obj {}).fifo.flatMap fun e => timeWords e.1 ++ timeWords e.2)
      (s.capM c.obj fun q => { q with fifo := [], overflow := false }) :=
  checks_pass (by simpa [passes, objBelow] using h) _

/-- Settles O16: an edge is ignored or taken as it is close to the last captured one or not, and the room left decides what taking it does. -/
theorem capturesKeepSixteenEdges : Obligations.CapturesKeepSixteenEdges := by
  refine ⟨fun i s => ⟨fun hclose => ?ignored, fun hfar hroom => ?captured, fun hfar hfull => ?dropped⟩,
    fun c s hobj => captureRead_of_lt s hobj⟩
  case ignored => exact exec_ppsInEdge_eq (ppsInEdge_of_closeTo hclose)
  case captured => exact exec_ppsInEdge_eq (ppsInEdge_of_room hfar hroom)
  case dropped => exact exec_ppsInEdge_eq (ppsInEdge_of_full hfar hfull)

/-! ## PTP settings and egress stamps of a port (R402) -/

/-- A change of a port's PTP settings is what that port then holds. -/
@[simp] theorem State.ptpPortM_ptpPort_same (s : State) (p : Nat) (f : PtpPort → PtpPort) :
    (s.ptpPortM p f).ptpPort p = f (s.ptpPort p) := by
  rw [State.ptpPort, State.ptpPortM, State.timeM_time, Tbl.lookD, Tbl.upd, Tbl.look_put, Option.getD_some, State.ptpPort]

/-- Every other port holds what it held. -/
theorem State.ptpPortM_ptpPort_ne (s : State) {p k : Nat} (h : k ≠ p) (f : PtpPort → PtpPort) :
    (s.ptpPortM p f).ptpPort k = s.ptpPort k := by
  rw [State.ptpPort, State.ptpPortM, State.timeM_time, Tbl.lookD, Tbl.upd, Tbl.look_put_ne _ _ _ _ h, State.ptpPort, Tbl.lookD]

/-- A stamp posted to a FIFO with room goes in behind the entries it holds. -/
theorem State.postStamp_of_room {s : State} {p : Nat} (m : Bytes) (stamp : Nat) (h : (s.ptpPort p).fifo.length < 16) :
    (s.postStamp p m stamp).ptpPort p =
      { s.ptpPort p with fifo := (s.ptpPort p).fifo ++ [(ptpType m, ptpDomain m, ptpSeq m, stamp)] } := by
  have hroom : ¬ 16 ≤ (s.ptpPort p).fifo.length := Nat.not_le.mpr h
  simp [State.postStamp, hroom]

/-- A stamp posted to a full FIFO takes the place of the oldest entry and sets the overflow flag. -/
theorem State.postStamp_of_full {s : State} {p : Nat} (m : Bytes) (stamp : Nat) (h : 16 ≤ (s.ptpPort p).fifo.length) :
    (s.postStamp p m stamp).ptpPort p =
      { s.ptpPort p with
        fifo := (s.ptpPort p).fifo.drop 1 ++ [(ptpType m, ptpDomain m, ptpSeq m, stamp)], overflow := true } := by
  simp [State.postStamp, h]

/-- A FIFO within its 16 entries stays within them. -/
theorem State.postStamp_fifo_length_le {s : State} {p : Nat} (m : Bytes) (stamp : Nat)
    (h : (s.ptpPort p).fifo.length ≤ 16) : ((s.postStamp p m stamp).ptpPort p).fifo.length ≤ 16 := by
  rcases Nat.lt_or_ge (s.ptpPort p).fifo.length 16 with hroom | hfull
  · rw [State.postStamp_of_room m stamp hroom, List.length_append]
    exact hroom
  · rw [State.postStamp_of_full m stamp hfull, List.length_append, List.length_drop, List.length_singleton]
    omega

/-- PTP_TS_READ of a designated port passes its only check. -/
theorem ptpTsRead_of_desig {c : Packet} {s : State} (hport : s.hasPort c.obj = true) (hdesig : (s.ptpPort c.obj).desig = true) :
    ptpTsRead c s = .data
      (wd ((s.ptpPort c.obj).fifo.length + 65536 * b2n (s.ptpPort c.obj).overflow)
        :: (s.ptpPort c.obj).fifo.flatMap fun e => wd (e.1 + 256 * e.2.1 + 65536 * e.2.2.1) :: timeWords e.2.2.2)
      (s.ptpPortM c.obj fun q => { q with fifo := [], overflow := false }) :=
  checks_pass (by simp [passes, hport, hdesig]) _

/-- Settles O17: posting and reading are changes of the one port's settings, so each clause is what that change leaves at its port and at every other. -/
theorem stampsKeepTheNewestSixteen : Obligations.StampsKeepTheNewestSixteen := by
  refine ⟨fun s p m stamp => ⟨?room, ?full, ?bound, ?others⟩, fun c s hport hdesig => ?read⟩
  case room => exact s.postStamp_of_room m stamp
  case full => exact s.postStamp_of_full m stamp
  case bound => exact s.postStamp_fifo_length_le m stamp
  case others => exact fun k hk => s.ptpPortM_ptpPort_ne hk _
  case read =>
    exact ⟨_, ptpTsRead_of_desig hport hdesig, s.ptpPortM_ptpPort_same _ _, fun k hk => s.ptpPortM_ptpPort_ne hk _⟩

end Sys2Proof.Machine
end

section
/-!
PROOFS. The cellar book (chapter 22): the layout of a record, and the sequence the commits number (R569, R571, R581).
-/
namespace Sys2Proof

/-! ## Byte strings made of fields one behind the other -/

/-- As many bytes as were asked for. -/
@[simp] theorem leBytes_length (k n : Nat) : (leBytes k n).length = k := by
  induction k generalizing n with
  | zero => rfl
  | succ k ih => simp [leBytes, ih]

/-- What the little-endian bytes of a number hold is the number modulo their range. -/
theorem leNat_leBytes (k n : Nat) : leNat (leBytes k n) = n % 256 ^ k := by
  induction k generalizing n with
  | zero => simp [leBytes, leNat, Nat.mod_one]
  | succ k ih =>
    calc leNat (leBytes (k + 1) n)
        = n % 256 + 256 * (n / 256 % 256 ^ k) := by simp [leBytes, leNat, by8, ih]
      _ = n % 256 ^ (k + 1) := by rw [Nat.pow_succ', Nat.mod_mul]

/-- Fields one behind the other: those before a field, the field, those behind it. -/
theorem flatten_eq_around {fs : List Bytes} {k : Nat} {f : Bytes} (hf : fs[k]? = some f) :
    fs.flatten = (fs.take k).flatten ++ (f ++ (fs.drop (k + 1)).flatten) := by
  obtain ⟨hk, rfl⟩ := List.getElem?_eq_some_iff.mp hf
  rw [← List.flatten_cons, ← List.flatten_append, ← List.drop_eq_getElem_cons hk, List.take_append_drop]

section
variable {fs : List Bytes} (k : Nat) {i : Nat}

/-- The bytes at a field's place are the field. -/
theorem bytesAt_field {n : Nat} {f : Bytes} (hf : fs[k]? = some f) (hi : (fs.take k).flatten.length = i)
    (hn : f.length = n) : bytesAt fs.flatten i n = f := by
  subst hi hn
  simp [bytesAt, flatten_eq_around hf]

/-- The byte at the place of a field of one byte is that byte. -/
theorem byteAt_field {n : Nat} (hf : fs[k]? = some [by8 n]) (hi : (fs.take k).flatten.length = i) :
    byteAt fs.flatten i = n % 256 := by
  subst hi
  simp [byteAt, by8, flatten_eq_around hf]

/-- The number at the place of a field of little-endian bytes is the number written there. -/
theorem leNat_field {m n : Nat} (hf : fs[k]? = some (leBytes m n)) (hi : (fs.take k).flatten.length = i) :
    leNat (bytesAt fs.flatten i m) = n % 256 ^ m := by
  rw [bytesAt_field k hf hi (leBytes_length m n), leNat_leBytes]

/-- Replacing a field's bytes by as many others replaces the field. -/
theorem bytesSet_field {f v : Bytes} (hf : fs[k]? = some f) (hi : (fs.take k).flatten.length = i)
    (hv : v.length = f.length) : bytesSet fs.flatten i v = (fs.set k v).flatten := by
  subst hi
  obtain ⟨hk, -⟩ := List.getElem?_eq_some_iff.mp hf
  rw [List.set_eq_take_append_cons_drop, if_pos hk]
  simp [bytesSet, flatten_eq_around hf, hv, List.drop_append, List.take_of_length_le, -List.length_flatten]

end

end Sys2Proof

namespace Sys2Proof.Machine

/-! ## The layout of a record (R569) -/

/-- The fields of bytes 0 to 251 of a record, in their order: type, flags, length, sequence, boot count, time, mode, the reserved bytes, the payload and the zeros behind it. -/
def State.recordFields (s : State) (runs : Bool) (typ : Nat) (pinned : Bool) (payload : Bytes) (seq boot : Nat) : List Bytes :=
  [[by8 typ], [by8 (b2n pinned + 2 * b2n (!runs))], leBytes 2 payload.length, leBytes 4 seq, leBytes 4 boot,
    leBytes 8 (if runs then s.ns else s.book.cycles * 160), [by8 s.mode.mode.code], List.replicate 7 0#8,
    payload, List.replicate (224 - payload.length) 0#8]

/-- The code of a mode is one byte. -/
theorem Mode.code_lt (m : Mode) : m.code < 256 := by
  cases m <;> decide

section
variable (s : State) (runs : Bool) (typ : Nat) (pinned : Bool) {payload : Bytes} (seq boot : Nat)

/-- A queued body is these fields, with sequence zero and the boot count at the event. -/
theorem State.bookBody_eq_flatten (h : payload.length ≤ 224) :
    s.bookBody runs typ pinned payload = (s.recordFields runs typ pinned payload 0 s.mode.bootCount).flatten := by
  cases runs <;> simp [State.bookBody, State.recordFields, bytesAt, List.take_of_length_le h]

/-- Together the fields are the 252 bytes before the CRC. -/
theorem State.recordFields_flatten_length (h : payload.length ≤ 224) :
    (s.recordFields runs typ pinned payload seq boot).flatten.length = 252 := by
  simp [State.recordFields, h]

/-- The write puts the sequence and the boot count into their fields and the CRC behind the last. -/
theorem recordBytes_bookBody (h : payload.length ≤ 224) :
    recordBytes (s.bookBody runs typ pinned payload) seq boot =
      (s.recordFields runs typ pinned payload seq boot
        ++ [leBytes 4 (crc32cF (s.recordFields runs typ pinned payload seq boot).flatten)]).flatten := by
  have hseq : bytesSet (s.recordFields runs typ pinned payload 0 s.mode.bootCount).flatten 4 (leBytes 4 seq)
      = (s.recordFields runs typ pinned payload seq s.mode.bootCount).flatten :=
    bytesSet_field 3 rfl (by simp [State.recordFields]) (by simp)
  have hboot : bytesSet (s.recordFields runs typ pinned payload seq s.mode.bootCount).flatten 8 (leBytes 4 boot)
      = (s.recordFields runs typ pinned payload seq boot).flatten :=
    bytesSet_field 4 rfl (by simp [State.recordFields]) (by simp)
  rw [s.bookBody_eq_flatten runs typ pinned h, recordBytes, hseq, hboot, List.flatten_append, List.flatten_singleton]

/-- Bytes 0 to 251 of a written record are what its CRC is over. -/
theorem bytesAt_recordBytes_bookBody (h : payload.length ≤ 224) :
    bytesAt (recordBytes (s.bookBody runs typ pinned payload) seq boot) 0 252 =
      (s.recordFields runs typ pinned payload seq boot).flatten := by
  rw [recordBytes_bookBody s runs typ pinned seq boot h, List.flatten_append]
  exact bytesAt_field (fs := [_, _]) 0 rfl rfl (s.recordFields_flatten_length runs typ pinned seq boot h)

end

/-! ## What a CEL_ALERT bit, a queued record and the end of a command leave in the book -/

/-- Raising an alert changes CEL_ALERT, and nothing else of the book. -/
@[simp] theorem State.setAlert_book (s : State) (b : Nat) :
    (s.setAlert b).book = { s.book with alert := orBit s.book.alert b } := by
  unfold State.setAlert
  dsimp only
  split
  · rfl
  · obtain ⟨h, o, e⟩ := State.signalUnless_eq
      ((s.bookM fun k => { k with alert := orBit k.alert b }).smbM fun m => { m with alertReleased := false }) 1 1
    rw [e]
    rfl

/-- Queueing a record, or dropping it, leaves the marker. -/
@[simp] theorem State.bookLog_marker (s : State) (typ : Nat) (payload : Bytes) :
    (s.bookLog typ payload).book.marker = s.book.marker := by
  unfold State.bookLog State.bookPut
  split <;> rfl

/-- Freeing the tag of a reply leaves everything behind the host link. -/
theorem State.dropTagOf_behind (s : State) (r : Reply) : Safety.Behind s (s.dropTagOf r) := s.cmdsM_behind _

/-- Writing a reply into its ring leaves everything behind the host link. -/
theorem State.writeReply_behind (s : State) (r : Reply) (final : Bool) : Safety.Behind s (s.writeReply r final) := by
  unfold State.writeReply
  dsimp only
  generalize hu : State.ringAdvance _ 4 r.slots 0 = u
  have hwritten : Safety.Behind s u := hu ▸ (((s.emit_behind _).trans (State.perfHost_behind _ _ _)).trans
    (State.perfHost_behind _ _ _)).trans (State.ringAdvance_behind _ _ _ _)
  split
  · exact hwritten.trans (u.dropTagOf_behind r)
  · exact hwritten

/-- A reply on either path leaves everything behind the host link. -/
theorem State.sendReply_behind (s : State) (r : Reply) (final : Bool) : Safety.Behind s (s.sendReply r final) := by
  unfold State.sendReply
  split
  · split
    · exact ((s.emit_behind _).trans (State.smbM_behind _ _)).trans (State.dropTagOf_behind _ _)
    · exact (s.emit_behind _).trans (State.smbM_behind _ _)
  · split
    · exact s.writeReply_behind r final
    · exact s.cmdsM_behind _

/-- The end of a command leaves everything behind the host link, with a reply or silent. -/
theorem State.complete_behind (s : State) (op : Nat) (c : Packet) (st : Status) (detail : Nat) (data : List Word) :
    Safety.Behind s (s.complete op c st detail data) := by
  unfold State.complete
  dsimp only
  refine (s.trace_behind s.vnt.trCmd 3 0 0 c.tagNo op (leBytes 2 st.code ++ [0#8, 0#8] ++ leBytes 4 detail)).trans ?_
  split
  · exact State.sendReply_behind _ _ _
  · split
    · exact (State.smbM_behind _ _).trans (State.cmdsM_behind _ _)
    · exact State.cmdsM_behind _ _

/-- Ending parked commands leaves everything behind the host link. -/
theorem State.completePended_behind (s : State) (p : Tag → Bool) (st : Status) (detail : Nat) (data : List Word) :
    Safety.Behind s (s.completePended p st detail data) := by
  unfold State.completePended
  refine Safety.Behind.foldl _ (fun u t => ?_) _ s
  exact u.complete_behind t.opcode t.pkt st detail data

/-! ## The sequence of the records (R569, R571, R581) -/

/-- A commit that succeeds numbers the front record after the last one and stores it in its slot, or at the next ring index. -/
theorem bookCommit_of_front {s : State} {r : QRec} {rest : List QRec} (hqueue : s.book.queue = r :: rest)
    (hclearing : s.book.clearing = false) (hmode : s.mode.mode ≠ .off) :
    (bookCommit true s).book.marker.headSeq = wrapAdd 32 s.book.marker.headSeq 1 ∧
      (bookCommit true s).book.queue = rest ∧
      (bookCommit true s).book.records = Tbl.put s.book.records (r.slot.getD s.book.marker.nextIdx)
        (recordBytes r.body (wrapAdd 32 s.book.marker.headSeq 1) s.mode.bootCount) := by
  simp only [bookCommit, hqueue, hclearing, beq_eq_false_iff_ne.mpr hmode]
  cases r.slot <;> simp [Marker.commit]

/-- The end of BOOK_CLEAR leaves a marker of which no record has been numbered. -/
theorem bookClearDone_marker {s : State} (h : s.book.clearing = true) : (bookClearDone s).book.marker = {} := by
  simp [bookClearDone, h, (State.completePended_behind _ _ _ _ _).book]

/-- Settles O12: a written record is its fields and their CRC one behind the other, so each field is read at the sum of the lengths before it; a commit writes the marker's next number, and the clear leaves an empty marker. -/
theorem recordsAreLaidOut : Obligations.RecordsAreLaidOut := by
  refine ⟨fun s runs typ pinned payload seq boot hlen => ?layout, fun s r rest hqueue hclearing hmode => ?commit,
    fun s hclearing => ?clear⟩
  case layout =>
    intro b
    have hcontent : bytesAt b 0 252 = _ := bytesAt_recordBytes_bookBody s runs typ pinned seq boot hlen
    have hb : b = _ := recordBytes_bookBody s runs typ pinned seq boot hlen
    have hfill := s.recordFields_flatten_length runs typ pinned seq boot hlen
    rw [hcontent, hb]
    refine ⟨?length, ?typ, ?flags, ?len, ?seq, ?boot, ?time, ?mode, ?reserved, ?payload, ?fill, ?crc⟩
    case length => rw [List.flatten_append, List.length_append, hfill]; rfl
    case typ => exact byteAt_field 0 rfl rfl
    case flags =>
      refine Eq.trans (byteAt_field 1 rfl rfl) ?_
      cases pinned <;> cases runs <;> rfl
    case len => exact Eq.trans (leNat_field 2 rfl rfl) (Nat.mod_eq_of_lt (by omega))
    case seq => exact leNat_field 3 rfl rfl
    case boot => exact leNat_field 4 rfl rfl
    case time => exact leNat_field 5 rfl rfl
    case mode => exact Eq.trans (byteAt_field 6 rfl rfl) (Nat.mod_eq_of_lt s.mode.mode.code_lt)
    case reserved => exact bytesAt_field 7 rfl rfl rfl
    case payload => exact bytesAt_field 8 rfl rfl rfl
    case fill => exact bytesAt_field 9 rfl (by simp [State.recordFields]; omega) (by simp)
    case crc => exact leNat_field 10 rfl hfill
  case commit =>
    intro seq t
    obtain ⟨hseq, hrest, hrecords⟩ := bookCommit_of_front hqueue hclearing hmode
    exact ⟨hseq, hrest, by rw [hrecords, Tbl.look_put]; rfl⟩
  case clear => rw [bookClearDone_marker hclearing]

end Sys2Proof.Machine
end

section
/-!
PROOFS. One step of the machine (chapters 0 and 4): a command, an event or a clock, and the mailboxes each of them leaves (R65 to R67).
-/
namespace Sys2Proof

/-- A change of one place of a list leaves every other place. -/
theorem nth_updAt_ne {α : Type} (l : List α) {i k : Nat} (h : k ≠ i) (f : α → α) (d : α) : nth (updAt l i f) k d = nth l k d := by
  induction l generalizing i k with
  | nil => rfl
  | cons x t ih =>
    cases i with
    | zero => cases k with
      | zero => exact absurd rfl h
      | succ k => rfl
    | succ i => cases k with
      | zero => rfl
      | succ k =>
        have hki : k ≠ i := fun e => h (congrArg (· + 1) e)
        simpa [updAt, nth] using ih hki

end Sys2Proof

namespace Sys2Proof.Machine

/-! ## A step is a command or a clock -/

/-- Every command and event ends settled. -/
theorem exec_eq_settle (c : Instr) (s : State) : ∃ t : State, exec c s = .next t.settle := by
  cases c <;> exact ⟨_, rfl⟩

/-- With no command waiting a step is one timing clock. -/
theorem step_of_empty {s : State} (h : s.pending = []) : step s = .next (tick s) := by
  simp only [step, h]

/-- In OFF no clock passes. -/
theorem tick_of_off {s : State} (h : s.mode.mode = .off) : tick s = s := by
  simp [tick, h]

/-- With a command waiting a step is that command with the rest of the queue. -/
theorem step_of_cons {s : State} {c : Instr} {rest : List Instr} (h : s.pending = c :: rest) :
    step s = exec c { s with pending := rest } := by
  simp only [step, h]

/-- Settles O1: a step takes the command at the front. -/
theorem stepRunsTheFrontCommand : Obligations.StepRunsTheFrontCommand :=
  fun _ _ _ => step_of_cons rfl

/-- Settles O2: with an empty queue the step is the tick, and the tick of OFF is no change. -/
theorem emptyQueueIsOneClock : Obligations.EmptyQueueIsOneClock := by
  intro s hempty
  refine ⟨step_of_empty hempty, fun hoff => ?_⟩
  rw [step_of_empty hempty, tick_of_off hoff]

/-- Settles O3: every command ends settled, and a step is a command or a clock. -/
theorem everyStepGoesOn : Obligations.EveryStepGoesOn := by
  have hexec : ∀ (c : Instr) (s : State), ∃ t, exec c s = .next t := fun c s =>
    (exec_eq_settle c s).imp' State.settle fun _ h => h
  refine ⟨hexec, fun s => ?_⟩
  cases hp : s.pending with
  | nil => exact ⟨_, step_of_empty hp⟩
  | cons c rest => rw [step_of_cons hp]; exact hexec c _

/-! ## Mailboxes as they are settled (R65 to R67) -/

/-- Mailbox m agrees with what its receiver can do: POSTED only while it is able, WAITING only while it is not, with the reason of now. -/
def State.MbxAgrees (s : State) (m : Nat) : Prop :=
  ((nth s.mbx m {}).state = .posted → s.waitReason m = 0) ∧
    ((nth s.mbx m {}).state = .waiting → s.waitReason m ≠ 0 ∧ (nth s.mbx m {}).reason = s.waitReason m)

/-- The mailbox invariant asks every mailbox to agree, but in OFF. -/
theorem Safety.mailboxes_iff (s : State) : Safety.mailboxes s ↔ (s.mode.mode ≠ .off → ∀ m, m < 16 → s.MbxAgrees m) :=
  Iff.rfl

/-- Bringing one mailbox up to date changes no other mailbox, and beside the mailboxes only interrupts and what is put out. -/
theorem State.mbxRefresh_eq (s : State) (m : Nat) :
    ∃ l h o, s.mbxRefresh m = { s with mbx := l, hif := h, out := o } ∧ ∀ k, k ≠ m → nth l k {} = nth s.mbx k {} := by
  have hgo : ∀ f : Mbx → Mbx, ∀ k, k ≠ m → nth (updAt s.mbx m f) k {} = nth s.mbx k {} :=
    fun f k hk => nth_updAt_ne _ hk f _
  simp only [State.mbxRefresh]
  split
  · split
    · exact ⟨_, _, _, rfl, fun _ _ => rfl⟩
    · exact ⟨_, _, _, rfl, hgo _⟩
  · split
    · split
      · obtain ⟨h, o, e⟩ := (s.mbxGo m .posted 0).setMbxCause_eq m
        exact ⟨_, h, o, e, hgo _⟩
      · exact ⟨_, _, _, rfl, hgo _⟩
    · split
      · exact ⟨_, _, _, rfl, fun _ _ => rfl⟩
      · exact ⟨_, _, _, rfl, hgo _⟩
  · exact ⟨_, _, _, rfl, fun _ _ => rfl⟩

/-- Bringing one mailbox up to date leaves every receiver as able as it was. -/
@[simp] theorem State.mbxRefresh_waitReason (s : State) (m k : Nat) : (s.mbxRefresh m).waitReason k = s.waitReason k := by
  obtain ⟨l, h, o, e, -⟩ := s.mbxRefresh_eq m
  rw [e]
  rfl

/-- Bringing one mailbox up to date leaves the agreement of every other one. -/
theorem State.mbxRefresh_agrees_ne {s : State} {m k : Nat} (hk : k ≠ m) (h : s.MbxAgrees k) : (s.mbxRefresh m).MbxAgrees k := by
  obtain ⟨l, i, o, e, hl⟩ := s.mbxRefresh_eq m
  have hbox : nth (s.mbxRefresh m).mbx k {} = nth s.mbx k {} := by rw [e]; exact hl k hk
  simpa only [State.MbxAgrees, hbox, State.mbxRefresh_waitReason] using h

/-- A mailbox that is neither POSTED nor WAITING agrees. -/
theorem State.mbxAgrees_of_idle {s : State} {m : Nat} (hp : (nth s.mbx m {}).state ≠ .posted)
    (hw : (nth s.mbx m {}).state ≠ .waiting) : s.MbxAgrees m :=
  ⟨fun h => absurd h hp, fun h => absurd h hw⟩

/-- A mailbox that does not exist is EMPTY. -/
theorem State.mbx_exists_of_state {s : State} {m : Nat} (h : (nth s.mbx m {}).state ≠ .empty) : m < s.mbx.length := by
  refine Nat.lt_of_not_le fun hm => h ?_
  simp [nth, List.getElem?_eq_none hm]

/-- What stands in an existing mailbox after a change of its state. -/
theorem State.mbxGo_nth {s : State} {m : Nat} (hm : m < s.mbx.length) (st : MbxState) (r : Nat) :
    nth (s.mbxGo m st r).mbx m {} = { nth s.mbx m {} with state := st, reason := r, time := s.ns32 } :=
  nth_updAt _ _ _ _ hm

/-- A mailbox brought up to date agrees. -/
theorem State.mbxRefresh_agrees (s : State) (m : Nat) : (s.mbxRefresh m).MbxAgrees m := by
  rw [State.MbxAgrees, State.mbxRefresh_waitReason]
  cases hst : (nth s.mbx m {}).state with
  | posted =>
    have hm : m < s.mbx.length := State.mbx_exists_of_state (by simp [hst])
    by_cases hr : s.waitReason m = 0
    · simp [State.mbxRefresh, hst, hr]
    · simp [State.mbxRefresh, hst, hr, State.mbxGo_nth hm]
  | waiting =>
    have hm : m < s.mbx.length := State.mbx_exists_of_state (by simp [hst])
    by_cases hr : s.waitReason m = 0
    · have hbox : (nth (s.mbxRefresh m).mbx m {}).state = .posted := by
        simp only [State.mbxRefresh, hst, hr, if_true]
        split
        · obtain ⟨h, o, e⟩ := (s.mbxGo m .posted 0).setMbxCause_eq m
          simp [e, State.mbxGo_nth hm]
        · simp [State.mbxGo_nth hm]
      simp [hbox, hr]
    · by_cases hreason : (nth s.mbx m {}).reason = s.waitReason m
      · simp [State.mbxRefresh, hst, hr, hreason]
      · simp [State.mbxRefresh, hst, hr, hreason, nth_updAt _ _ _ _ hm]
  | empty | accepted | acked => simp [State.mbxRefresh, hst]

/-- All sixteen mailboxes brought up to date. -/
def State.mbxRefreshAll (s : State) (n : Nat) : State := (List.range n).foldl (fun s m => s.mbxRefresh m) s

/-- One mailbox more is brought up to date after those before it. -/
theorem State.mbxRefreshAll_succ (s : State) (n : Nat) : s.mbxRefreshAll (n + 1) = (s.mbxRefreshAll n).mbxRefresh n := by
  simp [State.mbxRefreshAll, List.range_succ]

/-- Bringing mailboxes up to date changes only them, interrupts and what is put out. -/
theorem State.mbxRefreshAll_eq (s : State) (n : Nat) : ∃ l h o, s.mbxRefreshAll n = { s with mbx := l, hif := h, out := o } := by
  induction n with
  | zero => exact ⟨_, _, _, rfl⟩
  | succ n ih =>
    obtain ⟨l, h, o, e⟩ := ih
    obtain ⟨l', h', o', e', -⟩ := (s.mbxRefreshAll n).mbxRefresh_eq n
    exact ⟨l', h', o', by rw [State.mbxRefreshAll_succ, e', e]⟩

/-- Every mailbox brought up to date agrees, since a later one leaves it. -/
theorem State.mbxRefreshAll_agrees (s : State) (n : Nat) : ∀ m, m < n → (s.mbxRefreshAll n).MbxAgrees m := by
  induction n with
  | zero => exact fun m h => absurd h (Nat.not_lt_zero m)
  | succ n ih =>
    intro m hm
    rw [State.mbxRefreshAll_succ]
    rcases Nat.lt_succ_iff_lt_or_eq.mp hm with hlt | rfl
    · exact State.mbxRefresh_agrees_ne (Nat.ne_of_lt hlt) (ih m hlt)
    · exact State.mbxRefresh_agrees _ _

/-- What a command ends with before its mailboxes are brought up to date. -/
def State.settledBlocks (s : State) : State := (settleDue 1024 s).retireAll.carveAll.timeM fun t => { t with oldNs := none }

/-- Settling is the blocks, then the mailboxes unless the engine is in OFF. -/
theorem State.settle_eq (s : State) :
    s.settle = if s.settledBlocks.mode.mode = .off then s.settledBlocks else s.settledBlocks.mbxRefreshAll 16 := rfl

/-- A settled state meets the mailbox invariant, whatever came before. -/
theorem State.settle_mailboxes (s : State) : Safety.mailboxes s.settle := by
  rw [Safety.mailboxes_iff, State.settle_eq]
  split
  · exact fun hmode => absurd ‹_› hmode
  · exact fun _ => State.mbxRefreshAll_agrees _ 16

/-! ## A clock -/

/-- A fold of steps that change counters changes counters only. -/
theorem State.foldl_cnt_eq {α : Type} {f : State → α → State} (hf : ∀ s x, ∃ c, f s x = { s with cnt := c }) (l : List α)
    (s : State) : ∃ c, l.foldl f s = { s with cnt := c } := by
  induction l generalizing s with
  | nil => exact ⟨s.cnt, rfl⟩
  | cons x l ih =>
    obtain ⟨c, hc⟩ := hf s x
    obtain ⟨d, hd⟩ := ih (f s x)
    exact ⟨d, by rw [List.foldl_cons, hd, hc]⟩

/-- The performance counters of a clock change nothing but themselves. -/
theorem State.perfClocks_eq (s : State) : ∃ c, s.perfClocks = { s with cnt := c } := by
  refine State.foldl_cnt_eq (fun t e => ?_) _ s
  dsimp only
  split
  · exact ⟨t.cnt, rfl⟩
  · exact t.perfAdd_eq _ _

/-- The clocks going on change nothing but themselves. -/
theorem State.tickClocks_eq (s : State) : ∃ t, s.tickClocks = { s with time := t } := by
  simp only [State.tickClocks, State.followDom]
  split
  · exact ⟨_, rfl⟩
  · split <;> exact ⟨_, rfl⟩

/-- A clock changes the clocks, the counters and the cellar's cycles. -/
theorem tick_eq (s : State) : ∃ t b c, tick s = { s with time := t, book := b, cnt := c } := by
  obtain ⟨c, hc⟩ := s.perfClocks_eq
  obtain ⟨t, ht⟩ := s.perfClocks.tickClocks_eq
  rw [hc] at ht
  simp only [tick, hc, ht]
  repeat' split
  all_goals exact ⟨_, _, _, rfl⟩

/-- A clock keeps the mailbox invariant: it changes no mailbox and nothing a receiver needs. -/
theorem tick_mailboxes {s : State} (h : Safety.mailboxes s) : Safety.mailboxes (tick s) := by
  obtain ⟨t, b, c, e⟩ := tick_eq s
  rw [e]
  exact h

/-- Settles O6: a command ends settled, which brings every mailbox up to date, and a clock changes nothing mailboxes rest on. -/
theorem mailboxesAgreeAlways : Obligations.MailboxesAgreeAlways := by
  intro s t hinv hstep
  cases hp : s.pending with
  | nil =>
    rw [step_of_empty hp] at hstep
    cases hstep
    exact tick_mailboxes hinv
  | cons c rest =>
    obtain ⟨u, hu⟩ := exec_eq_settle c { s with pending := rest }
    rw [step_of_cons hp, hu] at hstep
    cases hstep
    exact u.settle_mailboxes

/-- Settles O5: every mailbox is EMPTY at reset. -/
theorem mailboxesAgreeAtReset : Obligations.MailboxesAgreeAtReset := by
  intro _ m hm
  have hbox : nth State.reset.mbx m {} = ({} : Mbx) := by
    rw [nth, State.reset, List.getElem?_replicate, if_pos hm, Option.getD_some]
  exact State.mbxAgrees_of_idle (by rw [hbox]; decide) (by rw [hbox]; decide)

/-! ## Settling with nothing due (R65 to R68) -/

/-- With no reaction due none is applied. -/
theorem settleDue_of_none {s : State} (h : s.flt.due = []) (n : Nat) : settleDue (n + 1) s = s := by
  simp only [settleDue, h]

/-- With no association being retired none ends. -/
theorem State.retireAll_of_none {s : State} (h : ∀ e ∈ s.cip.sas, e.2.retiring = false) : s.retireAll = s := by
  have hnone : (s.cip.sas.filter fun e => e.2.retiring) = [] := List.filter_eq_nil_iff.mpr fun e he => by simp [h e he]
  simp only [State.retireAll, hnone, List.foldl_nil]

/-- With no column being carved no carve goes on. -/
theorem State.carveAll_of_none {s : State} (h : ∀ k ∈ s.core.cols, k.carve = none) : s.carveAll = s := by
  have hnone : (s.core.cols.any fun k => k.carve.isSome) = false := List.any_eq_false.mpr fun k hk => by simp [h k hk]
  simp [State.carveAll, hnone]

/-- Settles O9: the parts of settling with nothing to do are no change, and the mailboxes' part is `mbxRefreshAll_eq`. -/
theorem settledStatesStay : Obligations.SettledStatesStay := by
  intro s hdue hretire hcarve
  have hblocks : s.settledBlocks = { s with time := { s.time with oldNs := none } } := by
    unfold State.settledBlocks
    rw [settleDue_of_none hdue 1023, State.retireAll_of_none hretire, State.carveAll_of_none hcarve]
    rfl
  rw [State.settle_eq, hblocks]
  split
  · exact ⟨_, _, _, rfl⟩
  · exact State.mbxRefreshAll_eq _ 16

end Sys2Proof.Machine
end

section
/-!
PROOFS. Replies and events (chapters 3 and 4): what the end of a command and the raising of an event leave as it was (R55, R82, R89, R97).
-/
namespace Sys2Proof.Machine

/-! ## The end of a command (R89, R503, R506) -/

/-- The power policy's check of which domains may sleep on leaves everything behind the host link. -/
theorem State.powerCheck_behind (s : State) : Safety.Behind s s.powerCheck := by
  unfold State.powerCheck
  split
  · refine Safety.Behind.foldl _ (fun s d => ?_) _ s
    split
    · split
      · exact .rfl' s
      · exact s.wakeDom_behind d
    · split
      · exact .rfl' s
      · exact s.wakeDom_behind d
    · exact .rfl' s
  · exact .rfl' s

/-- Waking the domains a command reaches leaves everything behind the host link. -/
theorem State.reach_behind (s : State) (op : Nat) (c : Packet) : Safety.Behind s (s.reach op c) :=
  Safety.Behind.foldl _ (fun s d => s.wakeDom_behind d) _ s

/-- Settles O7: a completion, a failure and a read end in `complete`, before it at most wakes and after it the power policy's check. -/
theorem repliesTouchNothingBehindThem : Obligations.RepliesTouchNothingBehindThem :=
  ⟨fun s op c st d ws => s.complete_behind op c st d ws,
    fun s op c st d => (s.complete_behind op c st d []).trans (State.powerCheck_behind _),
    fun s op c ws => ((s.reach_behind op c).trans (State.complete_behind _ op c .ok 0 ws)).trans (State.powerCheck_behind _)⟩

/-! ## Raising an event (R55, R97) -/

/-- With no active event ring an event only takes its number and counts as lost. -/
theorem State.postEvent_of_inactive {s : State} (h : (nth s.hif.rings 5 {}).active = false) (code obj : Nat) (payload : List Word) :
    s.postEvent code obj payload =
      s.cmdsM fun c => { c with eventSeq := (c.eventSeq + 1) % 4294967296, lost := satAdd 64 c.lost 1 } := by
  simp only [State.postEvent, State.cmdsM_hif, h, Bool.not_false, Bool.true_or, if_true]
  rfl

/-- Settles O8: an event changes the host link, the counters, the output and its own bookkeeping; with no active ring only the last. -/
theorem eventsTakeTheNextNumber : Obligations.EventsTakeTheNextNumber := by
  intro s code obj payload t
  obtain ⟨h, o, c, k, heq, hseq⟩ := s.postEvent_eq code obj payload
  have ht : t = { s with hif := h, out := o, cnt := c, cmds := k } := heq
  refine ⟨?seq, ?behind, ?flt, ?ddr, ?pwr, ?vnt, ?smb, ?free, ?lost⟩
  case seq => rw [ht]; exact hseq
  case behind => rw [ht]; constructor <;> rfl
  case lost =>
    intro hring
    have hlost : t = _ := State.postEvent_of_inactive hring code obj payload
    rw [hlost]
    exact ⟨rfl, rfl, rfl⟩
  all_goals rw [ht]

end Sys2Proof.Machine
end

section
/-!
PROOFS. Prefix lookup (chapter 7): the search answers a longest entry among those that fit (R182).
-/
namespace Sys2Proof.Machine

/-- The entry a search holds after one that fits: the longer of the two, the earlier one when they are equal. -/
def longer (o : Option Prefix) (x : Prefix) : Option Prefix :=
  match o with
  | some y => if y.len < x.len then some x else o
  | none => some x

/-- A search keeps one of the prefixes it has seen, and none that it has seen is longer. -/
theorem foldl_longer_some (l : List Prefix) (y : Prefix) :
    ∃ x, l.foldl longer (some y) = some x ∧ (x = y ∨ x ∈ l) ∧ y.len ≤ x.len ∧ ∀ z ∈ l, z.len ≤ x.len := by
  induction l generalizing y with
  | nil => exact ⟨y, rfl, .inl rfl, Nat.le_refl _, fun z hz => absurd hz List.not_mem_nil⟩
  | cons z l ih =>
    rw [List.foldl_cons, longer]
    split
    next hlt =>
      obtain ⟨x, hx, hmem, hle, hall⟩ := ih z
      refine ⟨x, hx, .inr (List.mem_cons.mpr hmem), by omega, ?_⟩
      exact List.forall_mem_cons.mpr ⟨hle, hall⟩
    next hge =>
      obtain ⟨x, hx, hmem, hle, hall⟩ := ih y
      refine ⟨x, hx, hmem.imp_right (List.mem_cons_of_mem z), hle, ?_⟩
      exact List.forall_mem_cons.mpr ⟨by omega, hall⟩

/-- A search over a list answers a longest entry of it, and nothing only when it is empty. -/
theorem foldl_longer_none (l : List Prefix) :
    match l.foldl longer none with
    | some x => x ∈ l ∧ ∀ z ∈ l, z.len ≤ x.len
    | none => l = [] := by
  cases l with
  | nil => rfl
  | cons y l =>
    obtain ⟨x, hx, hmem, hle, hall⟩ := foldl_longer_some l y
    rw [List.foldl_cons, longer, hx]
    exact ⟨List.mem_cons.mpr hmem, List.forall_mem_cons.mpr ⟨hle, hall⟩⟩

/-- The prefixes a search looks at: those of the realm and the family that cover the address and are visible in the epoch. -/
def State.pfxCandidates (s : State) (r : Nat) (v6 : Bool) (a p : Nat) : List Prefix :=
  s.lookup.pfx.filter fun x => x.realm == r && x.v6 == v6 && x.covers a && visible x.birth x.death x.deathSet p

/-- A search is the fold over its candidates. -/
theorem State.pfxFind_eq (s : State) (r : Nat) (v6 : Bool) (a p : Nat) :
    s.pfxFind r v6 a p = (s.pfxCandidates r v6 a p).foldl longer none := rfl

/-- Which prefixes a search looks at. -/
theorem State.mem_pfxCandidates {s : State} {r : Nat} {v6 : Bool} {a p : Nat} {x : Prefix} :
    x ∈ s.pfxCandidates r v6 a p ↔
      x ∈ s.lookup.pfx ∧ x.realm = r ∧ x.v6 = v6 ∧ x.covers a = true ∧ visible x.birth x.death x.deathSet p = true := by
  simp [State.pfxCandidates, and_assoc]

/-- Settles O10: the search is a fold that keeps the longest of its candidates, and those are the prefixes that fit. -/
theorem prefixSearchFindsTheLongest : Obligations.PrefixSearchFindsTheLongest := by
  intro s r v6 a p fits
  have hfits : ∀ x, x ∈ s.pfxCandidates r v6 a p ↔ fits x := fun x => State.mem_pfxCandidates
  have hfold := foldl_longer_none (s.pfxCandidates r v6 a p)
  rw [State.pfxFind_eq]
  refine ⟨fun x hx => ?_, fun hnone y hy => ?_⟩
  · rw [hx] at hfold
    exact ⟨(hfits x).mp hfold.1, fun y hy => hfold.2 y ((hfits y).mpr hy)⟩
  · rw [hnone] at hfold
    have hmem := (hfits y).mpr hy
    rw [show s.pfxCandidates r v6 a p = [] from hfold] at hmem
    exact List.not_mem_nil hmem

end Sys2Proof.Machine
end

section
/-!
PROOFS. The DDR5 memory (chapter 20): what a store leaves at each address, with and without a failed channel (R516, R522).
-/
namespace Sys2Proof

/-- A change of one entry that keeps a field keeps it of every entry. -/
theorem nth_updAt_field {α β : Type} (g : α → β) {f : α → α} (hf : ∀ x, g (f x) = g x) (l : List α) (i k : Nat) (d : α) :
    g (nth (updAt l i f) k d) = g (nth l k d) := by
  by_cases hk : k = i
  · subst hk
    rcases Nat.lt_or_ge k l.length with hlt | hge
    · rw [nth_updAt _ _ _ _ hlt, hf]
    · rw [updAt_out _ _ _ hge]
  · rw [nth_updAt_ne _ hk]

/-- A byte of the front part of a string. -/
theorem byteAt_take {b : Bytes} {k i : Nat} (h : i < k) : byteAt (b.take k) i = byteAt b i := by
  simp [byteAt, h]

/-- A byte of the rest of a string. -/
theorem byteAt_drop (b : Bytes) (k i : Nat) : byteAt (b.drop k) i = byteAt b (k + i) := by
  simp [byteAt, List.getElem?_drop]

end Sys2Proof

namespace Sys2Proof.Machine

/-- Waking a domain leaves the DDR5 controller. -/
@[simp] theorem State.wakeDom_ddr (s : State) (d : Nat) : (s.wakeDom d).ddr = s.ddr := by
  unfold State.wakeDom
  dsimp only
  split
  · obtain ⟨c, hc⟩ := (s.emit (.wake d)).perf_eq 79 0x10 1
    rw [hc]
    rfl
  · rfl

/-- Taking planted bits leaves the DDR5 controller. -/
@[simp] theorem State.takePlanted_ddr (s : State) (l : List Nat) : (s.takePlanted l).2.ddr = s.ddr := by
  unfold State.takePlanted
  dsimp only
  split <;> rfl

/-- As many channels are in use as were, in the states they had: every address lies in the channel it lay in. -/
def Ddr.SameChannels (d e : Ddr) : Prop := e.inUse = d.inUse ∧ ∀ k, (nth e.chans k {}).st = (nth d.chans k {}).st

/-- Two such changes one after the other. -/
theorem Ddr.SameChannels.trans {a b c : Ddr} (h : a.SameChannels b) (k : b.SameChannels c) : a.SameChannels c :=
  ⟨k.1.trans h.1, fun i => (k.2 i).trans (h.2 i)⟩

/-- A change of a channel that keeps its state. -/
theorem Ddr.SameChannels.updAt (d : Ddr) (c : Nat) {f : Chan → Chan} (hf : ∀ h, (f h).st = h.st) :
    d.SameChannels { d with chans := updAt d.chans c f } :=
  ⟨rfl, fun k => nth_updAt_field Chan.st hf _ c k {}⟩

/-- The state of the channel an address lies in. -/
def Ddr.stateAt (d : Ddr) (x : Nat) : ChState := (nth d.chans (d.chanOf x) {}).st

/-- The state of the channel an address lies in, in the words of the machine. -/
theorem State.chan_chanOf_st (s : State) (x : Nat) : (s.chan (s.ddr.chanOf x)).st = s.ddr.stateAt x := rfl

/-- Channels that are the same are the same at each address. -/
theorem Ddr.SameChannels.stateAt {d e : Ddr} (h : d.SameChannels e) (x : Nat) : e.stateAt x = d.stateAt x := by
  obtain ⟨huse, hst⟩ := h
  rw [Ddr.stateAt, hst, Ddr.chanOf, Ddr.width, huse]
  rfl

/-- Two addresses of one 64-byte line lie in one channel. -/
theorem Ddr.stateAt_of_line (d : Ddr) {a x : Nat} (h : x / 64 = a / 64) : d.stateAt x = d.stateAt a := by
  rw [Ddr.stateAt, Ddr.stateAt, Ddr.chanOf, Ddr.chanOf, show x / 256 = a / 256 by omega]

/-- A request to a channel and the bits planted for it keep the channels' states and the memory. -/
theorem State.ddrRequest_keeps (s : State) (c : Nat) :
    s.ddr.SameChannels (s.ddrRequest c).ddr ∧ (s.ddrRequest c).ddr.mem = s.ddr.mem := by
  have hchan := Ddr.SameChannels.updAt (s.wakeDom 31).ddr c (f := fun h => { h with pdown := [false, false] }) fun _ => rfl
  rw [State.wakeDom_ddr] at hchan
  have hddr : (s.ddrRequest c).ddr = { s.ddr with chans := Sys2Proof.updAt s.ddr.chans c fun h => { h with pdown := [false, false] } } := by
    rw [← s.wakeDom_ddr 31]
    rfl
  rw [hddr]
  exact ⟨hchan, rfl⟩

/-- Planting bits for a line keeps the channels' states and the memory. -/
theorem State.ddrPlant_keeps (s : State) (c line : Nat) (whole : Bool) :
    s.ddr.SameChannels (s.ddrPlant c line whole).ddr ∧ (s.ddrPlant c line whole).ddr.mem = s.ddr.mem := by
  unfold State.ddrPlant
  dsimp only
  generalize hu : (State.takePlanted _ [0x104 + c]).2 = u
  have huddr : u.ddr = s.ddr := by rw [← hu, State.takePlanted_ddr, State.takePlanted_ddr]
  rw [← huddr]
  exact ⟨Ddr.SameChannels.updAt u.ddr c fun _ => rfl, rfl⟩

/-- A write within one line to a failed channel changes no channel's state and no byte; to another it writes its bytes. -/
theorem State.ddrStoreLine_keeps (s : State) (a : Nat) (b : Bytes) :
    s.ddr.SameChannels (s.ddrStoreLine a b).ddr ∧
      (s.ddrStoreLine a b).ddr.mem = if s.ddr.stateAt a = .failed then s.ddr.mem else Mem.writes s.ddr.mem a b := by
  obtain ⟨hreq, hreqMem⟩ := s.ddrRequest_keeps (s.ddr.chanOf a)
  have hfailed : ((s.ddrRequest (s.ddr.chanOf a)).chan (s.ddr.chanOf a)).st = s.ddr.stateAt a := hreq.2 _
  unfold State.ddrStoreLine
  dsimp only
  rw [hfailed]
  split
  · exact ⟨hreq, hreqMem⟩
  · obtain ⟨hplant, hplantMem⟩ := (s.ddrRequest (s.ddr.chanOf a)).ddrPlant_keeps (s.ddr.chanOf a) (a / 64 * 64) (b.length == 64)
    generalize (s.ddrRequest (s.ddr.chanOf a)).ddrPlant (s.ddr.chanOf a) (a / 64 * 64) (b.length == 64) = u at hplant hplantMem
    obtain ⟨c, hc⟩ := u.perf_eq (67 + s.ddr.chanOf a) 0x11 1
    have hmem : u.ddr.mem = s.ddr.mem := hplantMem.trans hreqMem
    rw [hc, ← hmem]
    exact ⟨hreq.trans hplant, rfl⟩

/-- What a write within one line leaves at each address. -/
theorem State.ddrStoreLine_read (s : State) (a : Nat) (b : Bytes) (x : Nat) :
    Mem.read (s.ddrStoreLine a b).ddr.mem x =
      if (a ≤ x ∧ x < a + b.length) ∧ s.ddr.stateAt a ≠ .failed then by8 (byteAt b (x - a)) else Mem.read s.ddr.mem x := by
  rw [(s.ddrStoreLine_keeps a b).2]
  by_cases hfail : s.ddr.stateAt a = .failed
  · simp [hfail]
  · simp only [hfail, if_false, Mem.read_writes, ne_eq, not_false_eq_true, and_true]

/-- What a string written over several lines leaves at each address. -/
theorem State.ddrPieces_read (n : Nat) (s : State) (a : Nat) (b : Bytes) (x : Nat) (hn : b.length = 0 ∨ a % 64 + b.length ≤ 64 * n) :
    Mem.read (State.ddrPieces n s a b).ddr.mem x =
      if (a ≤ x ∧ x < a + b.length) ∧ s.ddr.stateAt x ≠ .failed then by8 (byteAt b (x - a)) else Mem.read s.ddr.mem x := by
  induction n generalizing s a b with
  | zero =>
    rw [if_neg (by omega)]
    rfl
  | succ n ih =>
    rw [State.ddrPieces]
    split
    next hempty =>
      have hlen : b.length = 0 := by rw [List.isEmpty_iff.mp hempty]; rfl
      rw [if_neg (by omega)]
    next =>
      dsimp only
      have hdrop : (b.drop (64 - a % 64)).length = b.length - (64 - a % 64) := List.length_drop
      have htake : (b.take (64 - a % 64)).length = min (64 - a % 64) b.length := List.length_take
      rw [ih _ _ _ (by omega), (s.ddrStoreLine_keeps _ _).1.stateAt, s.ddrStoreLine_read]
      rcases Nat.lt_or_ge x (a + (64 - a % 64)) with hline | hrest
      · rw [if_neg (by omega)]
        rcases Nat.lt_or_ge x a with hbefore | hin
        · rw [if_neg (by omega), if_neg (by omega)]
        · rw [s.ddr.stateAt_of_line (show x / 64 = a / 64 by omega), byteAt_take (by omega)]
          exact ite_congr (propext (and_congr_left fun _ => by omega)) (fun _ => rfl) fun _ => rfl
      · rw [if_neg (c := (a ≤ x ∧ x < a + (b.take (64 - a % 64)).length) ∧ _) (by omega), byteAt_drop,
          show 64 - a % 64 + (x - (a + (64 - a % 64))) = x - a by omega]
        exact ite_congr (propext (and_congr_left fun _ => by omega)) (fun _ => rfl) fun _ => rfl

/-- What a store leaves at each address: its byte where it writes and the channel serves, and what stood there elsewhere. -/
theorem State.ddrStore_read (s : State) (a : Nat) (b : Bytes) (x : Nat) :
    Mem.read (s.ddrStore a b).ddr.mem x =
      if (a ≤ x ∧ x < a + b.length) ∧ s.ddr.stateAt x ≠ .failed then by8 (byteAt b (x - a)) else Mem.read s.ddr.mem x :=
  State.ddrPieces_read _ s a b x (by omega)

/-- Settles O11: `ddrStore_read` says it of every address, in its three cases. -/
theorem storesWriteTheirOwnBytes : Obligations.StoresWriteTheirOwnBytes := by
  intro s a b x
  rw [s.ddrStore_read, State.chan_chanOf_st]
  refine ⟨fun hout => ?_, fun hle hlt hserves => ?_, fun _ _ hfailed => ?_⟩
  · rw [if_neg fun h => hout h.1]
  · rw [if_pos ⟨⟨hle, hlt⟩, hserves⟩]
  · rw [if_neg fun h => h.2 hfailed]

end Sys2Proof.Machine
end

section
/-!
PROOFS. Faults (chapter 22): the capture of the first fault of a source (R561, R563, R565, R566).
-/
namespace Sys2Proof

/-- A value just changed, as a look-up with a default finds it. -/
theorem Tbl.lookD_upd {α : Type} (t : Tbl α) (q : Nat) (d : α) (f : α → α) :
    Tbl.lookD (Tbl.upd t q d f) q d = f (Tbl.lookD t q d) := by
  simp only [Tbl.upd, Tbl.lookD, Tbl.look_put, Option.getD_some]

end Sys2Proof

namespace Sys2Proof.Machine

/-- A source's entry with one fault more counted. -/
def FSrc.counted (e : FSrc) : FSrc := { e with since := sat32 e.since, count := sat32 e.count }

/-- What counting a fault leaves at its source. -/
theorem State.countFault_src (s : State) (src cls : Nat) :
    Tbl.lookD (s.countFault src cls).flt.src src {} = (Tbl.lookD s.flt.src src {}).counted :=
  Tbl.lookD_upd s.flt.src src {} FSrc.counted

/-- Counting a fault leaves the reaction in force for its source. -/
theorem State.countFault_reaction (s : State) (src cls : Nat) :
    (s.countFault src cls).flt.reaction src cls = s.flt.reaction src cls := by
  simp only [Faults.reaction, State.countFault_src]
  rfl

/-- A fault of a source whose capture register is full is only counted. -/
theorem State.fault_of_full {s : State} {src cls : Nat} (hcls : faultClass src = some cls)
    (h : (Tbl.lookD s.flt.src src {}).capture.isSome = true) (master access addr syn : Nat) :
    s.fault src master access addr syn = s.countFault src cls := by
  simp only [State.fault, hcls, h, if_true]

/-- The capture of a fault in a state, with its syndrome. -/
def State.captureOf (s : State) (src cls master access addr syn : Nat) : Capture :=
  { source := src, cls := cls, master := master, access := access, addr := addr % 2 ^ 64, time := s.time.record.t
    reactions := s.flt.reaction src cls, syndrome := syn }

/-- A fault of a source whose capture register is empty is counted and captured; an ECC source draws its syndrome. -/
theorem State.fault_of_empty {s : State} {src cls : Nat} (hcls : faultClass src = some cls)
    (h : (Tbl.lookD s.flt.src src {}).capture = none) (master access addr syn : Nat) :
    s.fault src master access addr syn =
      if eccSource src then
        (s.countFault src cls).drawn.takeCapture (s.captureOf src cls master access addr (Config.freeValue s.free % 16777216))
      else (s.countFault src cls).takeCapture (s.captureOf src cls master access addr syn) := by
  have hempty : (Tbl.lookD s.flt.src src {}).capture.isSome = false := by rw [h]; rfl
  simp only [State.fault, hcls, hempty, Bool.false_eq_true, if_false, State.captureOf, ← State.countFault_reaction s src cls]
  split <;> rfl

/-- The capture register, the list of the boot and the reactions due once a capture is taken. -/
def State.captured (s : State) (cap : Capture) : State :=
  s.fltM fun f => { f with
    src := Tbl.upd f.src cap.source {} fun e => { e with capture := some cap, since := 1 }
    taken := sat32 f.taken
    first := if s.flt.taken < 8 then f.first ++ [cap] else f.first
    due := f.due ++ duesOf cap.source cap.reactions cap }

/-- The record a capture queues when its reactions ask for one. -/
def State.captureLogged (s : State) (cap : Capture) : State :=
  if nbit cap.reactions 0 then
    (s.captured cap).bookPut (s.captured cap).recordRuns
      (if s.flt.taken < 8 then some (6400 + 8 * (s.mode.bootCount % 224) + s.flt.taken) else none) 0x10 cap.bytes
  else s.captured cap

/-- Queueing the record leaves the faults and the event bookkeeping. -/
theorem State.captureLogged_flt_cmds (s : State) (cap : Capture) :
    (s.captureLogged cap).flt = (s.captured cap).flt ∧ (s.captureLogged cap).cmds = s.cmds := by
  unfold State.captureLogged
  split
  · obtain ⟨k, hk⟩ := (s.captured cap).bookPut_eq (s.captured cap).recordRuns
      (if s.flt.taken < 8 then some (6400 + 8 * (s.mode.bootCount % 224) + s.flt.taken) else none) 0x10 cap.bytes
    rw [hk]
    exact ⟨rfl, rfl⟩
  · exact ⟨rfl, rfl⟩

/-- What the FAULT event names as the reaction: the fixed one of source 0, the source's own, or the default of its class. -/
def State.reactionWord (s : State) (src cls : Nat) : Nat :=
  if src = 0 then 0x13 else if (Tbl.lookD s.flt.src src {}).own.isSome then 0x20 else nth s.flt.defaults cls 0

/-- The FAULT event of a capture, after its record and its cause bit. -/
def State.captureReported (s : State) (cap : Capture) : State :=
  ((s.captureLogged cap).setCause 4).postEvent 0x1001 cap.source
    (bytesWords cap.bytes ++ [wd (min (s.flt.taken + 1) 255), wd (s.reactionWord cap.source cap.cls)])

/-- A capture is taken and recorded, and reported when its reactions ask for it. -/
theorem State.takeCapture_eq_reported (s : State) (cap : Capture) :
    s.takeCapture cap = if nbit cap.reactions 1 then s.captureReported cap else s.captureLogged cap := by
  have hword : s.reactionWord cap.source cap.cls =
      if cap.source = 0 then 0x13 else if (Tbl.lookD s.flt.src cap.source {}).own.isSome then 0x20
        else nth (s.captureLogged cap).flt.defaults cap.cls 0 := by
    rw [(s.captureLogged_flt_cmds cap).1]
    rfl
  rw [State.captureReported, hword]
  rfl

/-- Taking a capture leaves the faults as the capture has them, recorded and reported or not. -/
theorem State.takeCapture_flt (s : State) (cap : Capture) : (s.takeCapture cap).flt = (s.captured cap).flt := by
  rw [← (s.captureLogged_flt_cmds cap).1, State.takeCapture_eq_reported]
  split
  · unfold State.captureReported
    obtain ⟨h, o, hcause⟩ := (s.captureLogged cap).setCause_eq 4
    rw [hcause]
    obtain ⟨h', o', c, k, hevent, -⟩ := State.postEvent_eq _ 0x1001 cap.source
      (bytesWords cap.bytes ++ [wd (min (s.flt.taken + 1) 255), wd (s.reactionWord cap.source cap.cls)])
    rw [hevent]
  · rfl

/-- A capture is reported as an event exactly when its reactions have the report bit; without it no number is taken. -/
theorem State.takeCapture_report (s : State) (cap : Capture) :
    (nbit cap.reactions 1 = false → (s.takeCapture cap).cmds.eventSeq = s.cmds.eventSeq) ∧
      (nbit cap.reactions 1 = true → ∃ u : State, s.takeCapture cap = u.postEvent 0x1001 cap.source
        (bytesWords cap.bytes ++ [wd (min (s.flt.taken + 1) 255), wd (s.reactionWord cap.source cap.cls)])) := by
  rw [State.takeCapture_eq_reported]
  refine ⟨fun h => ?_, fun h => ?_⟩
  · rw [h, if_neg Bool.false_ne_true, (s.captureLogged_flt_cmds cap).2]
  · rw [h, if_pos rfl]
    exact ⟨_, rfl⟩

/-- What the capture statement says of a state in which a fault has been counted and captured. -/
def State.Captures (s : State) (src cls : Nat) (cap : Capture) (t : State) : Prop :=
  let e := Tbl.lookD t.flt.src src {}
  e.capture = some cap ∧ e.since = 1 ∧ e.count = sat32 (Tbl.lookD s.flt.src src {}).count
    ∧ t.flt.taken = sat32 s.flt.taken
    ∧ t.flt.first = (if s.flt.taken < 8 then s.flt.first ++ [cap] else s.flt.first)
    ∧ t.flt.due = s.flt.due ++ duesOf src cap.reactions cap
    ∧ (nbit cap.reactions 1 = false → t.cmds.eventSeq = s.cmds.eventSeq)
    ∧ (nbit cap.reactions 1 = true → ∃ u : State, t = u.postEvent 0x1001 src
        (bytesWords cap.bytes ++ [wd (min (s.flt.taken + 1) 255), wd (s.reactionWord src cls)]))

/-- Taking the capture of a counted fault captures it, wherever the syndrome comes from. -/
theorem State.takeCapture_captures {s u : State} {cls : Nat} {cap : Capture} (hcls : cap.cls = cls)
    (hflt : u.flt = (s.countFault cap.source cls).flt) (hcmds : u.cmds = s.cmds) :
    s.Captures cap.source cls cap (u.takeCapture cap) := by
  subst hcls
  have hsrc : Tbl.lookD (u.takeCapture cap).flt.src cap.source {} =
      { (Tbl.lookD s.flt.src cap.source {}).counted with capture := some cap, since := 1 } := by
    rw [State.takeCapture_flt, ← State.countFault_src s cap.source cap.cls, ← hflt]
    exact Tbl.lookD_upd u.flt.src cap.source {} fun e => { e with capture := some cap, since := 1 }
  have hword : u.reactionWord cap.source cap.cls = s.reactionWord cap.source cap.cls := by
    simp only [State.reactionWord, hflt, State.countFault_src]
    rfl
  have htaken : u.flt.taken = s.flt.taken := by rw [hflt]; rfl
  obtain ⟨hsilent, hreport⟩ := u.takeCapture_report cap
  rw [hcmds] at hsilent
  rw [hword, htaken] at hreport
  unfold State.Captures
  dsimp only
  rw [hsrc, State.takeCapture_flt]
  refine ⟨rfl, rfl, rfl, ?_, ?_, ?_, hsilent, hreport⟩ <;> simp only [State.captured, State.fltM_flt, hflt] <;> rfl

/-- Settles O20: a full register leaves only the count; an empty one takes the capture, for an ECC source with a drawn syndrome. -/
theorem firstFaultsAreCaptured : Obligations.FirstFaultsAreCaptured := by
  intro s src cls master access addr syn hcls
  refine ⟨fun hfull => State.fault_of_full hcls hfull master access addr syn, fun hempty => ?_⟩
  rw [State.fault_of_empty hcls hempty]
  cases hecc : eccSource src with
  | true =>
    refine ⟨s.captureOf src cls master access addr (Config.freeValue s.free % 16777216), rfl, rfl, rfl, rfl, rfl, rfl, rfl,
      nofun, ?_⟩
    exact State.takeCapture_captures rfl rfl rfl
  | false =>
    exact ⟨s.captureOf src cls master access addr syn, rfl, rfl, rfl, rfl, rfl, rfl, rfl, fun _ => rfl,
      State.takeCapture_captures rfl rfl rfl⟩

end Sys2Proof.Machine
end

section
/-!
PROOFS. Register writes (chapter 3): which command a write is, and what no register write reaches (R45, R49, R441, R593).
-/
namespace Sys2Proof.Machine

/-! ## Doorbells and HIF_RESET are writes of their registers -/

/-- REGISTER_WRITE is the register's effect, while BAR0 answers. -/
theorem exec_registerWrite (off : Nat) (v : Word) (s : State) :
    exec (.registerWrite off v) s = .next (s.overBar (s.regWrite off v)).settle := rfl

/-- The map lists an offset of the doorbells of control rings and of host traffic rings. -/
theorem regListed_of_doorbell {off : Nat} (h4 : off % 4 = 0) (h : (0x100 ≤ off ∧ off < 0x118) ∨ (0x140 ≤ off ∧ off < 0x1C0)) :
    regListed off = true := by
  rcases h with h | h <;> simp [regListed, h4, h]

/-- A write of a control ring's doorbell. -/
theorem State.regWrite_db {r : Nat} (hr : r < 6) (v : Word) (s : State) : s.regWrite (0x100 + 4 * r) v = s.ringDoorbell r v := by
  have hlisted : regListed (0x100 + 4 * r) = true := regListed_of_doorbell (by omega) (.inl (by omega))
  rw [State.regWrite, hlisted, if_neg (by decide), if_neg (by omega), if_neg (by omega), if_neg (by omega), if_pos (by omega),
    show (0x100 + 4 * r - 0x100) / 4 = r by omega]

/-- A write of a transmit ring's doorbell. -/
theorem State.regWrite_txdb {t : Nat} (ht : t < 16) (v : Word) (s : State) : s.regWrite (0x140 + 4 * t) v = s.txDoorbell t v := by
  have hlisted : regListed (0x140 + 4 * t) = true := regListed_of_doorbell (by omega) (.inr (by omega))
  rw [State.regWrite, hlisted, if_neg (by decide), if_neg (by omega), if_neg (by omega), if_neg (by omega), if_neg (by omega),
    if_pos (by omega), show (0x140 + 4 * t - 0x140) / 4 = t by omega]

/-- A write of a receive ring's doorbell. -/
theorem State.regWrite_rxdb {r : Nat} (hr : r < 16) (v : Word) (s : State) : s.regWrite (0x180 + 4 * r) v = s.rxDoorbell r v := by
  have hlisted : regListed (0x180 + 4 * r) = true := regListed_of_doorbell (by omega) (.inr (by omega))
  rw [State.regWrite, hlisted, if_neg (by decide), if_neg (by omega), if_neg (by omega), if_neg (by omega), if_neg (by omega),
    if_neg (by omega), if_pos (by omega), show (0x180 + 4 * r - 0x180) / 4 = r by omega]

/-- A write of an offset the map does not list changes nothing. -/
theorem State.regWrite_unlisted {off : Nat} (h : regListed off = false) (v : Word) (s : State) : s.regWrite off v = s := by
  rw [State.regWrite, h]
  rfl

/-- An access that changes nothing changes nothing, whether or not BAR0 answers. -/
theorem State.overBar_self (s : State) : s.overBar s = s := ite_self s

/-- Settles O15: the map takes each doorbell's offset to its ring, and HIF_RESET's to the reset. -/
theorem writesReachTheirRegister : Obligations.WritesReachTheirRegister := by
  refine ⟨fun r v s hr => ?db, fun t v s ht => ?txdb, fun r v s hr => ?rxdb, fun v s => rfl, fun off v s hoff => ?unlisted⟩
  case db =>
    have hdb : exec (.hifDb r v) s = .next (s.overBar (if r < 6 then s.ringDoorbell r v else s)).settle := rfl
    rw [exec_registerWrite, State.regWrite_db hr, hdb, if_pos hr]
  case txdb =>
    have hdb : exec (.hifTxdb t v) s = .next (s.overBar (if t < 16 then s.txDoorbell t v else s)).settle := rfl
    rw [exec_registerWrite, State.regWrite_txdb ht, hdb, if_pos ht]
  case rxdb =>
    have hdb : exec (.hifRxdb r v) s = .next (s.overBar (if r < 16 then s.rxDoorbell r v else s)).settle := rfl
    rw [exec_registerWrite, State.regWrite_rxdb hr, hdb, if_pos hr]
  case unlisted =>
    rw [exec_registerWrite, State.regWrite_unlisted hoff, State.overBar_self]

/-! ## What register writes leave (R45, R64, R71, R495) -/

/-- Nothing has changed. -/
theorem Safety.Tables.rfl' (s : State) : Safety.Tables s s := by constructor <;> rfl

/-- Two changes that reach no table, one after the other. -/
theorem Safety.Tables.trans {a b c : State} (h : Safety.Tables a b) (k : Safety.Tables b c) : Safety.Tables a c := by
  obtain ⟨h1, h2, h3, h4, h5, h6, h7, h8, h9, h10, h11, h12, h13, h14, h15, h16, h17, h18, h19, h20, h21⟩ := h
  obtain ⟨k1, k2, k3, k4, k5, k6, k7, k8, k9, k10, k11, k12, k13, k14, k15, k16, k17, k18, k19, k20, k21⟩ := k
  constructor <;> simp_all

/-- A change made or not made. -/
theorem Safety.Tables.ite {p : Prop} [Decidable p] {s a b : State} (ha : Safety.Tables s a) (hb : Safety.Tables s b) :
    Safety.Tables s (if p then a else b) := by
  split
  · exact ha
  · exact hb

/-- A change made after another, or not. -/
theorem Safety.Tables.iteThen {p : Prop} [Decidable p] {s a b : State} (h : Safety.Tables s a) (hb : Safety.Tables a b) :
    Safety.Tables s (if p then b else a) :=
  .ite (h.trans hb) h

/-- A fold of such changes. -/
theorem Safety.Tables.foldl {α : Type} (f : State → α → State) (hf : ∀ s x, Safety.Tables s (f s x)) (l : List α) (s : State) :
    Safety.Tables s (l.foldl f s) := by
  induction l generalizing s with
  | nil => exact .rfl' s
  | cons x t ih => exact (hf s x).trans (ih _)

theorem State.hifM_tables (s : State) (f : Hif → Hif) : Safety.Tables s (s.hifM f) := by constructor <;> rfl
theorem State.mbxM_tables (s : State) (f : List Mbx → List Mbx) : Safety.Tables s (s.mbxM f) := by constructor <;> rfl
theorem State.locksM_tables (s : State) (f : List (Option Nat) → List (Option Nat)) : Safety.Tables s (s.locksM f) := by
  constructor <;> rfl
theorem State.smbM_tables (s : State) (f : Smbus → Smbus) : Safety.Tables s (s.smbM f) := by constructor <;> rfl
theorem State.vntM_tables (s : State) (f : Vintner → Vintner) : Safety.Tables s (s.vntM f) := by constructor <;> rfl
theorem State.bookM_tables (s : State) (f : Book → Book) : Safety.Tables s (s.bookM f) := by constructor <;> rfl
theorem State.hstM_tables (s : State) (f : HostTraffic → HostTraffic) : Safety.Tables s (s.hstM f) := by constructor <;> rfl
theorem State.twinM_tables (s : State) (f : Twin → Twin) : Safety.Tables s (s.twinM f) := by constructor <;> rfl
theorem State.pwrM_tables (s : State) (f : Power → Power) : Safety.Tables s (s.pwrM f) := by constructor <;> rfl
theorem State.emit_tables (s : State) (o : Output) : Safety.Tables s (s.emit o) := by constructor <;> rfl
theorem State.ringM_tables (s : State) (r : Nat) (f : CRing → CRing) : Safety.Tables s (s.ringM r f) := s.hifM_tables _

theorem State.perf_tables (s : State) (u ev k : Nat) : Safety.Tables s (s.perf u ev k) := by
  obtain ⟨c, hc⟩ := s.perf_eq u ev k
  rw [hc]
  constructor <;> rfl

theorem State.signal_tables (s : State) (v : Nat) : Safety.Tables s (s.signal v) := by
  obtain ⟨h, o, e⟩ := s.signal_eq v
  rw [e]
  constructor <;> rfl

theorem State.signalUnless_tables (s : State) (i v : Nat) : Safety.Tables s (s.signalUnless i v) :=
  .ite (.rfl' s) (s.signal_tables v)

theorem State.setMbxCause_tables (s : State) (m : Nat) : Safety.Tables s (s.setMbxCause m) := by
  obtain ⟨h, o, e⟩ := s.setMbxCause_eq m
  rw [e]
  constructor <;> rfl

theorem State.setHifErr_tables (s : State) (i : Nat) : Safety.Tables s (s.setHifErr i) := by
  obtain ⟨h, o, e, -, -⟩ := s.setHifErr_eq i
  rw [e]
  constructor <;> rfl

theorem State.setAlert_tables (s : State) (b : Nat) : Safety.Tables s (s.setAlert b) :=
  .ite (s.bookM_tables _) (((s.bookM_tables _).trans (State.smbM_tables _ _)).trans (State.signalUnless_tables _ 1 1))

theorem State.bookLog_tables (s : State) (typ : Nat) (payload : Bytes) : Safety.Tables s (s.bookLog typ payload) := by
  obtain ⟨k, e⟩ := s.bookPut_eq s.recordRuns none typ payload
  rw [State.bookLog, e]
  constructor <;> rfl

theorem State.postEvent_tables (s : State) (code obj : Nat) (payload : List Word) :
    Safety.Tables s (s.postEvent code obj payload) := by
  obtain ⟨h, o, c, k, e, -⟩ := s.postEvent_eq code obj payload
  rw [e]
  constructor <;> rfl

theorem State.wakeDom_tables (s : State) (d : Nat) : Safety.Tables s (s.wakeDom d) :=
  .ite (((s.emit_tables _).trans (State.perf_tables _ _ _ _)).trans (State.pwrM_tables _ _)) (.rfl' s)

theorem State.wakeHost_tables (s : State) : Safety.Tables s s.wakeHost := by
  have hwake := Safety.Tables.foldl _ (fun s d => s.wakeDom_tables d) [1] s
  exact .ite hwake (hwake.trans (State.pwrM_tables _ _))

/-- A message of the twin changes the twin, the counters and what is put out. -/
theorem State.twinSend_tables (s : State) (ch typ : Nat) (body : Bytes) : Safety.Tables s (s.twinSend ch typ body) := by
  have hperf : ∀ (s : State) (ev : Nat), Safety.Tables s (s.perfTrellis ev 1) := fun s ev =>
    Safety.Tables.foldl _ (fun s u => s.perf_tables _ _ _) _ s
  unfold State.twinSend
  split
  · exact .rfl' s
  · exact (Safety.Tables.iteThen ((s.emit_tables _).trans (hperf _ _)) (hperf _ _)).trans (State.twinM_tables _ _)

/-! ### Rings (R50 to R53, R441) -/

theorem State.ringCtrl_tables (s : State) (r : Nat) (v : Word) : Safety.Tables s (s.ringCtrl r v) := by
  have hset : Safety.Tables s (s.ringSet r v) := s.ringM_tables r _
  refine .ite (.ite ?_ ?_) (.ite ?_ hset)
  · exact hset.trans (State.ringM_tables _ r _)
  · exact (hset.trans (State.ringM_tables _ r _)).trans (State.setHifErr_tables _ 1)
  · exact hset.trans (State.ringM_tables _ r _)

theorem State.ringDoorbell_tables (s : State) (r : Nat) (v : Word) : Safety.Tables s (s.ringDoorbell r v) :=
  .ite ((s.ringM_tables r _).trans (State.wakeHost_tables _)) ((s.ringM_tables r _).trans (State.setHifErr_tables _ 0))

theorem State.ringWrite_tables (s : State) (r off : Nat) (v : Word) : Safety.Tables s (s.ringWrite r off v) := by
  have hopen : ∀ f : CRing → CRing, Safety.Tables s (if (s.ring r).enable then s else s.ringM r f) := fun f =>
    .ite (.rfl' s) (s.ringM_tables r f)
  unfold State.ringWrite
  dsimp only
  split
  case h_4 => exact s.ringCtrl_tables r v
  case h_7 => exact s.ringM_tables r _
  case h_8 => exact .rfl' s
  all_goals exact hopen _

theorem State.txDoorbell_tables (s : State) (t : Nat) (v : Word) : Safety.Tables s (s.txDoorbell t v) :=
  .ite ((s.hstM_tables _).trans (State.wakeHost_tables _)) (s.setHifErr_tables 0)

theorem State.rxPosted_tables (s : State) (k idx : Nat) : Safety.Tables s (s.rxPosted k idx) :=
  .iteThen (s.hstM_tables _) ((State.hstM_tables _ _).trans (State.postEvent_tables _ _ _ _))

theorem State.rxDoorbell_tables (s : State) (k : Nat) (v : Word) : Safety.Tables s (s.rxDoorbell k v) :=
  .ite ((s.rxPosted_tables k _).trans (State.wakeHost_tables _)) (s.setHifErr_tables 0)

/-! ### Mailboxes and locks (R64 to R68, R71, R72) -/

theorem State.mbxGo_tables (s : State) (m : Nat) (st : MbxState) (r : Nat) : Safety.Tables s (s.mbxGo m st r) := s.mbxM_tables _

theorem State.mbxRefuse_tables (s : State) (m : Nat) : Safety.Tables s (s.mbxRefuse m) :=
  (s.mbxM_tables _).trans (State.setHifErr_tables _ 4)

theorem State.mbxPost_tables (s : State) (m : Nat) : Safety.Tables s (s.mbxPost m) :=
  .ite (.iteThen (s.mbxGo_tables m _ _) (State.setMbxCause_tables _ m)) (s.mbxGo_tables m _ _)

theorem State.mbxWord_tables (s : State) (m k : Nat) (v : Word) (master : Nat) : Safety.Tables s (s.mbxWord m k v master) :=
  .ite (s.mbxM_tables _) (s.mbxRefuse_tables m)

theorem State.mbxSend_tables (s : State) (m master : Nat) : Safety.Tables s (s.mbxSend m master) := by
  have hwake : Safety.Tables s (if m < 12 then s.wakeHost else s.wakeDom 32) := .ite s.wakeHost_tables (s.wakeDom_tables 32)
  exact .ite (s.mbxRefuse_tables m) (.ite (.rfl' s)
    (.iteThen (hwake.trans (State.mbxPost_tables _ m)) (State.twinSend_tables _ _ _ _)))

theorem State.mbxWithdraw_tables (s : State) (m master : Nat) (accepting : Bool) :
    Safety.Tables s (s.mbxWithdraw m master accepting) := by
  refine .ite (s.mbxRefuse_tables m) ?_
  split
  · exact .rfl' s
  · exact s.mbxM_tables _
  · exact s.mbxM_tables _
  · exact .ite (s.twinSend_tables _ _ _) (s.mbxGo_tables m _ _)
  · exact .ite ((s.mbxGo_tables m _ _).trans (State.mbxM_tables _ _)) (s.mbxGo_tables m _ _)

theorem State.mbxRelease_tables (s : State) (m master : Nat) : Safety.Tables s (s.mbxRelease m master) :=
  .ite (s.mbxRefuse_tables m) (.ite (.rfl' s)
    ((Safety.Tables.ite (s.twinSend_tables _ _ _) (.rfl' s)).trans (State.mbxGo_tables _ m _ _)))

theorem State.mbxAccept_tables (s : State) (m master : Nat) : Safety.Tables s (s.mbxAccept m master) :=
  .ite (s.mbxRefuse_tables m) (.ite (.rfl' s) (.iteThen (s.mbxGo_tables m _ _) (State.twinSend_tables _ _ _ _)))

theorem State.mbxAck_tables (s : State) (m code master : Nat) : Safety.Tables s (s.mbxAck m code master) := by
  have hacked : ∀ f, Safety.Tables s ((s.mbxM f).mbxGo m .acked 0) := fun f => (s.mbxM_tables f).trans (State.mbxGo_tables _ m _ _)
  exact .ite (s.mbxRefuse_tables m) (.ite (.rfl' s)
    (.ite ((hacked _).trans (State.setMbxCause_tables _ m)) (.iteThen (hacked _) (State.twinSend_tables _ _ _ _))))

theorem State.mbxCtrl_tables (s : State) (m : Nat) (v : Word) : Safety.Tables s (s.mbxCtrl m v) := by
  have haccept : Safety.Tables s (if v.bit 3 then s.mbxAccept m 1 else s) := .iteThen (.rfl' s) (s.mbxAccept_tables m 1)
  have hwithdraw := haccept.iteThen (p := v.bit 1) (State.mbxWithdraw_tables _ m 1 false)
  have hrelease := hwithdraw.iteThen (p := v.bit 2) (State.mbxRelease_tables _ m 1)
  exact hrelease.iteThen (State.mbxSend_tables _ m 1)

theorem State.mbxWrite_tables (s : State) (m off : Nat) (v : Word) : Safety.Tables s (s.mbxWrite m off v) :=
  .ite (s.mbxWord_tables m _ v 1) (.ite (s.mbxCtrl_tables m v) (.ite (s.mbxM_tables _) (.ite (s.mbxAck_tables m _ 1) (.rfl' s))))

theorem State.lockWrite_tables (s : State) (n master : Nat) (release force : Bool) :
    Safety.Tables s (s.lockWrite n master release force) := by
  refine .ite (.rfl' s) (.ite ?_ (.ite (.rfl' s) (.ite (s.locksM_tables _) (.rfl' s))))
  split
  · exact ((s.locksM_tables _).trans (State.setAlert_tables _ 3)).trans (State.bookLog_tables _ _ _)
  · exact .rfl' s

/-! ### Interrupts, the Vintner and the cellar window (R59 to R62, R495, R573) -/

theorem State.irqWrite_tables (s : State) (off : Nat) (v : Word) : Safety.Tables s (s.irqWrite off v) := by
  unfold State.irqWrite
  dsimp only
  generalize hset : (if off = 0 then s.hifM _ else _ : State) = t
  have ht : Safety.Tables s t := by
    rw [← hset]
    repeat' refine .ite (s.hifM_tables _) ?_
    exact .rfl' s
  refine .ite (.iteThen ht (State.signalUnless_tables _ 3 3)) (.ite (.iteThen ht (State.signalUnless_tables _ 5 5)) (ht.trans ?_))
  exact Safety.Tables.foldl _ (fun a v => .ite (a.signal_tables v) (.rfl' a)) _ t

theorem State.traceCtrl_tables (s : State) (v : Word) : Safety.Tables s (s.traceCtrl v) := by
  have hset : Safety.Tables s (s.traceSet v) := s.vntM_tables _
  exact .ite (hset.trans (State.vntM_tables _ _)) (.ite hset (.ite (hset.trans (State.vntM_tables _ _))
    ((hset.trans (State.vntM_tables _ _)).trans (State.setHifErr_tables _ 1))))

theorem State.vntWrite_tables (s : State) (off : Nat) (v : Word) : Safety.Tables s (s.vntWrite off v) := by
  have hwake := s.wakeHost_tables
  have hplace : ∀ f : Vintner → Vintner, Safety.Tables s (if s.wakeHost.vnt.trEnable then s.wakeHost else s.wakeHost.vntM f) :=
    fun f => hwake.trans (.ite (.rfl' _) (State.vntM_tables _ f))
  unfold State.vntWrite
  dsimp only
  split
  · exact .iteThen hwake (.ite (State.vntM_tables _ _) (.rfl' _))
  · exact hwake.trans (State.traceCtrl_tables _ v)
  · exact hplace _
  · exact hplace _
  · exact hwake.trans (State.vntM_tables _ _)
  · exact hwake

theorem State.celWrite_tables (s : State) (off : Nat) (v : Word) : Safety.Tables s (s.celWrite off v) := by
  unfold State.celWrite
  split
  · exact s.bookM_tables _
  · exact .iteThen (s.bookM_tables _) ((State.smbM_tables _ _).trans (State.signalUnless_tables _ 1 1))
  · exact s.bookM_tables _
  · exact .rfl' s

/-- Settles O21: a write is one of the map's blocks, and each block's write reaches no table. -/
theorem registerWritesReachNoTable : Obligations.RegisterWritesReachNoTable := by
  intro off v s hoff
  refine .ite (.rfl' s) (.ite (s.hifM_tables _) ?_)
  rw [if_neg hoff]
  exact .ite (.rfl' s) (.ite (s.ringDoorbell_tables _ v) (.ite (s.txDoorbell_tables _ v) (.ite (s.rxDoorbell_tables _ v)
    (.ite (s.ringWrite_tables _ _ v) (.ite (s.mbxWrite_tables _ _ v) (.ite (s.lockWrite_tables _ 1 _ _) (.ite (.rfl' s)
      (.ite (s.irqWrite_tables _ v) (.ite (s.vntWrite_tables _ v) (.ite (s.hifM_tables _) (.ite (s.hifM_tables _)
        (s.celWrite_tables _ v))))))))))))

end Sys2Proof.Machine
end

section
/-!
PROOFS. How a command that is ready runs (chapter 4, R85, R91, R104): its body on the state it starts in, the reply, and what is settled.
-/
namespace Sys2Proof.Machine

/-- A condition whose negation holds does not hold. -/
theorem ne_true_of_not {b : Bool} (h : (!b) = true) : ¬ b = true := by
  simpa using h

/-- No staged command's body is asked about a command of this opcode (R104, R105). -/
def unbatched (op : Nat) : Bool := (batchBody op).isNone && op != 0x0100 && op != 0x0810

/-- The open batch stands against an unbatched command by its objects alone, whatever its body is. -/
theorem State.batchConflict_of_unbatched {op : Nat} (h : unbatched op = true) (s : State) (f g : Packet → State → Res) (c : Packet) :
    s.batchConflict op f c = s.batchConflict op g c := by
  simp only [unbatched, Bool.and_eq_true, bne_iff_ne, ne_eq, Option.isNone_iff_eq_none] at h
  obtain ⟨⟨hbody, hlayout⟩, hcarve⟩ := h
  simp [State.batchConflict, hbody, hlayout, hcarve]

/-- A command that is ready, and whose body answers `r` under the rest of its conditions, runs to `r` and what it asks for. -/
theorem hostCmd_of_ready {s : State} {op : Nat} {c : Packet} {body : Packet → State → Res} {rest : Bool} {r : Res}
    (h : (s.plain op c && rest) = true) (hrival : batchRival op = body ∨ unbatched op = true)
    (hbody : rest = true → body c (s.began op c) = r) :
    hostCmd op body c s = .next ((s.began op c).finish op c r).settle := by
  obtain ⟨hplain, hrest⟩ := Bool.and_eq_true_iff.mp h
  have hb : (s.began op c).batchConflict op body c = (s.began op c).batchConflict op (batchRival op) c := by
    rcases hrival with hrival | hun
    · rw [hrival]
    · exact State.batchConflict_of_unbatched hun _ _ _ _
  rw [hostCmd_plain body hb hplain, hbody hrest]

/-! ## Staged commands (R235, R236) -/

/-- A result that a staged command logs: OK, with the operations counted so far as they were. -/
def State.StagesOk (s : State) (r : Res) : Prop := ∃ d ws t, r = .done .ok d ws t ∧ t.vintOps = s.vintOps

/-- OK with a state that leaves the vintages alone is logged. -/
theorem State.StagesOk.of_vin {s t : State} {d : Nat} {ws : List Word} (h : t.vin = s.vin) : s.StagesOk (.done .ok d ws t) :=
  ⟨d, ws, t, rfl, vintOps_of_vin h⟩

/-- OK with the arrays of the vintage changed is logged. -/
theorem State.StagesOk.stagedM (s : State) (f : Arrays → Arrays) : s.StagesOk (.ok (s.stagedM f)) :=
  ⟨0, [], _, rfl, stagedM_vintOps s f⟩

/-- A staged command that is ready, with room in the log of the open vintage, runs to its body's result, counted and relayed. -/
theorem hostCmd_of_staged {s : State} {op : Nat} {c : Packet} {body : Packet → State → Res} {rest : Bool} {r : Res}
    (h : (s.plain op c && (rest && (s.began op c).hasRoom op c)) = true) (hun : unbatched op = true)
    (hbody : rest = true → body c (s.began op c) = r ∧ (s.began op c).StagesOk r) :
    hostCmd op (stagedCmd op body) c s = .next ((s.began op c).finish op c (Res.logged op c r)).settle := by
  refine hostCmd_of_ready h (.inr hun) fun hrest => ?_
  obtain ⟨hrest, hroom⟩ := Bool.and_eq_true_iff.mp hrest
  obtain ⟨hr, hok⟩ := hbody hrest
  exact stagedCmd_ok hroom hr hok

end Sys2Proof.Machine
end

section
/-!
PROOFS. The system, port and parse commands (chapters 2, 4, 5 and 6): each, once ready, has its effect.
-/
namespace Sys2Proof.Machine

/-- No MODE_SET names OFF, TAKEOVER or FACTORY_TEST (R25). -/
theorem modeAllowed_false (cur : Mode) :
    modeAllowed cur .off = false ∧ modeAllowed cur .takeover = false ∧ modeAllowed cur .factoryTest = false := by
  cases cur <;> decide

/-- Settles O22: the checks of each hold, so its body goes on to its effect; MODE_SET by the target, CFG_BATCH_END by whether it discards. -/
theorem systemCommandsRun : Obligations.SystemCommandsRun := by
  refine ⟨?nop, ?syncSummary, ?deviceIdentity, ?modeSet, ?cfgBatchBegin, ?cfgBatchEnd, ?cfgBatchEnd2, ?kwkEstablish⟩
  case nop => exact fun _ _ h => hostCmd_of_ready h (.inr rfl) fun h => checks_pass h _
  case syncSummary => exact fun _ _ h => hostCmd_of_ready h (.inr rfl) fun h => checks_pass h _
  case deviceIdentity => exact fun _ _ h => hostCmd_of_ready h (.inr rfl) fun h => checks_pass h _
  case modeSet =>
    intro c s0 h
    refine hostCmd_of_ready h (.inr rfl) fun hready => ?_
    obtain ⟨hpass, hmode⟩ := Bool.and_eq_true_iff.mp hready
    refine (checks_pass hpass _).trans ?_
    dsimp only at hmode ⊢
    generalize s0.began 3 c = s at hmode ⊢
    generalize modeOf ((c.w 0).fld 3 0) = tgt at hmode ⊢
    by_cases htgt : tgt = s.mode.mode
    · rw [if_pos htgt, if_pos (beq_iff_eq.mpr htgt)]
    rw [if_neg htgt, if_neg (mt beq_iff_eq.mp htgt)]
    simp only [beq_eq_false_iff_ne.mpr htgt, Bool.false_or, Bool.and_eq_true, Bool.not_eq_true', Option.isNone_iff_eq_none] at hmode
    obtain ⟨⟨⟨hallowed, htwin⟩, hboot⟩, hvint⟩ := hmode
    simp only [hallowed, htwin, hvint, Bool.not_true, Bool.false_eq_true, if_false]
    obtain ⟨hoff, htakeover, hfactory⟩ := modeAllowed_false s.mode.mode
    cases tgt with
    | off => rw [hoff] at hallowed; cases hallowed
    | takeover => rw [htakeover] at hallowed; cases hallowed
    | factoryTest => rw [hfactory] at hallowed; cases hallowed
    | boot =>
      simp only [bne_self_eq_false, Bool.false_or, Bool.or_eq_true] at hboot
      simp only [State.modeChange]
      split
      · rfl
      · rw [if_pos (hboot.resolve_left ‹_›)]
    | forward =>
      simp only [State.modeChange, beq_iff_eq]
      split <;> rfl
    | twinStandby => simp only [State.modeChange, beq_iff_eq]
    | dormant | config | twinActive | drain | safe | diagnostic => rfl
  case cfgBatchBegin => exact fun _ _ h => hostCmd_of_ready h (.inr rfl) fun h => checks_pass h _
  case cfgBatchEnd =>
    intro c s0 h
    refine hostCmd_of_ready h (.inr rfl) fun hready => ?_
    obtain ⟨hpass, hdiscard⟩ := Bool.and_eq_true_iff.mp hready
    exact (checks_pass hpass _).trans (if_pos hdiscard)
  case cfgBatchEnd2 =>
    intro c s0 h s t hdone
    refine hostCmd_of_ready h (.inr rfl) fun hready => ?_
    obtain ⟨hready, -⟩ := Bool.and_eq_true_iff.mp hready
    obtain ⟨hpass, hland⟩ := Bool.and_eq_true_iff.mp hready
    refine (checks_pass hpass _).trans ?_
    rw [if_neg (by simpa using hland), hdone]
  case kwkEstablish => exact fun _ _ h => hostCmd_of_ready h (.inr rfl) fun h => checks_pass h _

/-- Settles O23: each body is its checks and then its effect. -/
theorem portCommandsRun : Obligations.PortCommandsRun := by
  refine ⟨?portLayoutSet, ?portSet, ?portStatus, ?lbPortSet, ?lbStatus⟩
  case portLayoutSet => exact fun _ _ h => hostCmd_of_ready h (.inl rfl) fun h => checks_pass h _
  case portSet => exact fun _ _ h => hostCmd_of_ready h (.inl rfl) fun h => checks_pass h _
  case portStatus => exact fun _ _ h => hostCmd_of_ready h (.inr rfl) fun h => checks_pass h _
  case lbPortSet => exact fun _ _ h => hostCmd_of_ready h (.inl rfl) fun h => checks_pass h _
  case lbStatus => exact fun _ _ h => hostCmd_of_ready h (.inr rfl) fun h => checks_pass h _

/-- Settles O24: each body is its checks and then its effect, staged in the open vintage where it writes the parse graph. -/
theorem parseCommandsRun : Obligations.ParseCommandsRun := by
  refine ⟨?parseInfo, ?parseStateSet, ?parseTransSet, ?parseExceptSet, ?parseDefaultLoad, ?parseRead, ?fragConfig, ?fragStatus⟩
  case parseInfo => exact fun _ _ h => hostCmd_of_ready h (.inr rfl) fun h => checks_pass h _
  case parseStateSet =>
    exact fun _ _ h => hostCmd_of_staged h rfl fun h => ⟨checks_pass h _, .stagedM _ _⟩
  case parseTransSet =>
    exact fun _ _ h => hostCmd_of_staged h rfl fun h => ⟨checks_pass h _, .stagedM _ _⟩
  case parseExceptSet =>
    exact fun _ _ h => hostCmd_of_staged h rfl fun h => ⟨checks_pass h _, 0, [], _, rfl, stageExcept_vintOps _ _⟩
  case parseDefaultLoad =>
    exact fun _ _ h => hostCmd_of_staged h rfl fun h => ⟨checks_pass h _, .stagedM _ _⟩
  case parseRead =>
    intro c s0 h s a ha
    refine hostCmd_of_ready h (.inr rfl) fun h => (checks_pass h _).trans ?_
    rw [ha]
  case fragConfig => exact fun _ _ h => hostCmd_of_ready h (.inl rfl) fun h => checks_pass h _
  case fragStatus => exact fun _ _ h => hostCmd_of_ready h (.inr rfl) fun h => checks_pass h _

end Sys2Proof.Machine
end

section
/-!
PROOFS. The lookup commands (chapter 7): each, once ready, has its effect.
-/
namespace Sys2Proof.Machine

/-- The result of a new exact-match entry that finds a place leaves the vintages alone. -/
theorem State.emNew_stagesOk {s : State} {t : Nat} {d : EmDef} {key : Bytes} {action : Nat}
    (h : (s.emPlace t d { key := key, birth := s.vintN, death := 0, deathSet := false, action := action }).1.isSome = true)
    (kill : Option (Nat × EmSlot)) : s.StagesOk (s.emNew t d key action kill) := by
  have hvin := emPlace_vin s t d { key := key, birth := s.vintN, death := 0, deathSet := false, action := action }
  revert h hvin
  unfold State.emNew
  dsimp only
  rcases s.emPlace t d _ with ⟨_ | ⟨n, m⟩, u⟩
  · exact fun h => nomatch h
  · intro _ hvin
    refine .of_vin ?_
    rw [refAct_vin]
    repeat' split
    all_goals exact hvin

/-- What an exact-match command that is ready has found out about its key. -/
theorem emReady_key {c : Packet} {d : EmDef} {a : Nat} {p : EmDef → Bytes → Bool} (h : emReady c (some d) a p = true) :
    p d ((pktKey c a (if d.wide then 10 else 4)).take d.keyLen) = true :=
  (emChecks_ready (fun _ _ => .fail .ok 0) h).2

/-- An entry found exactly is one of the realm, the family and the length asked for. -/
theorem State.pfxExact_fields {s : State} {r len a p : Nat} {v6 : Bool} {o : Prefix} (h : s.pfxExact r v6 len a p = some o) :
    o.realm = r ∧ o.v6 = v6 := by
  have hfields := List.find?_some h
  simp only [Bool.and_eq_true, beq_iff_eq] at hfields
  obtain ⟨⟨⟨⟨hrealm, hv6⟩, -⟩, -⟩, -⟩ := hfields
  exact ⟨hrealm, hv6⟩

/-- A new entry for which there is room is taken into the store of prefixes. -/
theorem State.pfxNew_of_room {s : State} {x : Prefix} {r : Nat} {v6 : Bool} (hr : x.realm = r) (hv : x.v6 = v6)
    (h : s.pfxRoom r v6 = true) (kill : Option Prefix) :
    s.pfxNew x kill =
      let t := (State.refAct (match kill with
        | some o => (s.refAct false o.action).lookupM fun k =>
            { k with pfx := k.pfx.map fun y => if y == o then { y with death := s.vintN, deathSet := true } else y }
        | none => s) true x.action).lookupM fun k => { k with pfx := k.pfx ++ [x] }
      .done .ok (t.pfxUsed x.realm) [] t := by
  subst hr hv
  simp only [State.pfxRoom, Bool.and_eq_true, decide_eq_true_eq] at h
  obtain ⟨hcap, hstore⟩ := h
  have hunits : x.units = Prefix.units
    { realm := x.realm, v6 := x.v6, len := 0, addr := 0, birth := 0, death := 0, deathSet := false, action := 0 } := rfl
  rw [← hunits] at hcap hstore
  unfold State.pfxNew
  refine (if_neg ?_).trans ((if_neg ?_).trans rfl)
  · omega
  · omega

/-- A new entry for which there is room leaves the vintages alone. -/
theorem State.pfxNew_stagesOk {s : State} {x : Prefix} {r : Nat} {v6 : Bool} (hr : x.realm = r) (hv : x.v6 = v6)
    (h : s.pfxRoom r v6 = true) (kill : Option Prefix) : s.StagesOk (s.pfxNew x kill) := by
  rw [State.pfxNew_of_room hr hv h]
  refine .of_vin (((State.lookupM_vin _ _).trans (refAct_vin _ _ _)).trans ?_)
  cases kill with
  | none => rfl
  | some o => exact (State.lookupM_vin _ _).trans (refAct_vin _ _ _)

/-- Settles O25: each body is its checks and then its effect; a staged one leaves the operations counted to the log. -/
theorem lookupCommandsRun : Obligations.LookupCommandsRun := by
  refine ⟨?emTableDefine, ?emTableDefine2, ?emInsert, ?emModify, ?emDelete, ?emSearch, ?emRead, ?emStatus, ?pfxRealmDefine,
    ?pfxAdd, ?pfxModify, ?pfxDelete, ?pfxSearch, ?pfxStatus, ?lookupProfileSet, ?lookupMapSet⟩
  case emTableDefine =>
    intro c s0 h
    refine hostCmd_of_staged h rfl fun h => ⟨?_, .stagedM _ _⟩
    obtain ⟨h, hrest⟩ := Bool.and_eq_true_iff.mp h
    obtain ⟨hpass, hdisable⟩ := Bool.and_eq_true_iff.mp h
    exact ((checks_pass hpass _).trans (if_pos hdisable)).trans (checks_pass hrest _)
  case emTableDefine2 =>
    intro c s0 h
    refine hostCmd_of_staged h rfl fun h => ⟨?_, .stagedM _ _⟩
    obtain ⟨h, hrest⟩ := Bool.and_eq_true_iff.mp h
    obtain ⟨hpass, henable⟩ := Bool.and_eq_true_iff.mp h
    exact ((checks_pass hpass _).trans (if_neg (by simpa using henable))).trans (checks_pass hrest _)
  case emInsert =>
    intro c s0 h s d hd n m t hplace
    refine hostCmd_of_staged h rfl fun h => ?_
    obtain ⟨hpass, hready⟩ := Bool.and_eq_true_iff.mp h
    rw [hd] at hready
    obtain ⟨hnone, hsome⟩ := Bool.and_eq_true_iff.mp (emReady_key hready)
    have hnew : s.emNew c.obj d ((pktKey c 1 (if d.wide then 10 else 4)).take d.keyLen) ((c.w 0).fld 19 0) none
        = .done .ok (n + 1048576 * m) [] (t.refAct true ((c.w 0).fld 19 0)) := by
      simp only [State.emNew, hplace]
    refine ⟨(checks_pass hpass _).trans ?_, hnew ▸ State.emNew_stagesOk hsome none⟩
    rw [hd]
    refine (emChecks_ready _ hready).1.trans ?_
    rw [Option.isNone_iff_eq_none.mp hnone]
    exact hnew
  case emModify =>
    intro c s0 h s d hd n e hfind
    refine hostCmd_of_staged h rfl fun h => ?_
    obtain ⟨hpass, hready⟩ := Bool.and_eq_true_iff.mp h
    rw [hd] at hready
    have hplace := emReady_key hready
    rw [hfind] at hplace
    refine ⟨(checks_pass hpass _).trans ?_, ?_⟩
    · rw [hd]
      refine (emChecks_ready _ hready).1.trans ?_
      rw [hfind]
    · split
      · exact .of_vin ((State.lookupM_vin _ _).trans ((refAct_vin _ _ _).trans (refAct_vin _ _ _)))
      next hbirth =>
        exact State.emNew_stagesOk ((Bool.or_eq_true_iff.mp hplace).resolve_left (mt beq_iff_eq.mp hbirth)) _
  case emDelete =>
    intro c s0 h s d hd n e hfind
    refine hostCmd_of_staged h rfl fun h => ?_
    obtain ⟨hpass, hready⟩ := Bool.and_eq_true_iff.mp h
    rw [hd] at hready
    refine ⟨(checks_pass hpass _).trans ?_, ?_⟩
    · rw [hd]
      refine (emChecks_ready _ hready).1.trans ?_
      rw [hfind]
    · split
      · exact .of_vin ((State.lookupM_vin _ _).trans (refAct_vin _ _ _))
      · exact .of_vin (emKill_vin _ _ _)
  case emSearch =>
    intro c s0 h s a ha d hd
    refine hostCmd_of_ready h (.inr rfl) fun h => ?_
    obtain ⟨hpass, hready⟩ := Bool.and_eq_true_iff.mp h
    rw [ha] at hready
    dsimp only at hready
    rw [hd] at hready
    refine (checks_pass hpass _).trans ?_
    rw [ha]
    dsimp only
    rw [hd]
    exact (emChecks_ready _ hready).1
  case emRead => exact fun _ _ h => hostCmd_of_ready h (.inr rfl) fun h => checks_pass h _
  case emStatus => exact fun _ _ h => hostCmd_of_ready h (.inr rfl) fun h => checks_pass h _
  case pfxRealmDefine =>
    exact fun _ _ h => hostCmd_of_staged h rfl fun h => ⟨checks_pass h _, .stagedM _ _⟩
  case pfxAdd =>
    intro c s0 h
    refine hostCmd_of_staged h rfl fun h => ⟨?_, .of_vin ((State.lookupM_vin _ _).trans (refAct_vin _ _ _))⟩
    obtain ⟨h, hroom⟩ := Bool.and_eq_true_iff.mp h
    obtain ⟨hpass, hfree⟩ := Bool.and_eq_true_iff.mp h
    refine (checks_pass hpass _).trans ?_
    dsimp only
    rw [Option.isNone_iff_eq_none.mp hfree]
    dsimp only
    refine State.pfxNew_of_room ?_ ?_ hroom none <;> rfl
  case pfxModify =>
    intro c s0 h s o ho
    refine hostCmd_of_staged h rfl fun h => ?_
    obtain ⟨h, hroom⟩ := Bool.and_eq_true_iff.mp h
    obtain ⟨hpass, -⟩ := Bool.and_eq_true_iff.mp h
    obtain ⟨hrealm, hv6⟩ := State.pfxExact_fields ho
    refine ⟨(checks_pass hpass _).trans ?_, ?_⟩
    · dsimp only
      rw [ho]
    · rw [ho, Option.map_some] at hroom
      split
      · exact .of_vin ((State.lookupM_vin _ _).trans ((refAct_vin _ _ _).trans (refAct_vin _ _ _)))
      next hbirth =>
        exact State.pfxNew_stagesOk (x := { o with birth := s.vintN, death := 0, deathSet := false, action := (c.w 1).fld 19 0 })
          hrealm hv6 ((Bool.or_eq_true_iff.mp hroom).resolve_right (by simpa using hbirth)) (some o)
  case pfxDelete =>
    intro c s0 h s o ho
    refine hostCmd_of_staged h rfl fun h => ⟨?_, .of_vin ((State.lookupM_vin _ _).trans (refAct_vin _ _ _))⟩
    obtain ⟨hpass, -⟩ := Bool.and_eq_true_iff.mp h
    refine (checks_pass hpass _).trans ?_
    dsimp only
    rw [ho]
  case pfxSearch =>
    intro c s0 h
    refine hostCmd_of_ready h (.inr rfl) fun h => ?_
    obtain ⟨hpass, hrealm⟩ := Bool.and_eq_true_iff.mp h
    refine (checks_pass hpass _).trans ?_
    cases ha : (s0.began 0x0314 c).arraysOf ((c.w 0).fld 15 0) with
    | none => simp [ha] at hrealm
    | some a =>
      rw [ha] at hrealm
      exact if_neg (by simp [show a.realms.has c.obj = true from hrealm])
  case pfxStatus => exact fun _ _ h => hostCmd_of_ready h (.inr rfl) fun h => checks_pass h _
  case lookupProfileSet =>
    exact fun _ _ h => hostCmd_of_staged h rfl fun h => ⟨checks_pass h _, .stagedM _ _⟩
  case lookupMapSet =>
    exact fun _ _ h => hostCmd_of_staged h rfl fun h => ⟨checks_pass h _, .stagedM _ _⟩

end Sys2Proof.Machine
end

section
/-!
PROOFS. Associative search (chapter 8): each command, once ready, has its effect.
-/
namespace Sys2Proof.Machine

/-- Settles O26: each body is its checks and then its effect; reading, clearing and planting an entry leave the operations counted to the log. -/
theorem tcamCommandsRun : Obligations.TcamCommandsRun := by
  refine ⟨?tcamBankWidth, ?tcamGroupDefine, ?tcamGroupDefine2, ?tcamProfileSet, ?tcamInsert, ?tcamDelete, ?tcamRead,
    ?tcamSearch, ?tcamStatus⟩
  case tcamBankWidth => exact fun _ _ h => hostCmd_of_ready h (.inr rfl) fun h => checks_pass h _
  case tcamGroupDefine =>
    intro c s0 h
    refine hostCmd_of_staged h rfl fun h => ⟨?_, .stagedM _ _⟩
    obtain ⟨h, hrest⟩ := Bool.and_eq_true_iff.mp h
    obtain ⟨hpass, hdisable⟩ := Bool.and_eq_true_iff.mp h
    exact ((checks_pass hpass _).trans (if_neg (by simpa using hdisable))).trans (checks_pass hrest _)
  case tcamGroupDefine2 =>
    intro c s0 h
    refine hostCmd_of_staged h rfl fun h => ⟨?_, .stagedM _ _⟩
    obtain ⟨h, hrest⟩ := Bool.and_eq_true_iff.mp h
    obtain ⟨hpass, henable⟩ := Bool.and_eq_true_iff.mp h
    exact ((checks_pass hpass _).trans (if_pos henable)).trans (checks_pass hrest _)
  case tcamProfileSet =>
    exact fun _ _ h => hostCmd_of_staged h rfl fun h => ⟨checks_pass h _, .stagedM _ _⟩
  case tcamInsert =>
    intro c s0 h
    refine hostCmd_of_staged h rfl fun h => ⟨?_, .of_vin ?_⟩
    · obtain ⟨h, htwin⟩ := Bool.and_eq_true_iff.mp h
      obtain ⟨hpass, hfree⟩ := Bool.and_eq_true_iff.mp h
      refine (checks_pass hpass _).trans ?_
      rw [hfree, Option.isNone_iff_eq_none.mp htwin]
      rfl
    · simp
  case tcamDelete =>
    intro c s0 h s e he
    refine hostCmd_of_staged h rfl fun h => ⟨?_, ?_⟩
    · obtain ⟨hpass, hvisible⟩ := Bool.and_eq_true_iff.mp h
      dsimp only at hvisible
      rw [he] at hvisible
      refine (checks_pass hpass _).trans ?_
      rw [he]
      dsimp only at hvisible ⊢
      rw [hvisible]
      rfl
    · refine .of_vin ?_
      split <;> simp [s]
  case tcamRead => exact fun _ _ h => hostCmd_of_ready h (.inr rfl) fun h => checks_pass h _
  case tcamSearch =>
    intro c s0 h s a ha g hg
    refine hostCmd_of_ready h (.inr rfl) fun h => ?_
    obtain ⟨hpass, hlen⟩ := Bool.and_eq_true_iff.mp h
    refine (checks_pass hpass _).trans ?_
    rw [ha] at hlen ⊢
    dsimp only at hlen ⊢
    rw [hg] at hlen ⊢
    exact if_neg (not_not_intro (beq_iff_eq.mp hlen))
  case tcamStatus => exact fun _ _ h => hostCmd_of_ready h (.inr rfl) fun h => checks_pass h _

end Sys2Proof.Machine
end

section
/-!
PROOFS. Vintages (chapter 9): each command, once ready, has its effect.
-/
namespace Sys2Proof.Machine

/-- A command on a vintage prepared for the twin commits it alone (R246). -/
theorem commitRun_of_prepared {c : Packet} {s : State} {v : Vintage} (at_ : Option Nat) (hv : s.vin.vint = some v)
    (hhandle : v.handle = c.handle.toNat) (hprep : (v.state == .prepared) = true) :
    commitRun c at_ s =
      (let t : State := (s.vintM fun v => { v with standalone := true }).commitCycle .ok 0
       .data (commitWords { v with standalone := true } t.ns32) t) := by
  rw [commitRun, hv]
  exact (if_neg (not_not_intro hhandle)).trans (if_pos hprep)

/-- A commit is at once when its time is within 2 µs of the present (R240). Not by evaluation: the kernel would count out the 2 µs. -/
theorem commitSoon_some (x now : Nat) :
    ((some x).map fun x => decide (x < now + 131072000)).getD false = decide (x < now + 131072000) := by
  rw [Option.map_some, Option.getD_some]

/-- What an OK commit says: that it was adjusted, and by how much it was late, when it has a time. -/
def commitNote (now : Nat) : Option Nat → Status × Nat
  | some x => (.okAdjusted, (lateOf x now).2)
  | none => (.ok, 0)

/-- The commit of an open vintage that passes its checks takes the next slot, or answers when it has been made at once. -/
theorem commitRun_of_opened {c : Packet} {s : State} {v : Vintage} {at_ : Option Nat} {soon : Bool} {st : Status} {d : Nat}
    (hsoon : (at_.map fun x => decide (x < s.time.line.t + 131072000)).getD false = soon)
    (hnote : commitNote s.time.line.t at_ = (st, d)) (hv : s.vin.vint = some v)
    (hhandle : v.handle = c.handle.toNat) (hopen : v.state = .opened) (hcheck : s.commitCheck v = none) :
    commitRun c at_ s =
      (let t := (s.vintM fun v => { v with at? := at_, atOnce := soon }).commitSlot
       if t.vin.vint.isNone then .done st d (commitWords ((t.vin.last).getD v) t.ns32) t else .pend 0 t) := by
  have hnotPrepared : ¬ (v.state == VState.prepared) = true := by simp [hopen]
  have hopened : ¬ (v.state != VState.opened) = true := by simp [hopen]
  subst hsoon
  rw [commitRun, hv]
  refine ((if_neg (not_not_intro hhandle)).trans (if_neg hnotPrepared)).trans ((if_neg hopened).trans ?_)
  rw [hcheck]
  cases at_ <;> cases hnote <;> rfl

/-- Settles O27: opening, staging, committing and aborting each act on the one open vintage that the checks have found. -/
theorem vintageCommandsRun : Obligations.VintageCommandsRun := by
  refine ⟨?vintOpen, ?vintStage, ?vintCommit, ?vintCommit2, ?vintAbort, ?vintStatus, ?vintStatus2, ?vintCommitAt,
    ?vintCommitAt2⟩
  case vintOpen =>
    intro c s0 h
    refine hostCmd_of_ready h (.inr rfl) fun h => ?_
    obtain ⟨h, hnone⟩ := Bool.and_eq_true_iff.mp h
    obtain ⟨hpass, hsync⟩ := Bool.and_eq_true_iff.mp h
    refine ((checks_pass hpass _).trans (if_neg (by simpa using hsync))).trans ?_
    rw [Option.isNone_iff_eq_none.mp hnone]
  case vintStage =>
    intro c s0 h
    refine hostCmd_of_ready h (.inr rfl) fun h => ?_
    obtain ⟨h, hrun⟩ := Bool.and_eq_true_iff.mp h
    obtain ⟨hpass, hopen⟩ := Bool.and_eq_true_iff.mp h
    refine (checks_pass hpass _).trans ?_
    cases hv : (s0.began 0x0501 c).openVint with
    | none => simp [hv] at hopen
    | some v =>
      rw [hv] at hopen
      refine (if_neg (not_not_intro (beq_iff_eq.mp hopen))).trans ?_
      split at hrun
      next hr => rw [hr]
      · contradiction
  case vintCommit =>
    intro c s0 h s v hv
    refine hostCmd_of_ready h (.inr rfl) fun h => ?_
    obtain ⟨hpass, hv'⟩ := Bool.and_eq_true_iff.mp h
    rw [hv] at hv'
    simp only [Bool.and_eq_true, beq_iff_eq, Option.isNone_iff_eq_none] at hv'
    obtain ⟨⟨hhandle, hopen⟩, hcheck⟩ := hv'
    exact (checks_pass hpass _).trans (commitRun_of_opened rfl rfl hv hhandle hopen hcheck)
  case vintCommit2 =>
    intro c s0 h s v hv
    refine hostCmd_of_ready h (.inr rfl) fun h => ?_
    obtain ⟨hpass, hv'⟩ := Bool.and_eq_true_iff.mp h
    rw [hv] at hv'
    obtain ⟨hhandle, hprep⟩ := Bool.and_eq_true_iff.mp hv'
    exact (checks_pass hpass _).trans (commitRun_of_prepared none hv (beq_iff_eq.mp hhandle) hprep)
  case vintAbort =>
    intro c s0 h s v hv
    refine hostCmd_of_ready h (.inr rfl) fun h => ?_
    obtain ⟨hpass, hv'⟩ := Bool.and_eq_true_iff.mp h
    rw [hv] at hv'
    refine (checks_pass hpass _).trans ?_
    rw [hv]
    exact if_neg (not_not_intro (beq_iff_eq.mp hv'))
  case vintStatus =>
    intro c s0 h
    refine hostCmd_of_ready h (.inr rfl) fun h => ?_
    obtain ⟨hpass, hzero⟩ := Bool.and_eq_true_iff.mp h
    exact (checks_pass hpass _).trans (if_pos (beq_iff_eq.mp hzero))
  case vintStatus2 =>
    intro c s0 h s v hv
    refine hostCmd_of_ready h (.inr rfl) fun h => ?_
    obtain ⟨h, -⟩ := Bool.and_eq_true_iff.mp h
    obtain ⟨hpass, hnonzero⟩ := Bool.and_eq_true_iff.mp h
    refine ((checks_pass hpass _).trans (if_neg (by simpa using hnonzero))).trans ?_
    rw [hv]
  case vintCommitAt =>
    intro c s0 h s v hv
    refine hostCmd_of_ready h (.inr rfl) fun h => ?_
    obtain ⟨hpass, hv'⟩ := Bool.and_eq_true_iff.mp h
    rw [hv] at hv'
    simp only [Bool.and_eq_true, beq_iff_eq, Option.isNone_iff_eq_none] at hv'
    obtain ⟨⟨hhandle, hopen⟩, hcheck⟩ := hv'
    exact (checks_pass hpass _).trans (commitRun_of_opened (commitSoon_some _ _) rfl hv hhandle hopen hcheck)
  case vintCommitAt2 =>
    intro c s0 h s v hv
    refine hostCmd_of_ready h (.inr rfl) fun h => ?_
    obtain ⟨hpass, hv'⟩ := Bool.and_eq_true_iff.mp h
    rw [hv] at hv'
    obtain ⟨hhandle, hprep⟩ := Bool.and_eq_true_iff.mp hv'
    exact (checks_pass hpass _).trans (commitRun_of_prepared (some _) hv (beq_iff_eq.mp hhandle) hprep)

end Sys2Proof.Machine
end

section
/-!
PROOFS. Actions and rewrite (chapter 10): each command, once ready, has its effect.
-/
namespace Sys2Proof.Machine

/-- Settles O28: each body is its checks and then its effect; what a staged one writes and refers to leaves the operations counted to the log. -/
theorem actionCommandsRun : Obligations.ActionCommandsRun := by
  refine ⟨?actWrite, ?actDelete, ?actRead, ?templateWrite, ?templateDelete, ?nexthopWrite, ?nexthopDelete, ?mirrorSessionSet,
    ?mirrorSessionSet2, ?mirrorSessionSet3, ?bypassClassSet, ?meterProfileSet, ?meterSet, ?meterRead, ?actionConfig,
    ?actStatus, ?reasonCounts⟩
  case actWrite =>
    refine fun c s0 h => hostCmd_of_staged h rfl fun h => ⟨checks_pass h _, .of_vin ?_⟩
    refine ((refsOfAct_vin _ _ _ _).trans (State.actM_vin _ _)).trans ?_
    split
    · split
      · exact refsOfAct_vin _ _ _ _
      · rfl
    · rfl
  case actDelete =>
    intro c s0 h s e he
    refine hostCmd_of_staged h rfl fun h => ⟨?_, ?_⟩
    · obtain ⟨hpass, -⟩ := Bool.and_eq_true_iff.mp h
      refine (checks_pass hpass _).trans ?_
      rw [he]
    · split
      · exact .of_vin ((State.actM_vin _ _).trans (refsOfAct_vin _ _ _ _))
      · exact .of_vin ((State.actM_vin _ _).trans (refsOfAct_vin _ _ _ _))
  case actRead => exact fun _ _ h => hostCmd_of_ready h (.inr rfl) fun h => checks_pass h _
  case templateWrite =>
    exact fun c s0 h => hostCmd_of_staged h rfl fun h => ⟨checks_pass h _, .of_vin (State.actM_vin _ _)⟩
  case templateDelete =>
    intro c s0 h s e he
    refine hostCmd_of_staged h rfl fun h => ⟨?_, ?_⟩
    · obtain ⟨hpass, -⟩ := Bool.and_eq_true_iff.mp h
      refine (checks_pass hpass _).trans ?_
      rw [he]
    · split
      · exact .of_vin (State.actM_vin _ _)
      · exact .of_vin (State.actM_vin _ _)
  case nexthopWrite =>
    refine fun c s0 h => hostCmd_of_staged h rfl fun h => ⟨checks_pass h _, .of_vin ?_⟩
    refine ((refsOfHop_vin _ _ _ _).trans (State.actM_vin _ _)).trans ?_
    split
    · split
      · exact refsOfHop_vin _ _ _ _
      · rfl
    · rfl
  case nexthopDelete =>
    intro c s0 h s e he
    refine hostCmd_of_staged h rfl fun h => ⟨?_, ?_⟩
    · obtain ⟨hpass, -⟩ := Bool.and_eq_true_iff.mp h
      refine (checks_pass hpass _).trans ?_
      rw [he]
    · split
      · exact .of_vin ((State.actM_vin _ _).trans (refsOfHop_vin _ _ _ _))
      · exact .of_vin ((State.actM_vin _ _).trans (refsOfHop_vin _ _ _ _))
  case mirrorSessionSet =>
    intro c s0 h s i hi
    refine hostCmd_of_staged h rfl fun h => ⟨?_, .of_vin ?_⟩
    · obtain ⟨hpass, hmine⟩ := Bool.and_eq_true_iff.mp h
      refine (checks_pass hpass _).trans ?_
      rw [hi] at hmine ⊢
      exact if_pos (beq_iff_eq.mp hmine)
    · exact (refsOfMirror_vin _ _ _ _).trans ((State.actM_vin _ _).trans (refsOfMirror_vin _ _ _ _))
  case mirrorSessionSet2 =>
    intro c s0 h s i hi j hj
    refine hostCmd_of_staged h rfl fun h => ⟨?_, .of_vin ?_⟩
    · obtain ⟨h, -⟩ := Bool.and_eq_true_iff.mp h
      obtain ⟨hpass, hother⟩ := Bool.and_eq_true_iff.mp h
      refine (checks_pass hpass _).trans ?_
      rw [hi] at hother ⊢
      refine (if_neg (bne_iff_ne.mp hother)).trans ?_
      rw [hj]
    · exact (refsOfMirror_vin _ _ _ _).trans ((State.actM_vin _ _).trans (refsOfMirror_vin _ _ _ _))
  case mirrorSessionSet3 =>
    intro c s0 h s j hj
    refine hostCmd_of_staged h rfl fun h => ⟨?_, .of_vin ?_⟩
    · obtain ⟨h, -⟩ := Bool.and_eq_true_iff.mp h
      obtain ⟨hpass, hnone⟩ := Bool.and_eq_true_iff.mp h
      refine (checks_pass hpass _).trans ?_
      rw [Option.isNone_iff_eq_none.mp hnone, hj]
    · exact (refsOfMirror_vin _ _ _ _).trans (State.actM_vin _ _)
  case bypassClassSet =>
    exact fun _ _ h => hostCmd_of_staged h rfl fun h => ⟨checks_pass h _, .stagedM _ _⟩
  case meterProfileSet => exact fun _ _ h => hostCmd_of_ready h (.inl rfl) fun h => checks_pass h _
  case meterSet => exact fun _ _ h => hostCmd_of_ready h (.inl rfl) fun h => checks_pass h _
  case meterRead => exact fun _ _ h => hostCmd_of_ready h (.inr rfl) fun h => checks_pass h _
  case actionConfig => exact fun _ _ h => hostCmd_of_ready h (.inl rfl) fun h => checks_pass h _
  case actStatus => exact fun _ _ h => hostCmd_of_ready h (.inr rfl) fun h => checks_pass h _
  case reasonCounts => exact fun _ _ h => hostCmd_of_ready h (.inr rfl) fun h => checks_pass h _

end Sys2Proof.Machine
end

section
/-!
PROOFS. Cipher units (chapter 11): each command, once ready, has its effect.
-/
namespace Sys2Proof.Machine

/-- One check passes when its condition holds. -/
@[simp] theorem passes_singleton (ok : Bool) (st : Status) (d : Nat) : passes [(ok, st, d)] = ok := by simp [passes]

/-- A binding may pass to an association that no other one holds (R306). -/
theorem State.mayBind_checks {s : State} {b i : Nat} {a : Sa} (h : s.mayBind b i a = true) :
    passes [(a.outbound && !a.frozen && !(match s.bindingOf i with
        | some x => x != b
        | none => false) && !a.exhausted, .conflict, 1),
      (!(match s.binding b with
        | some e => e.valid && (e.group != a.group || e.esp != a.esp || e.tunnel != a.tunnel || e.udp != a.udp)
        | none => false), .conflict, 2)] = true := by
  simp only [State.mayBind, Bool.and_eq_true] at h
  obtain ⟨⟨⟨⟨hout, hfrozen⟩, hexhausted⟩, hother⟩, hagree⟩ := h
  have hfree : (!(match s.bindingOf i with
      | some x => x != b
      | none => false)) = true := by
    cases hb : s.bindingOf i with
    | none => rfl
    | some x => simpa [hb] using hother
  have hsame : (!(match s.binding b with
      | some e => e.valid && (e.group != a.group || e.esp != a.esp || e.tunnel != a.tunnel || e.udp != a.udp)
      | none => false)) = true := by
    cases hb : s.binding b with
    | none => rfl
    | some e =>
      simp only [hb, Bool.and_eq_true, beq_iff_eq] at hagree
      obtain ⟨⟨⟨hg, he⟩, ht⟩, hu⟩ := hagree
      simp [hg, he, ht, hu]
  simp only [passes, List.all_cons, List.all_nil, Bool.and_true, Bool.and_eq_true]
  exact ⟨⟨⟨⟨hout, hfrozen⟩, hfree⟩, hexhausted⟩, hsame⟩

/-- Settles O29: each body is its checks and then its effect; an association is found, opened or placed as the case of its condition says. -/
theorem cipherCommandsRun : Obligations.CipherCommandsRun := by
  refine ⟨?saInstall, ?saRetire, ?saSwitch, ?saSwitch2, ?saSwitch3, ?saRead, ?saRead2, ?saSpillPolicy, ?saSpillPolicy2,
    ?saSpillPolicy3, ?cipherPortSet, ?bindingRead, ?cipherStatus⟩
  case saInstall =>
    intro c s0 h s key hkey d t ht
    refine hostCmd_of_ready h (.inr rfl) fun h => ?_
    obtain ⟨h, -⟩ := Bool.and_eq_true_iff.mp h
    obtain ⟨hpass, hroom⟩ := Bool.and_eq_true_iff.mp h
    refine (checks_pass hpass _).trans ?_
    rw [hkey]
    refine (if_neg (ne_true_of_not hroom)).trans ?_
    dsimp only
    rw [ht]
  case saRetire =>
    intro c s0 h s r hr
    refine hostCmd_of_ready h (.inr rfl) fun h => ?_
    obtain ⟨h, hfree⟩ := Bool.and_eq_true_iff.mp h
    obtain ⟨hpass, hlive⟩ := Bool.and_eq_true_iff.mp h
    refine (checks_pass hpass _).trans ?_
    rw [hr] at hlive ⊢
    refine (if_neg (by simpa using hlive)).trans ?_
    rewrite [Option.isNone_iff_eq_none.mp hfree]
    rfl
  case saSwitch =>
    intro c s0 h
    refine hostCmd_of_ready h (.inl rfl) fun h => ?_
    obtain ⟨h, hfree⟩ := Bool.and_eq_true_iff.mp h
    obtain ⟨hpass, hunbind⟩ := Bool.and_eq_true_iff.mp h
    refine ((checks_pass hpass _).trans (if_pos hunbind)).trans ?_
    refine (checks_pass ((passes_singleton _ _ _).trans hfree) _).trans ?_
    cases (s0.began 0x0702 c).binding c.obj with
    | none => rfl
    | some e =>
      cases (s0.began 0x0702 c).boundSa c.obj with
      | none => rfl
      | some o => rfl
  case saSwitch2 =>
    intro c s0 h
    refine hostCmd_of_ready h (.inl rfl) fun h => ?_
    obtain ⟨h, hsame⟩ := Bool.and_eq_true_iff.mp h
    obtain ⟨h, hlive⟩ := Bool.and_eq_true_iff.mp h
    obtain ⟨hpass, hbind⟩ := Bool.and_eq_true_iff.mp h
    refine ((checks_pass hpass _).trans (if_neg (by simpa using hbind))).trans ?_
    cases hr : (s0.began 0x0702 c).sa ((c.w 0).fld 21 0) with
    | none => simp [hr] at hlive
    | some r =>
      rw [hr] at hlive
      exact (if_neg (by simpa using hlive)).trans (if_pos (beq_iff_eq.mp hsame))
  case saSwitch3 =>
    intro c s0 h s r hr a ha
    refine hostCmd_of_ready h (.inl rfl) fun h => ?_
    obtain ⟨h, hother⟩ := Bool.and_eq_true_iff.mp h
    obtain ⟨h, hlive⟩ := Bool.and_eq_true_iff.mp h
    obtain ⟨hpass, hbind⟩ := Bool.and_eq_true_iff.mp h
    refine ((checks_pass hpass _).trans (if_neg (by simpa using hbind))).trans ?_
    rw [hr] at hlive ⊢
    dsimp only at hlive
    rw [ha] at hlive
    obtain ⟨hnotRetiring, hmay⟩ := Bool.and_eq_true_iff.mp hlive
    refine ((if_neg (by simpa using hnotRetiring)).trans (if_neg (bne_iff_ne.mp hother))).trans ?_
    rw [ha]
    exact checks_pass (State.mayBind_checks hmay) _
  case saRead =>
    intro c s0 h s r hr
    refine hostCmd_of_ready h (.inr rfl) fun h => ?_
    obtain ⟨hpass, hheld⟩ := Bool.and_eq_true_iff.mp h
    refine (checks_pass hpass _).trans ?_
    rw [hr] at hheld ⊢
    exact if_pos hheld
  case saRead2 =>
    intro c s0 h s r hr n a t ht
    refine hostCmd_of_ready h (.inr rfl) fun h => ?_
    obtain ⟨h, -⟩ := Bool.and_eq_true_iff.mp h
    obtain ⟨hpass, hspilled⟩ := Bool.and_eq_true_iff.mp h
    refine (checks_pass hpass _).trans ?_
    rw [hr] at hspilled ⊢
    refine (if_neg ?_).trans ?_
    · simpa using hspilled
    · rw [ht]
  case saSpillPolicy =>
    intro c s0 h
    refine hostCmd_of_ready h (.inr rfl) fun h => ?_
    obtain ⟨hdevice, hpass⟩ := Bool.and_eq_true_iff.mp h
    exact (if_pos (beq_iff_eq.mp hdevice)).trans (checks_pass hpass _)
  case saSpillPolicy2 =>
    intro c s0 h s r hr
    refine hostCmd_of_ready h (.inr rfl) fun h => ?_
    obtain ⟨h, hrec⟩ := Bool.and_eq_true_iff.mp h
    obtain ⟨h, hpin⟩ := Bool.and_eq_true_iff.mp h
    obtain ⟨hsa, hpass⟩ := Bool.and_eq_true_iff.mp h
    refine ((if_neg (bne_iff_ne.mp hsa)).trans (checks_pass hpass _)).trans ?_
    rw [hr] at hrec ⊢
    obtain ⟨hlive, hhere⟩ := Bool.and_eq_true_iff.mp hrec
    refine ((if_neg (by simpa using hlive)).trans (if_pos hpin)).trans ?_
    by_cases hheld : (s.saPinned r && r.ctx.isSome) = true
    · exact (if_pos hheld).trans (congrArg Res.ok (if_pos hheld).symm)
    · refine (if_neg hheld).trans (.trans ?_ (congrArg Res.ok (if_neg hheld).symm))
      obtain ⟨hroom, hfetch⟩ := Bool.and_eq_true_iff.mp ((Bool.or_eq_true_iff.mp hhere).resolve_left hheld)
      refine (if_neg (by simpa using hroom)).trans ?_
      split
      next hf => rw [hf]
      next hf => simp [hf] at hfetch
      next hf => simp [hf] at hfetch
  case saSpillPolicy3 =>
    intro c s0 h
    refine hostCmd_of_ready h (.inr rfl) fun h => ?_
    obtain ⟨h, hrec⟩ := Bool.and_eq_true_iff.mp h
    obtain ⟨h, hunpin⟩ := Bool.and_eq_true_iff.mp h
    obtain ⟨hsa, hpass⟩ := Bool.and_eq_true_iff.mp h
    refine ((if_neg (bne_iff_ne.mp hsa)).trans (checks_pass hpass _)).trans ?_
    cases hr : (s0.began 0x0704 c).sa c.obj with
    | none => simp [hr] at hrec
    | some r =>
      rw [hr] at hrec
      obtain ⟨hlive, hfree⟩ := Bool.and_eq_true_iff.mp hrec
      exact (if_neg (by simpa using hlive)).trans ((if_neg (by simpa using hunpin)).trans (if_neg (by simpa using hfree)))
  case cipherPortSet => exact fun _ _ h => hostCmd_of_ready h (.inl rfl) fun h => checks_pass h _
  case bindingRead => exact fun _ _ h => hostCmd_of_ready h (.inr rfl) fun h => checks_pass h _
  case cipherStatus => exact fun _ _ h => hostCmd_of_ready h (.inr rfl) fun h => checks_pass h _

end Sys2Proof.Machine
end

section
/-!
PROOFS. Scheduling, time and counters (chapters 14, 15 and 21): each command, once ready, has its effect.
-/
namespace Sys2Proof.Machine

/-- The checks of a branch that is taken pass. -/
theorem if_checks_pass {b : Bool} {cs : List (Bool × Status × Nat)} (h : (b && passes cs) = true) (k r : Res) :
    (if b = true then checks cs k else r) = k := by
  obtain ⟨hb, hpass⟩ := Bool.and_eq_true_iff.mp h
  exact (if_pos hb).trans (checks_pass hpass _)

/-- The checks of the branch that sets up pass when the one that takes down is not taken. -/
theorem else_checks_pass {b : Bool} {cs : List (Bool × Status × Nat)} (h : (b && passes cs) = true) (k r : Res) :
    (if (!b) = true then r else checks cs k) = k := by
  obtain ⟨hb, hpass⟩ := Bool.and_eq_true_iff.mp h
  exact (if_neg (by simp [hb])).trans (checks_pass hpass _)

/-- Settles O31: each body is its checks and then its effect, enabling or taking down; a read of samples without error answers them. -/
theorem schedulerCommandsRun : Obligations.SchedulerCommandsRun := by
  refine ⟨?schedPortSet, ?schedGroupSet, ?schedGroupSet2, ?schedQueueSet, ?schedQueueSet2, ?schedPortStatus, ?schedGroupStatus,
    ?schedQueueStatus, ?schedQueueStats, ?schedStatus, ?schedSampleRingSet, ?schedSampleRingSet2, ?schedSampleRead⟩
  case schedPortSet => exact fun _ _ h => hostCmd_of_ready h (.inl rfl) fun h => checks_pass h _
  case schedGroupSet =>
    exact fun c s0 h => hostCmd_of_ready h (.inl rfl) fun h => if_checks_pass h _ _
  case schedGroupSet2 =>
    exact fun c s0 h => hostCmd_of_ready h (.inl rfl) fun h => else_checks_pass h _ _
  case schedQueueSet =>
    exact fun c s0 h => hostCmd_of_ready h (.inl rfl) fun h => if_checks_pass h _ _
  case schedQueueSet2 =>
    exact fun c s0 h => hostCmd_of_ready h (.inl rfl) fun h => else_checks_pass h _ _
  case schedPortStatus => exact fun _ _ h => hostCmd_of_ready h (.inr rfl) fun h => checks_pass h _
  case schedGroupStatus => exact fun _ _ h => hostCmd_of_ready h (.inr rfl) fun h => checks_pass h _
  case schedQueueStatus => exact fun _ _ h => hostCmd_of_ready h (.inr rfl) fun h => checks_pass h _
  case schedQueueStats => exact fun _ _ h => hostCmd_of_ready h (.inr rfl) fun h => checks_pass h _
  case schedStatus => exact fun _ _ h => hostCmd_of_ready h (.inr rfl) fun h => checks_pass h _
  case schedSampleRingSet =>
    exact fun c s0 h => hostCmd_of_ready h (.inr rfl) fun h => if_checks_pass h _ _
  case schedSampleRingSet2 =>
    exact fun c s0 h => hostCmd_of_ready h (.inr rfl) fun h => else_checks_pass h _ _
  case schedSampleRead =>
    intro c s0 h
    refine hostCmd_of_ready h (.inr rfl) fun h => ?_
    obtain ⟨hpass, hclean⟩ := Bool.and_eq_true_iff.mp h
    refine (checks_pass hpass _).trans ?_
    dsimp only
    split
    next l t hcheck => simp [hcheck] at hclean
    next t hcheck =>
      rw [hcheck]
      rfl

/-- Settles O32: each body is its checks and then its effect, whether it enables or takes down. -/
theorem timeCommandsRun : Obligations.TimeCommandsRun := by
  refine ⟨?timeSet, ?timeGet, ?timeSelect, ?ptpDomainSet, ?ptpDomainSet2, ?ptpPortSet, ?ptpStatus, ?ptpTsRead, ?pulseSet,
    ?pulseSet2, ?captureRead, ?gateListSet, ?gateListSet2, ?gateListRead⟩
  case timeSet => exact fun _ _ h => hostCmd_of_ready h (.inr rfl) fun h => checks_pass h _
  case timeGet => exact fun _ _ h => hostCmd_of_ready h (.inr rfl) fun h => checks_pass h _
  case timeSelect => exact fun _ _ h => hostCmd_of_ready h (.inr rfl) fun h => checks_pass h _
  case ptpDomainSet =>
    exact fun c s0 h => hostCmd_of_ready h (.inr rfl) fun h => if_checks_pass h _ _
  case ptpDomainSet2 =>
    exact fun c s0 h => hostCmd_of_ready h (.inr rfl) fun h => else_checks_pass h _ _
  case ptpPortSet => exact fun _ _ h => hostCmd_of_ready h (.inl rfl) fun h => checks_pass h _
  case ptpStatus => exact fun _ _ h => hostCmd_of_ready h (.inr rfl) fun h => checks_pass h _
  case ptpTsRead => exact fun _ _ h => hostCmd_of_ready h (.inr rfl) fun h => checks_pass h _
  case pulseSet =>
    intro c s0 h
    refine hostCmd_of_ready h (.inl rfl) fun h => ?_
    obtain ⟨hoff, hpass⟩ := Bool.and_eq_true_iff.mp h
    exact (if_pos (beq_iff_eq.mp hoff)).trans (checks_pass hpass _)
  case pulseSet2 =>
    intro c s0 h
    refine hostCmd_of_ready h (.inl rfl) fun h => ?_
    obtain ⟨hon, hpass⟩ := Bool.and_eq_true_iff.mp h
    exact (if_neg (bne_iff_ne.mp hon)).trans (checks_pass hpass _)
  case captureRead => exact fun _ _ h => hostCmd_of_ready h (.inr rfl) fun h => checks_pass h _
  case gateListSet =>
    exact fun c s0 h => hostCmd_of_ready h (.inl rfl) fun h => if_checks_pass h _ _
  case gateListSet2 =>
    exact fun c s0 h => hostCmd_of_ready h (.inl rfl) fun h => else_checks_pass h _ _
  case gateListRead => exact fun _ _ h => hostCmd_of_ready h (.inr rfl) fun h => checks_pass h _

/-- Settles O35: each body is its checks and then its effect; a read of the image that meets no error answers it. -/
theorem counterCommandsRun : Obligations.CounterCommandsRun := by
  refine ⟨?statRead, ?statClear, ?snapAreaSet, ?snapTake, ?snapStatus, ?snapRead, ?prfSelect, ?prfRead, ?bwmSet, ?bwmRead⟩
  case statRead => exact fun _ _ h => hostCmd_of_ready h (.inr rfl) fun h => checks_pass h _
  case statClear => exact fun _ _ h => hostCmd_of_ready h (.inr rfl) fun h => checks_pass h _
  case snapAreaSet => exact fun _ _ h => hostCmd_of_ready h (.inr rfl) fun h => checks_pass h _
  case snapTake => exact fun _ _ h => hostCmd_of_ready h (.inr rfl) fun h => checks_pass h _
  case snapStatus => exact fun _ _ h => hostCmd_of_ready h (.inr rfl) fun h => checks_pass h _
  case snapRead =>
    intro c s0 h s a ha
    refine hostCmd_of_ready h (.inr rfl) fun h => ?_
    obtain ⟨h, hclean⟩ := Bool.and_eq_true_iff.mp h
    obtain ⟨hpass, himage⟩ := Bool.and_eq_true_iff.mp h
    refine (checks_pass hpass _).trans ?_
    rw [ha] at hclean ⊢
    refine (if_neg (by simpa using himage)).trans ?_
    dsimp only
    split
    next l t hcheck => simp [hcheck] at hclean
    next t hcheck => rw [hcheck]
  case prfSelect => exact fun _ _ h => hostCmd_of_ready h (.inr rfl) fun h => checks_pass h _
  case prfRead => exact fun _ _ h => hostCmd_of_ready h (.inr rfl) fun h => checks_pass h _
  case bwmSet => exact fun _ _ h => hostCmd_of_ready h (.inr rfl) fun h => checks_pass h _
  case bwmRead => exact fun _ _ h => hostCmd_of_ready h (.inr rfl) fun h => checks_pass h _

end Sys2Proof.Machine
end

section
/-!
PROOFS. The core and the pools, power and memory, faults and factory tests (chapters 12, 13, 19, 20 and 22): each command, once ready, has its effect.
-/
namespace Sys2Proof.Machine

/-- Settles O30: each body is its checks and then its effect. -/
theorem coreCommandsRun : Obligations.CoreCommandsRun := by
  refine ⟨?coreXpSet, ?coreColumnSet, ?coreXpStatus, ?coreColumnStatus, ?corePortFlush, ?corePortStatus, ?poolCarve,
    ?poolColumnSet, ?poolModeSet, ?poolQuotaSet, ?poolStatus, ?poolBufferRead, ?poolQuarantineRelease⟩
  case coreXpSet => exact fun _ _ h => hostCmd_of_ready h (.inl rfl) fun h => checks_pass h _
  case coreColumnSet => exact fun _ _ h => hostCmd_of_ready h (.inl rfl) fun h => checks_pass h _
  case coreXpStatus => exact fun _ _ h => hostCmd_of_ready h (.inr rfl) fun h => checks_pass h _
  case coreColumnStatus => exact fun _ _ h => hostCmd_of_ready h (.inr rfl) fun h => checks_pass h _
  case corePortFlush => exact fun _ _ h => hostCmd_of_ready h (.inr rfl) fun h => checks_pass h _
  case corePortStatus => exact fun _ _ h => hostCmd_of_ready h (.inr rfl) fun h => checks_pass h _
  case poolCarve => exact fun _ _ h => hostCmd_of_ready h (.inl rfl) fun h => checks_pass h _
  case poolColumnSet => exact fun _ _ h => hostCmd_of_ready h (.inl rfl) fun h => checks_pass h _
  case poolModeSet => exact fun _ _ h => hostCmd_of_ready h (.inr rfl) fun h => checks_pass h _
  case poolQuotaSet => exact fun _ _ h => hostCmd_of_ready h (.inl rfl) fun h => checks_pass h _
  case poolStatus => exact fun _ _ h => hostCmd_of_ready h (.inr rfl) fun h => checks_pass h _
  case poolBufferRead => exact fun _ _ h => hostCmd_of_ready h (.inr rfl) fun h => checks_pass h _
  case poolQuarantineRelease => exact fun _ _ h => hostCmd_of_ready h (.inr rfl) fun h => checks_pass h _

/-- Settles O34: each body is its checks and then its effect. -/
theorem powerAndMemoryCommandsRun : Obligations.PowerAndMemoryCommandsRun := by
  refine ⟨?powerPolicySet, ?powerStatus, ?sliceRetire, ?sliceAdmit, ?sliceStatus, ?ddrTrain, ?ddrConfig, ?ddrStatus⟩
  case powerPolicySet => exact fun _ _ h => hostCmd_of_ready h (.inl rfl) fun h => checks_pass h _
  case powerStatus => exact fun _ _ h => hostCmd_of_ready h (.inr rfl) fun h => checks_pass h _
  case sliceRetire => exact fun _ _ h => hostCmd_of_ready h (.inr rfl) fun h => checks_pass h _
  case sliceAdmit => exact fun _ _ h => hostCmd_of_ready h (.inr rfl) fun h => checks_pass h _
  case sliceStatus => exact fun _ _ h => hostCmd_of_ready h (.inr rfl) fun h => checks_pass h _
  case ddrTrain => exact fun _ _ h => hostCmd_of_ready h (.inr rfl) fun h => checks_pass h _
  case ddrConfig => exact fun _ _ h => hostCmd_of_ready h (.inl rfl) fun h => checks_pass h _
  case ddrStatus => exact fun _ _ h => hostCmd_of_ready h (.inr rfl) fun h => checks_pass h _

/-- Settles O36: each body is its checks and then its effect. -/
theorem faultCommandsRun : Obligations.FaultCommandsRun := by
  refine ⟨?faultStatus, ?faultRead, ?faultClear, ?faultReactionSet, ?bookInfo, ?bookRead⟩
  case faultStatus => exact fun _ _ h => hostCmd_of_ready h (.inr rfl) fun h => checks_pass h _
  case faultRead => exact fun _ _ h => hostCmd_of_ready h (.inr rfl) fun h => checks_pass h _
  case faultClear =>
    intro c s0 h
    refine hostCmd_of_ready h (.inr rfl) fun h => ?_
    by_cases hall : c.obj = 0xFFFFFFFF
    · refine (if_pos hall).trans ?_
      simp only [if_pos hall]
    · have hlisted := (Bool.or_eq_true_iff.mp h).resolve_left (mt beq_iff_eq.mp hall)
      refine ((if_neg hall).trans (checks_pass hlisted _)).trans ?_
      simp only [if_neg hall]
  case faultReactionSet => exact fun _ _ h => hostCmd_of_ready h (.inl rfl) fun h => checks_pass h _
  case bookInfo => exact fun _ _ h => hostCmd_of_ready h (.inr rfl) fun h => checks_pass h _
  case bookRead => exact fun _ _ h => hostCmd_of_ready h (.inr rfl) fun h => checks_pass h _

/-- Settles O37: each body is its checks and then its effect. -/
theorem factoryCommandsRun : Obligations.FactoryCommandsRun := by
  refine ⟨?faultInject, ?guardSet, ?bookClear, ?diagLoopback, ?diagMemTest⟩
  case faultInject => exact fun _ _ h => hostCmd_of_ready h (.inr rfl) fun h => checks_pass h _
  case guardSet => exact fun _ _ h => hostCmd_of_ready h (.inr rfl) fun h => checks_pass h _
  case bookClear => exact fun _ _ h => hostCmd_of_ready h (.inr rfl) fun h => checks_pass h _
  case diagLoopback => exact fun _ _ h => hostCmd_of_ready h (.inr rfl) fun h => checks_pass h _
  case diagMemTest => exact fun _ _ h => hostCmd_of_ready h (.inr rfl) fun h => checks_pass h _

end Sys2Proof.Machine
end

section
/-!
PROOFS. Host rings and the twin (chapters 16 and 17): each command, once ready, has its effect.
-/
namespace Sys2Proof.Machine

/-- Settles O33: each body is its checks and then its effect, whether a ring is taken down, set up or set again. -/
theorem hostTrafficAndTwinCommandsRun : Obligations.HostTrafficAndTwinCommandsRun := by
  refine ⟨?htxRingSet, ?htxRingSet2, ?htxRingSet3, ?hrxRingSet, ?hrxRingSet2, ?hrxRingSet3, ?segProfileSet, ?hringStatus,
    ?twinConfig, ?twinEnrol, ?twinTakeover, ?twinStatus, ?twinLock⟩
  case htxRingSet =>
    intro c s0 h
    refine hostCmd_of_ready h (.inr rfl) fun h => ?_
    obtain ⟨hdown, hpass⟩ := Bool.and_eq_true_iff.mp h
    exact (if_pos (beq_iff_eq.mp hdown)).trans (checks_pass hpass _)
  case htxRingSet2 =>
    intro c s0 h
    refine hostCmd_of_ready h (.inr rfl) fun h => ?_
    obtain ⟨h, hnew⟩ := Bool.and_eq_true_iff.mp h
    obtain ⟨hup, hpass⟩ := Bool.and_eq_true_iff.mp h
    refine (if_neg (bne_iff_ne.mp hup)).trans ((checks_append _ _ _).trans ?_)
    refine (checks_pass hpass _).trans ((checks_pass ?_ _).trans (if_pos (beq_iff_eq.mp hnew)))
    exact (passes_singleton _ _ _).trans (Bool.or_eq_true_iff.mpr (.inl hnew))
  case htxRingSet3 =>
    intro c s0 h
    refine hostCmd_of_ready h (.inr rfl) fun h => ?_
    obtain ⟨h, hwb⟩ := Bool.and_eq_true_iff.mp h
    obtain ⟨h, hbase⟩ := Bool.and_eq_true_iff.mp h
    obtain ⟨h, hen⟩ := Bool.and_eq_true_iff.mp h
    obtain ⟨h, hsize⟩ := Bool.and_eq_true_iff.mp h
    obtain ⟨h, hold⟩ := Bool.and_eq_true_iff.mp h
    obtain ⟨hup, hpass⟩ := Bool.and_eq_true_iff.mp h
    refine (if_neg (bne_iff_ne.mp hup)).trans ((checks_append _ _ _).trans ?_)
    refine (checks_pass hpass _).trans ((checks_pass ?_ _).trans (if_neg (bne_iff_ne.mp hold)))
    refine (passes_singleton _ _ _).trans (Bool.or_eq_true_iff.mpr (.inr ?_))
    simp only [Bool.and_eq_true]
    exact ⟨⟨⟨⟨hsize, hen⟩, hbase⟩, hwb⟩, rfl⟩
  case hrxRingSet =>
    intro c s0 h
    refine hostCmd_of_ready h (.inr rfl) fun h => ?_
    obtain ⟨hdown, hpass⟩ := Bool.and_eq_true_iff.mp h
    exact (if_pos (beq_iff_eq.mp hdown)).trans (checks_pass hpass _)
  case hrxRingSet2 =>
    intro c s0 h
    refine hostCmd_of_ready h (.inr rfl) fun h => ?_
    obtain ⟨h, hnew⟩ := Bool.and_eq_true_iff.mp h
    obtain ⟨hup, hpass⟩ := Bool.and_eq_true_iff.mp h
    refine (if_neg (bne_iff_ne.mp hup)).trans ((checks_append _ _ _).trans ?_)
    refine (checks_pass hpass _).trans ((checks_pass ?_ _).trans (if_pos (beq_iff_eq.mp hnew)))
    exact (passes_singleton _ _ _).trans (Bool.or_eq_true_iff.mpr (.inl hnew))
  case hrxRingSet3 =>
    intro c s0 h
    refine hostCmd_of_ready h (.inr rfl) fun h => ?_
    obtain ⟨h, hbuf⟩ := Bool.and_eq_true_iff.mp h
    obtain ⟨h, hwb⟩ := Bool.and_eq_true_iff.mp h
    obtain ⟨h, hbase⟩ := Bool.and_eq_true_iff.mp h
    obtain ⟨h, hen⟩ := Bool.and_eq_true_iff.mp h
    obtain ⟨h, hsize⟩ := Bool.and_eq_true_iff.mp h
    obtain ⟨h, hold⟩ := Bool.and_eq_true_iff.mp h
    obtain ⟨hup, hpass⟩ := Bool.and_eq_true_iff.mp h
    refine (if_neg (bne_iff_ne.mp hup)).trans ((checks_append _ _ _).trans ?_)
    refine (checks_pass hpass _).trans ((checks_pass ?_ _).trans (if_neg (bne_iff_ne.mp hold)))
    refine (passes_singleton _ _ _).trans (Bool.or_eq_true_iff.mpr (.inr ?_))
    simp only [Bool.and_eq_true]
    exact ⟨⟨⟨⟨hsize, hen⟩, hbase⟩, hwb⟩, hbuf⟩
  case segProfileSet => exact fun _ _ h => hostCmd_of_ready h (.inl rfl) fun h => checks_pass h _
  case hringStatus => exact fun _ _ h => hostCmd_of_ready h (.inr rfl) fun h => checks_pass h _
  case twinConfig => exact fun _ _ h => hostCmd_of_ready h (.inr rfl) fun h => checks_pass h _
  case twinEnrol =>
    intro c s0 h
    refine hostCmd_of_ready h (.inr rfl) fun h => ?_
    obtain ⟨hpass, hprint⟩ := Bool.and_eq_true_iff.mp h
    refine (checks_pass hpass _).trans ?_
    rw [beq_iff_eq.mp hprint]
    exact if_neg (not_not_intro rfl)
  case twinTakeover =>
    intro c s0 h
    refine hostCmd_of_ready h (.inr rfl) fun h => ?_
    obtain ⟨hpass, hway⟩ := Bool.and_eq_true_iff.mp h
    refine (checks_pass hpass _).trans ?_
    by_cases hown : (!(s0.began 0x0C02 c).pins.ownIn) = true
    · exact (if_pos hown).trans (if_pos hown).symm
    · have hup := (Bool.or_eq_true_iff.mp hway).resolve_left hown
      exact ((if_neg hown).trans (if_pos hup)).trans (if_neg hown).symm
  case twinStatus => exact fun _ _ h => hostCmd_of_ready h (.inr rfl) fun h => checks_pass h _
  case twinLock => exact fun _ _ h => hostCmd_of_ready h (.inr rfl) fun h => checks_pass h _

end Sys2Proof.Machine
end

section
/-!
PROOFS. The Vintner's mailbox service and the SMBus target (chapters 3 and 22): each row has its effect.
-/
namespace Sys2Proof.Machine

/-- An event that answers a state is that state, settled. -/
theorem done_of_eq {t u : State} (h : t = u) : t.done = .next u.settle := congrArg State.done h

/-- The service of a message with an empty high half: the effect of its code, then the acknowledgement (R69). -/
theorem State.mbxService_of_code {s : State} {m : Nat} {p : Nat → Bool} (act : State → State) (hm : m < 8)
    (hrun : s.vnt.running = true) (hbox : ((nth s.mbx m {}).state == .posted || (nth s.mbx m {}).state == .accepted) = true)
    (hcode : p (mbxCode (nth s.mbx m {})) = true) (hhigh : (nth (nth s.mbx m {}).msg 0 0#32).fld 31 16 = 0) :
    s.mbxService m p act = (act s).mbxAck m (if mbxCode (nth s.mbx m {}) < 4 then 0 else 0xFFFF) 0 := by
  have hserved : (decide (m < 8) && s.vnt.running && ((nth s.mbx m {}).state == .posted || (nth s.mbx m {}).state == .accepted)
      && p (mbxCode (nth s.mbx m {}))) = true := by
    simp only [Bool.and_eq_true, decide_eq_true_eq]
    exact ⟨⟨⟨hm, hrun⟩, hbox⟩, hcode⟩
  exact (if_pos hserved).trans (if_neg (by simp [hhigh]))

/-- The service of a message with something in its high half refuses it (R69). -/
theorem State.mbxService_of_high {s : State} {m : Nat} {p : Nat → Bool} (act : State → State) (hm : m < 8)
    (hrun : s.vnt.running = true) (hbox : ((nth s.mbx m {}).state == .posted || (nth s.mbx m {}).state == .accepted) = true)
    (hcode : p (mbxCode (nth s.mbx m {})) = true) (hhigh : ((nth (nth s.mbx m {}).msg 0 0#32).fld 31 16 != 0) = true) :
    s.mbxService m p act = s.mbxAck m 0xFFFE 0 := by
  have hserved : (decide (m < 8) && s.vnt.running && ((nth s.mbx m {}).state == .posted || (nth s.mbx m {}).state == .accepted)
      && p (mbxCode (nth s.mbx m {}))) = true := by
    simp only [Bool.and_eq_true, decide_eq_true_eq]
    exact ⟨⟨⟨hm, hrun⟩, hbox⟩, hcode⟩
  exact (if_pos hserved).trans (if_pos hhigh)

/-- A message of a code from 0 to 3 and nothing else has the effect of that code and is acknowledged with 0. -/
theorem State.mbxService_of_boxReady {s : State} {m code : Nat} {p : Nat → Bool} (act : State → State)
    (h : s.boxReady m code = true) (hlt : code < 4) (hp : p code = true) : s.mbxService m p act = (act s).mbxAck m 0 0 := by
  simp only [State.boxReady, Bool.and_eq_true, decide_eq_true_eq, beq_iff_eq (α := Word)] at h
  obtain ⟨⟨⟨hm, hrun⟩, hbox⟩, hmsg⟩ := h
  have hfour : code = 0 ∨ code = 1 ∨ code = 2 ∨ code = 3 := by omega
  have hcode : mbxCode (nth s.mbx m {}) = code := by
    rw [mbxCode, hmsg]
    rcases hfour with rfl | rfl | rfl | rfl <;> rfl
  have hhigh : (nth (nth s.mbx m {}).msg 0 0#32).fld 31 16 = 0 := by
    rw [hmsg]
    rcases hfour with rfl | rfl | rfl | rfl <;> rfl
  rw [State.mbxService_of_code act hm hrun hbox (by rw [hcode, hp]) hhigh, if_pos (hcode ▸ hlt)]

/-- A read of a lock by the SMBus master alone is one answer (R71, R72). -/
theorem lockAcquire_smbus {n : Nat} {s : State} (hn : n < 32) (hup : s.smbUp = true) : lockAcquire n [2] s = s.lockAnswer n 2 := by
  have hmasters : ([0, 1, 2, 3].filter fun m => [2].contains m && s.masterUp m) = [2] := by simp [State.masterUp, hup]
  rw [lockAcquire, if_neg (by omega), hmasters]
  rfl

/-- Settles O38: a message whose high half is 0 has the effect of its code and is acknowledged; a transfer the target takes has its effect. -/
theorem mailboxServiceAndSmbusRun : Obligations.MailboxServiceAndSmbusRun := by
  refine ⟨?mbxNop, ?mbxNop2, ?mbxNop3, ?ringRescan, ?holdHost, ?hostRelease, ?tunnelWrite, ?tunnelRead, ?bookSelect,
    ?smbusBookRead, ?smbusLockAcquire, ?smbusLockRelease, ?alertResponse, ?smbusTimeout⟩
  case mbxNop =>
    exact fun _ _ h => done_of_eq (State.mbxService_of_boxReady id h (by decide) rfl)
  case mbxNop2 =>
    intro m s h
    simp only [Ready.mbxNop2, Bool.and_eq_true, decide_eq_true_eq, beq_iff_eq (α := Nat)] at h
    obtain ⟨⟨⟨⟨hm, hrun⟩, hbox⟩, hcode⟩, hhigh⟩ := h
    refine done_of_eq ((State.mbxService_of_code id hm hrun hbox ?_ hhigh).trans ?_)
    · simp [hcode]
    · rw [if_neg (by omega), id]
  case mbxNop3 =>
    intro m s h
    simp only [Ready.mbxNop3, Bool.and_eq_true, decide_eq_true_eq, beq_iff_eq (α := Nat)] at h
    obtain ⟨⟨⟨⟨hm, hrun⟩, hbox⟩, hcode⟩, hhigh⟩ := h
    exact done_of_eq (State.mbxService_of_high id hm hrun hbox (by rw [hcode]; rfl) hhigh)
  case ringRescan =>
    exact fun _ _ h => done_of_eq (State.mbxService_of_boxReady _ h (by decide) rfl)
  case holdHost =>
    exact fun _ _ h => done_of_eq (State.mbxService_of_boxReady _ h (by decide) rfl)
  case hostRelease =>
    exact fun _ _ h => done_of_eq (State.mbxService_of_boxReady _ h (by decide) rfl)
  case tunnelWrite =>
    intro data pecOk s h
    simp only [Ready.tunnelWrite, Bool.and_eq_true, Option.isNone_iff_eq_none, beq_iff_eq] at h
    obtain ⟨⟨⟨⟨⟨hup, hfree⟩, hpec⟩, hdata⟩, hrsv⟩, hfirst⟩ := h
    have htaken : ¬ (s.smb.command.isSome || !pecOk || data.isEmpty || byteAt data 0 % 64 != 0
        || (!nbit (byteAt data 0) 7 && s.smb.assembly.isNone)) = true := by
      simp only [hfree, hpec, hrsv, (Bool.not_eq_true' _).mp hdata, Option.isSome_none, Bool.not_true, Bool.or_false, bne_self_eq_false,
        Bool.false_or, Bool.and_eq_true, Bool.not_eq_true', Option.isNone_iff_eq_none, not_and]
      intro hlater
      simpa [hlater, Option.isSome_iff_ne_none] using hfirst
    exact done_of_eq ((if_neg (by simp [hup])).trans (if_neg htaken))
  case tunnelRead =>
    intro s h b k hreply
    obtain ⟨hup, -⟩ := Bool.and_eq_true_iff.mp h
    refine done_of_eq ((if_neg (by simp [hup])).trans ?_)
    rw [hreply]
  case bookSelect =>
    intro data pecOk s h
    simp only [Ready.bookSelect, Bool.and_eq_true, decide_eq_true_eq, beq_iff_eq] at h
    obtain ⟨⟨⟨⟨⟨hup, hpec⟩, hlen⟩, hlow⟩, hhigh⟩, hoff⟩ := h
    refine done_of_eq ((if_neg (by simp [hup])).trans (if_neg ?_))
    simpa [hpec, hlen, hlow, hhigh] using hoff
  case smbusBookRead =>
    exact fun s h => done_of_eq (if_neg (by simp [show s.smbUp = true from h]))
  case smbusLockAcquire =>
    intro n s h
    simp only [Ready.smbusLockAcquire, Bool.and_eq_true, decide_eq_true_eq] at h
    obtain ⟨hup, hn⟩ := h
    exact done_of_eq ((if_pos hup).trans (lockAcquire_smbus hn hup))
  case smbusLockRelease =>
    intro n data pecOk s h
    simp only [Ready.smbusLockRelease, Bool.and_eq_true, beq_iff_eq] at h
    obtain ⟨⟨hup, hpec⟩, hdata⟩ := h
    exact done_of_eq ((if_neg (by simp [hup])).trans ((if_neg (by simp [hpec])).trans (if_pos hdata)))
  case alertResponse =>
    intro s h
    obtain ⟨hup, halert⟩ := Bool.and_eq_true_iff.mp h
    exact done_of_eq ((if_neg (by simp [hup])).trans (if_pos halert))
  case smbusTimeout =>
    exact fun _ => rfl

end Sys2Proof.Machine
end

section
/-!
PROOFS. Doorbells, ring controls, mailboxes and locks (chapters 3 and 16): each row has its effect.
-/
namespace Sys2Proof.Machine

/-- While BAR0 answers, a write that its register takes has its effect there. -/
theorem State.overBar_if_pos {s t u : State} {p : Prop} [Decidable p] (hbar : s.barUp = true) (hp : p) (h : t = u) :
    s.overBar (if p then t else s) = u :=
  (State.overBar_of_barUp hbar _).trans ((if_pos hp).trans h)

/-- Enabling a ring whose size is right starts it from index 0 (R52). -/
theorem State.ringCtrl_starts {s : State} {r : Nat} {v : Word} (hwas : (s.ring r).enable = false) (hon : v.bit 0 = true)
    (hok : slotsOk r ((s.ringSet r v).ring r).slots = true) :
    s.ringCtrl r v = (s.ringSet r v).ringM r fun g => { g with active := true, host := 0, engine := 0 } :=
  (if_pos (by simp [hwas, hon])).trans (if_pos hok)

/-- Enabling a ring whose size is wrong sets CFG_ERR and the error bit (R52). -/
theorem State.ringCtrl_refuses {s : State} {r : Nat} {v : Word} (hwas : (s.ring r).enable = false) (hon : v.bit 0 = true)
    (hbad : slotsOk r ((s.ringSet r v).ring r).slots = false) :
    s.ringCtrl r v = ((s.ringSet r v).ringM r fun g => { g with cfgErr := true }).setHifErr 1 :=
  (if_pos (by simp [hwas, hon])).trans (if_neg (by simp [hbad]))

/-- Disabling a ring stops it. -/
theorem State.ringCtrl_stops {s : State} {r : Nat} {v : Word} (hwas : (s.ring r).enable = true) (hoff : v.bit 0 = false) :
    s.ringCtrl r v = (s.ringSet r v).ringM r fun g => { g with active := false } :=
  (if_neg (by simp [hwas])).trans (if_pos (by simp [hwas, hoff]))

/-- A write of an interrupt register while BAR0 answers. -/
theorem exec_irqMaskWrite_of_irq {s : State} {off : Nat} (hbar : s.barUp = true) (hlt : off < 4096) (v : Word) :
    exec (.irqMaskWrite (0x4000 + off) v) s = .next (s.irqWrite off v).settle := by
  refine done_of_eq ((State.overBar_of_barUp hbar _).trans ((if_neg (by omega)).trans ((if_pos (by omega)).trans ?_)))
  rw [Nat.add_sub_cancel_left]

/-- Settles O39: while BAR0 answers, each write reaches its register, which takes the branch that its condition names. -/
theorem doorbellsAndRingControlsRun : Obligations.DoorbellsAndRingControlsRun := by
  refine ⟨?hifDb, ?hifDb2, ?hifTxdb, ?hifTxdb2, ?hifRxdb, ?hifRxdb2, ?ringEnable, ?ringEnable2, ?ringDisable, ?irqMaskWrite,
    ?irqMaskWrite2, ?irqMaskWrite3, ?irqMaskWrite4, ?irqMaskWrite5⟩
  case hifDb =>
    intro r value s h
    simp only [Ready.hifDb, Bool.and_eq_true, decide_eq_true_eq] at h
    obtain ⟨⟨hbar, hr⟩, hfits⟩ := h
    exact done_of_eq (State.overBar_if_pos hbar hr (if_pos hfits))
  case hifDb2 =>
    intro r value s h
    simp only [Ready.hifDb2, Bool.and_eq_true, decide_eq_true_eq] at h
    obtain ⟨⟨hbar, hr⟩, hover⟩ := h
    exact done_of_eq (State.overBar_if_pos hbar hr (if_neg (Nat.not_le.mpr hover)))
  case hifTxdb =>
    intro t value s h
    simp only [Ready.hifTxdb, Bool.and_eq_true, decide_eq_true_eq] at h
    obtain ⟨⟨hbar, ht⟩, hfits⟩ := h
    exact done_of_eq (State.overBar_if_pos hbar ht (if_pos hfits))
  case hifTxdb2 =>
    intro t value s h
    simp only [Ready.hifTxdb2, Bool.and_eq_true, decide_eq_true_eq] at h
    obtain ⟨⟨hbar, ht⟩, hover⟩ := h
    exact done_of_eq (State.overBar_if_pos hbar ht (if_neg (Nat.not_le.mpr hover)))
  case hifRxdb =>
    intro r value s h
    simp only [Ready.hifRxdb, Bool.and_eq_true, decide_eq_true_eq] at h
    obtain ⟨⟨hbar, hr⟩, hfits⟩ := h
    exact done_of_eq (State.overBar_if_pos hbar hr (if_pos hfits))
  case hifRxdb2 =>
    intro r value s h
    simp only [Ready.hifRxdb2, Bool.and_eq_true, decide_eq_true_eq] at h
    obtain ⟨⟨hbar, hr⟩, hover⟩ := h
    exact done_of_eq (State.overBar_if_pos hbar hr (if_neg (Nat.not_le.mpr hover)))
  case ringEnable =>
    intro r value s h
    simp only [Ready.ringEnable, Bool.and_eq_true, decide_eq_true_eq, Bool.not_eq_true'] at h
    obtain ⟨⟨⟨⟨hbar, hr⟩, hwas⟩, hon⟩, hok⟩ := h
    exact done_of_eq (State.overBar_if_pos hbar hr (State.ringCtrl_starts hwas hon hok))
  case ringEnable2 =>
    intro r value s h
    simp only [Ready.ringEnable2, Bool.and_eq_true, decide_eq_true_eq, Bool.not_eq_true'] at h
    obtain ⟨⟨⟨⟨hbar, hr⟩, hwas⟩, hon⟩, hbad⟩ := h
    exact done_of_eq (State.overBar_if_pos hbar hr (State.ringCtrl_refuses hwas hon hbad))
  case ringDisable =>
    intro r value s h
    simp only [Ready.ringDisable, Bool.and_eq_true, decide_eq_true_eq, Bool.not_eq_true'] at h
    obtain ⟨⟨⟨hbar, hr⟩, hwas⟩, hoff⟩ := h
    exact done_of_eq (State.overBar_if_pos hbar hr (State.ringCtrl_stops hwas hoff))
  case irqMaskWrite =>
    rintro offset value s hbar rfl
    exact exec_irqMaskWrite_of_irq (off := 4) hbar (by decide) value
  case irqMaskWrite2 =>
    rintro offset value s hbar rfl
    exact done_of_eq (State.overBar_of_barUp hbar _)
  case irqMaskWrite3 =>
    rintro offset value s hbar rfl
    exact exec_irqMaskWrite_of_irq (off := 0x14) hbar (by decide) value
  case irqMaskWrite4 =>
    rintro offset value s hbar rfl
    exact exec_irqMaskWrite_of_irq (off := 0x24) hbar (by decide) value
  case irqMaskWrite5 =>
    rintro offset value s hbar rfl
    exact exec_irqMaskWrite_of_irq (off := 0x34) hbar (by decide) value

/-- A master that is up reaches the mailboxes there are. -/
theorem mailbox_reached {s t u : State} {m master : Nat} (hup : s.masterUp master = true) (hm : m < 16) (h : t = u) :
    (if s.masterUp master then if m < 16 then t else s else s).done = .next u.settle :=
  done_of_eq ((if_pos hup).trans ((if_pos hm).trans h))

/-- Settles O40: a master that is up reaches its mailbox or lock, whose state takes the branch that the condition names. -/
theorem mailboxesAndLocksRun : Obligations.MailboxesAndLocksRun := by
  refine ⟨?mbxMsg, ?mbxMsg2, ?send, ?withdraw, ?withdraw2, ?withdraw3, ?release, ?accept, ?mbxAck, ?overflowNotice,
    ?lockAcquire, ?lockRelease, ?force⟩
  case mbxMsg =>
    intro m k value master s h
    simp only [Ready.mbxMsg, Bool.and_eq_true, decide_eq_true_eq, beq_iff_eq, bne_iff_ne] at h
    obtain ⟨⟨⟨⟨⟨hup, hm⟩, hk⟩, hsender⟩, hmaster⟩, hempty⟩ := h
    exact done_of_eq ((if_pos hup).trans ((if_pos ⟨hm, hk⟩).trans (if_pos ⟨hsender, hmaster, hempty⟩)))
  case mbxMsg2 =>
    intro m k value master s h
    simp only [Ready.mbxMsg2, Bool.and_eq_true, decide_eq_true_eq, bne_iff_ne] at h
    obtain ⟨⟨⟨hup, hm⟩, hk⟩, hother⟩ := h
    exact done_of_eq ((if_pos hup).trans ((if_pos ⟨hm, hk⟩).trans (if_neg fun hmine => hother hmine.1)))
  case send =>
    intro m master s h
    simp only [Ready.send, Bool.and_eq_true, decide_eq_true_eq, beq_iff_eq, bne_iff_ne] at h
    obtain ⟨⟨⟨⟨hup, hm⟩, hsender⟩, hmaster⟩, hempty⟩ := h
    exact mailbox_reached hup hm ((if_neg (by simp [hsender.symm, hmaster])).trans (if_neg (not_not_intro hempty)))
  case withdraw =>
    intro m master accepting s h
    simp only [Ready.withdraw, Bool.and_eq_true, decide_eq_true_eq, beq_iff_eq, bne_iff_ne, Bool.not_eq_true'] at h
    obtain ⟨⟨⟨⟨⟨hup, hm⟩, hsender⟩, hmaster⟩, hposted⟩, hfree⟩ := h
    refine mailbox_reached hup hm ((if_neg (by simp [hsender.symm, hmaster])).trans ?_)
    rw [hposted, hfree]
    rfl
  case withdraw2 =>
    intro m master accepting s h
    simp only [Ready.withdraw2, Bool.and_eq_true, decide_eq_true_eq, beq_iff_eq, bne_iff_ne] at h
    obtain ⟨⟨⟨⟨hup, hm⟩, hsender⟩, hmaster⟩, hwaiting⟩ := h
    refine mailbox_reached hup hm ((if_neg (by simp [hsender.symm, hmaster])).trans ?_)
    rw [hwaiting]
  case withdraw3 =>
    intro m master accepting s h
    simp only [Ready.withdraw3, Bool.and_eq_true, decide_eq_true_eq, beq_iff_eq, bne_iff_ne, Bool.or_eq_true] at h
    obtain ⟨⟨⟨⟨hup, hm⟩, hsender⟩, hmaster⟩, hstate⟩ := h
    refine mailbox_reached hup hm ((if_neg (by simp [hsender.symm, hmaster])).trans ?_)
    rcases hstate with hstate | hstate <;> rw [hstate]
  case release =>
    intro m master s h
    simp only [Ready.release, Bool.and_eq_true, decide_eq_true_eq, beq_iff_eq, bne_iff_ne, Bool.or_eq_true] at h
    obtain ⟨⟨⟨⟨hup, hm⟩, hholder⟩, hmaster⟩, hacked⟩ := h
    refine mailbox_reached hup hm ((if_neg ?_).trans (if_neg (not_not_intro hacked)))
    rintro (⟨hnotSender, hnotNotice⟩ | hthree)
    · exact hholder.elim hnotSender hnotNotice
    · exact hmaster hthree
  case accept =>
    intro m master s h
    simp only [Ready.accept, Bool.and_eq_true, decide_eq_true_eq, beq_iff_eq, bne_iff_ne] at h
    obtain ⟨⟨⟨⟨hup, hm⟩, hreceiver⟩, hmaster⟩, hposted⟩ := h
    exact mailbox_reached hup hm ((if_neg (by simp [hreceiver.symm, hmaster])).trans (if_neg (not_not_intro hposted)))
  case mbxAck =>
    intro m code master s h
    simp only [Ready.mbxAck, Bool.and_eq_true, decide_eq_true_eq, beq_iff_eq, bne_iff_ne, Bool.or_eq_true] at h
    obtain ⟨⟨⟨⟨hup, hm⟩, hreceiver⟩, hmaster⟩, hstate⟩ := h
    refine mailbox_reached hup hm ((if_neg (by simp [hreceiver.symm, hmaster])).trans ((if_neg ?_).trans ?_))
    · exact fun hneither => hstate.elim hneither.1 hneither.2
    · rw [Nat.mod_eq_of_lt code.isLt]
  case overflowNotice =>
    exact fun _ h => done_of_eq (if_pos h)
  case lockAcquire =>
    intro n masters s h
    exact done_of_eq (if_neg (Nat.not_le.mpr (of_decide_eq_true h)))
  case lockRelease =>
    exact fun _ _ _ h => done_of_eq (if_pos h)
  case force =>
    rintro n master s h o rfl ho
    obtain ⟨hbar, -⟩ := Bool.and_eq_true_iff.mp h
    refine done_of_eq ((if_pos hbar).trans ?_)
    simp [State.lockWrite, ho]

end Sys2Proof.Machine
end

section
/-!
PROOFS. Registers, the boot, fetching, replies and machine checks (chapters 3, 4 and 18): each row has its effect.
-/
namespace Sys2Proof.Machine

/-- Settles O41: while BAR0 answers, a register's write or event is past its guards and takes the branch that its condition names. -/
theorem registerEventsRun : Obligations.RegisterEventsRun := by
  refine ⟨?restart, ?vintnerRestarted, ?traceEnable, ?traceEnable2, ?vntTraceLost, ?hifReset, ?hifReset2, ?celBookSelect,
    ?busMasterEnable, ?registerWrite, ?bar0BadAccess⟩
  case restart =>
    intro s h
    obtain ⟨hhalted, hidle⟩ := Bool.and_eq_true_iff.mp h
    obtain ⟨hbar, hhalted⟩ := Bool.and_eq_true_iff.mp hhalted
    exact done_of_eq ((State.overBar_of_barUp hbar _).trans (if_pos (Bool.and_eq_true_iff.mpr ⟨hhalted, hidle⟩)))
  case vintnerRestarted =>
    exact fun s h => done_of_eq (if_neg (by simp [show s.vnt.restarting = true from h]))
  case traceEnable =>
    intro value s h
    simp only [Ready.traceEnable, Bool.and_eq_true, Bool.not_eq_true'] at h
    obtain ⟨⟨⟨hbar, hwas⟩, hon⟩, hok⟩ := h
    exact done_of_eq ((State.overBar_of_barUp hbar _).trans
      ((if_neg (by simp [hwas])).trans ((if_neg (by simp [hon])).trans (if_pos hok))))
  case traceEnable2 =>
    intro value s h
    simp only [Ready.traceEnable2, Bool.and_eq_true, Bool.not_eq_true'] at h
    obtain ⟨⟨⟨hbar, hwas⟩, hon⟩, hbad⟩ := h
    exact done_of_eq ((State.overBar_of_barUp hbar _).trans
      ((if_neg (by simp [hwas])).trans ((if_neg (by simp [hon])).trans (if_neg (by simp [hbad])))))
  case vntTraceLost =>
    exact fun _ hbar => done_of_eq (State.overBar_of_barUp hbar _)
  case hifReset =>
    intro value s h
    simp only [Ready.hifReset, Bool.and_eq_true, beq_iff_eq] at h
    obtain ⟨⟨hbar, hkey⟩, hgo⟩ := h
    exact done_of_eq ((State.overBar_of_barUp hbar _).trans (if_pos (by simp [hkey, hgo])))
  case hifReset2 =>
    intro value s h
    obtain ⟨hbar, hwrong⟩ := Bool.and_eq_true_iff.mp h
    exact done_of_eq ((State.overBar_of_barUp hbar _).trans (if_neg (ne_true_of_not hwrong)))
  case celBookSelect =>
    exact fun _ _ hbar => done_of_eq (State.overBar_of_barUp hbar _)
  case busMasterEnable =>
    intro on s hbar
    refine done_of_eq ((if_neg (by simp [show s.barUp = true from hbar])).trans ?_)
    cases on with
    | false => rfl
    | true => rfl
  case registerWrite =>
    rintro offset value s hbar rfl
    exact done_of_eq (State.overBar_of_barUp hbar _)
  case bar0BadAccess =>
    intro offset bytes write s h
    obtain ⟨h, hlisted⟩ := Bool.and_eq_true_iff.mp h
    obtain ⟨hbar, hbad⟩ := Bool.and_eq_true_iff.mp h
    refine done_of_eq ((State.overBar_of_barUp hbar _).trans ((if_neg (by simp [hbad])).trans ?_))
    rw [if_pos hlisted]

/-- The parity errors of a word as fetched: one more where a fault was planted. -/
def State.perrAt (s : State) (addr : Nat) (word : BitVec 136) : Nat :=
  if s.vnt.planted = some (addr % 16384) then orBit (perrOf word) 0 else perrOf word

/-- A parity error in a microengine that runs, or in the loader as it restarts, halts it; only a command's context has an operand. -/
theorem machineCheck_of_error {addr ctx tag opcode : Nat} {word : BitVec 136} {s : State} (hctx : ctx < 8 ∨ ctx = 0xFF)
    (hperr : s.perrAt addr word ≠ 0) (hrun : (if ctx = 0xFF then s.vnt.restarting else s.vnt.running) = true) :
    machineCheck addr word ctx tag opcode s =
      if ctx = 0xFF ∨ ctx = 7 then s.machineHalt (addr % 16384) (s.perrAt addr word) ctx 0 0
      else s.machineHalt (addr % 16384) (s.perrAt addr word) ctx (tag % 4096) (opcode % 65536) := by
  have hcontext : (if ctx = 0xFF then 0xFF else ctx % 8) = ctx := by split <;> omega
  unfold machineCheck
  rw [hcontext]
  refine if_neg ?_
  change ¬ (decide (s.perrAt addr word = 0) || !(if ctx = 0xFF then s.vnt.restarting else s.vnt.running)) = true
  simp only [hperr, hrun, decide_false, Bool.not_true, Bool.or_false, Bool.false_eq_true, not_false_eq_true]

/-- Settles O42: a command at a ring's head, a reply that fits and a failure each pass their guards; a machine check is recorded under its context. -/
theorem hostPathEventsRun : Obligations.HostPathEventsRun := by
  refine ⟨?commandFetch, ?replyWrite, ?holdoffExpire, ?dmaError, ?dmaError2, ?dmaError3, ?machineCheck, ?machineCheck2⟩
  case commandFetch =>
    intro heads s _ h hh
    refine done_of_eq ?_
    rw [commandFetch]
    dsimp only
    rw [hh]
  case replyWrite =>
    intro s h r f rest hheld
    have hfits : s.replyFits r = true := by
      rw [Ready.replyWrite, hheld] at h
      exact h
    refine done_of_eq ?_
    rw [State.writeHeld, hheld]
    exact if_pos hfits
  case holdoffExpire =>
    exact fun v s h => done_of_eq (if_neg (by simp [show nbit s.hif.holdRun v = true from h]))
  case dmaError =>
    intro ring s h
    simp only [Ready.dmaError, Bool.and_eq_true, decide_eq_true_eq] at h
    obtain ⟨hring, hactive⟩ := h
    have hpath : (if ring < 4 ∨ (16 ≤ ring ∧ ring < 32) then 1 else 2) = if ring < 4 then 1 else 2 :=
      ite_congr (propext (by omega)) (fun _ => rfl) fun _ => rfl
    refine done_of_eq ((if_pos hring).trans ((if_pos hactive).trans ?_))
    exact congrArg (State.fault _ 4 0x20 · ring 0) hpath
  case dmaError2 =>
    intro ring s h
    simp only [Ready.dmaError2, Bool.and_eq_true, decide_eq_true_eq, bne_iff_ne] at h
    obtain ⟨⟨hlow, hhigh⟩, hsize⟩ := h
    refine done_of_eq ((if_neg (by omega)).trans ((if_pos ⟨hlow, hhigh⟩).trans ((if_neg hsize).trans ?_)))
    exact congrArg (State.fault _ 4 0x20 · ring 0) (if_pos (.inr ⟨hlow, hhigh⟩))
  case dmaError3 =>
    intro ring s h
    simp only [Ready.dmaError3, Bool.and_eq_true, decide_eq_true_eq, bne_iff_ne] at h
    obtain ⟨⟨hlow, hhigh⟩, hsize⟩ := h
    refine done_of_eq ((if_neg (by omega)).trans ((if_neg (by omega)).trans ((if_pos ⟨hlow, hhigh⟩).trans ((if_neg hsize).trans ?_))))
    exact congrArg (State.fault _ 4 0x20 · ring 0) (if_neg (by omega))
  case machineCheck =>
    intro addr word ctx tag opcode s h
    simp only [Ready.machineCheck, Bool.and_eq_true, decide_eq_true_eq, bne_iff_ne] at h
    obtain ⟨⟨hrun, hctx⟩, hperr⟩ := h
    have hengine : ctx ≠ 0xFF := by omega
    exact done_of_eq ((machineCheck_of_error (by omega) hperr ((if_neg hengine).trans hrun)).trans (if_neg (by omega)))
  case machineCheck2 =>
    intro addr word ctx tag opcode s h
    simp only [Ready.machineCheck2, Bool.and_eq_true, Bool.or_eq_true, beq_iff_eq, bne_iff_ne] at h
    obtain ⟨⟨hrun, hctx⟩, hperr⟩ := h
    exact done_of_eq ((machineCheck_of_error (by omega) hperr hrun).trans (if_pos hctx))

end Sys2Proof.Machine
end

section
/-!
PROOFS. Supplies, resets, the boot, pulses and the temperature (chapters 1, 2, 15, 19, 24 and 25): each row has its effect.
-/
namespace Sys2Proof.Machine

/-- What a pin's change is entered in the book as, since some mode is on. -/
theorem State.bookLog_of_on {s : State} (h : s.mode.mode ≠ .off) (k : Nat) (b : Bytes) :
    (if s.mode.mode == .off then s else s.bookLog k b) = s.bookLog k b :=
  if_neg (by simpa using h)

/-- Settles O43: a supply, reset or pin that changes is past its guard, and the mode and the twin's lines choose the branch. -/
theorem powerAndResetEventsRun : Obligations.PowerAndResetEventsRun := by
  refine ⟨?auxVinUp, ?auxVinLost, ?resetNAssert, ?resetNDeassert, ?perstNAssert, ?perstNDeassert, ?pgInConfirm, ?railTimeout,
    ?pgInLost, ?pgInLost2, ?bootComplete, ?refclkLost, ?refclkReturn, ?safeReqN, ?takeN, ?ownInAssert, ?ownInAssert2,
    ?ownInAssert3, ?ownInDeassert, ?ownInDeassert2, ?claimWindowEnd⟩
  case auxVinUp =>
    exact fun autoBoot addrSel s h => done_of_eq (if_neg (by simp [beq_iff_eq.mp h]))
  case auxVinLost =>
    exact fun _ => rfl
  case resetNAssert =>
    exact fun _ => rfl
  case resetNDeassert =>
    intro twinId testmode s h
    obtain ⟨haux, hheld⟩ := Bool.and_eq_true_iff.mp h
    exact done_of_eq (if_neg (by simpa [haux] using hheld))
  case perstNAssert =>
    exact fun _ => rfl
  case perstNDeassert =>
    exact fun _ => rfl
  case pgInConfirm =>
    intro s h n hn
    obtain ⟨haux, -⟩ := Bool.and_eq_true_iff.mp h
    refine done_of_eq ((if_neg (by simp [haux])).trans ?_)
    rw [State.railNext, show (s.pinsM fun p => { p with pgIn := true }).pwr.railStep = some n from hn]
    rfl
  case railTimeout =>
    intro s h n hn
    obtain ⟨-, hpg⟩ := Bool.and_eq_true_iff.mp h
    refine done_of_eq ?_
    rw [railTimeout, hn]
    exact if_neg (by simpa using hpg)
  case pgInLost =>
    exact fun _ h => done_of_eq (if_pos h)
  case pgInLost2 =>
    intro s h
    obtain ⟨hdown, hwait⟩ := Bool.and_eq_true_iff.mp h
    exact done_of_eq ((if_neg (ne_true_of_not hdown)).trans (if_pos hwait))
  case bootComplete =>
    intro fail dimms s h
    simp only [Ready.bootComplete, Bool.and_eq_true, beq_iff_eq, Bool.not_eq_true'] at h
    obtain ⟨hboot, hrun⟩ := h
    refine done_of_eq ((if_neg (by simp [hboot, hrun])).trans ?_)
    cases fail with
    | none => rfl
    | some e => rfl
  case refclkLost =>
    intro s h
    simp only [Ready.refclkLost, Bool.and_eq_true, bne_iff_ne] at h
    obtain ⟨hclk, hon⟩ := h
    refine done_of_eq ((if_neg (by simp [hclk])).trans ?_)
    dsimp only
    rw [State.bookLog_of_on (s := s.pinsM _) hon]
  case refclkReturn =>
    intro s h
    simp only [Ready.refclkReturn, Bool.and_eq_true, bne_iff_ne, Bool.not_eq_true'] at h
    obtain ⟨hclk, hon⟩ := h
    refine done_of_eq ((if_neg (by simp [hclk])).trans ?_)
    dsimp only
    rw [State.bookLog_of_on (s := s.pinsM _) hon]
  case safeReqN =>
    exact fun asserted s => done_of_eq (ite_congr rfl (fun _ => rfl) fun _ => ite_congr (propext beq_iff_eq) (fun _ => rfl) fun _ => rfl)
  case takeN =>
    intro asserted s
    refine done_of_eq ?_
    cases asserted with
    | false => simp only [takeN, Bool.not_false, Bool.false_eq_true, if_false]
    | true => simp only [takeN, Bool.not_true, if_true]
  case ownInAssert =>
    intro cutting s h
    simp only [Ready.ownInAssert, Bool.and_eq_true, Bool.not_eq_true'] at h
    obtain ⟨⟨hlow, hclaim⟩, hsplit⟩ := h
    exact done_of_eq ((if_neg (by simp [hlow])).trans ((if_neg (by simp [hclaim])).trans (if_neg (by simp [hsplit]))))
  case ownInAssert2 =>
    intro cutting s h
    simp only [Ready.ownInAssert2, Bool.and_eq_true, Bool.not_eq_true'] at h
    obtain ⟨⟨⟨hlow, hclaim⟩, howner⟩, hout⟩ := h
    exact done_of_eq ((if_neg (by simp [hlow])).trans ((if_neg (by simp [hclaim])).trans (if_pos (by simp [howner, hout]))))
  case ownInAssert3 =>
    intro cutting s h
    simp only [Ready.ownInAssert3, Bool.and_eq_true, Bool.not_eq_true'] at h
    obtain ⟨hlow, hclaim⟩ := h
    exact done_of_eq ((if_neg (by simp [hlow])).trans (if_pos hclaim))
  case ownInDeassert =>
    intro s h
    simp only [Ready.ownInDeassert, Bool.and_eq_true, bne_iff_ne] at h
    obtain ⟨hhigh, hmode⟩ := h
    exact done_of_eq ((if_neg (by simp [hhigh])).trans (if_neg (by simpa using hmode)))
  case ownInDeassert2 =>
    intro s h
    simp only [Ready.ownInDeassert2, Bool.and_eq_true, beq_iff_eq, Bool.or_eq_true] at h
    obtain ⟨⟨hhigh, hmode⟩, hcause⟩ := h
    refine done_of_eq ((if_neg (by simp [hhigh])).trans ((if_pos (by simpa using hmode)).trans ?_))
    by_cases htake : (!s.pins.takeN) = true
    · exact (if_pos htake).trans (congrArg (State.takeOver _) (if_pos htake).symm)
    refine (if_neg htake).trans (.trans ?_ (congrArg (State.takeOver _) (if_neg htake).symm))
    by_cases hasked : (s.run.handoverIn || s.run.wantOwn) = true
    · exact (if_pos hasked).trans (congrArg (State.takeOver _) (if_pos hasked).symm)
    refine (if_neg hasked).trans (.trans (if_pos ?_) (congrArg (State.takeOver _) (if_neg hasked).symm))
    simpa [htake, mt Bool.or_eq_true_iff.mpr hasked] using hcause
  case claimWindowEnd =>
    exact fun _ h => done_of_eq (if_pos h)

/-- Settles O44: an edge far enough from the last, a pulse that is due and a reading in core power are each past their one guard. -/
theorem edgeAndThermalEventsRun : Obligations.EdgeAndThermalEventsRun := by
  refine ⟨?ppsInEdge, ?pulseEdge, ?thermalRead⟩
  case ppsInEdge =>
    intro i s h
    obtain ⟨-, hgap⟩ := Bool.and_eq_true_iff.mp h
    refine done_of_eq (if_neg ?_)
    cases hlast : (nth s.time.caps i {}).last with
    | none => simp
    | some x =>
      rw [hlast] at hgap
      simpa using hgap
  case pulseEdge =>
    intro o s h
    simp only [Ready.pulseEdge, Bool.and_eq_true, decide_eq_true_eq, bne_iff_ne, beq_iff_eq] at h
    obtain ⟨⟨⟨ho, hmode⟩, hidle⟩, hdue⟩ := h
    exact done_of_eq (if_pos ⟨hmode, hidle, hdue, ho⟩)
  case thermalRead =>
    exact fun temp s h => done_of_eq (if_neg (by simp [show s.coreUp = true from h]))

end Sys2Proof.Machine
end

section
/-!
PROOFS. Ports, ingress, slices, fragments, reordering and pools (chapters 5, 6, 10 to 13 and 16): each row has its effect.
-/
namespace Sys2Proof.Machine

/-- Settles O45: a port that exists and is up is past the guards; what a frame is checked for is taken apart at the end. -/
theorem portEventsRun : Obligations.PortEventsRun := by
  refine ⟨?linkUp, ?linkDown, ?linkDown2, ?frameReceive, ?pauseRefresh, ?pauseReceive, ?pfcReceive, ?pauseExpire,
    ?pauseStormTrip, ?pauseStormClear⟩
  case linkUp =>
    intro p s h r hr
    simp only [Ready.linkUp, Bool.and_eq_true, Bool.not_eq_true'] at h
    obtain ⟨⟨⟨⟨-, hen⟩, hdown⟩, hmode⟩, hisolated⟩ := h
    refine done_of_eq ?_
    rw [linkUp, hr]
    exact if_neg (by simp only [hen, hdown, hmode, hisolated]; decide)
  case linkDown =>
    rintro p cause lane cutting receiving s h
    obtain ⟨hup, hlane⟩ := Bool.and_eq_true_iff.mp h
    refine done_of_eq ((if_neg (by simp [hup])).trans ?_)
    cases lane with
    | none => rfl
    | some l => contradiction
  case linkDown2 =>
    rintro p cause lane cutting receiving s h l rfl hl rfl
    exact done_of_eq ((if_neg (by simp [show (s.mport p).up = true from h])).trans (if_pos ⟨rfl, hl⟩))
  case frameReceive =>
    intro p frame fec s h
    obtain ⟨hport, hup⟩ := Bool.and_eq_true_iff.mp h
    refine done_of_eq ((if_neg (by simp [hport, hup])).trans ?_)
    by_cases hloop : (s.mport p).loopback = 2
    · exact (if_pos hloop).trans (if_pos hloop).symm
    · refine (if_neg hloop).trans (.trans ?_ (if_neg hloop).symm)
      dsimp only
      generalize State.macCheck _ p frame = checked
      obtain ⟨ok, u⟩ := checked
      cases ok with
      | false => rfl
      | true => rfl
  case pauseRefresh =>
    intro p s h
    simp only [Ready.pauseRefresh, Bool.or_eq_true, Bool.and_eq_true, beq_iff_eq, bne_iff_ne] at h
    refine done_of_eq ?_
    rcases h with ⟨hmode, hoff⟩ | ⟨hmode, hclasses⟩
    · exact (if_pos ⟨hmode, hoff⟩).trans (if_pos hmode).symm
    · have hnotPause : (s.lb p).fcMode ≠ 1 := by omega
      exact (if_neg fun hpause => hnotPause hpause.1).trans ((if_pos ⟨hmode, hclasses⟩).trans (if_neg hnotPause).symm)
  case pauseReceive =>
    intro p quanta s h
    simp only [Ready.pauseReceive, Bool.and_eq_true, beq_iff_eq, Bool.not_eq_true'] at h
    obtain ⟨⟨⟨hport, hup⟩, hmode⟩, htripped⟩ := h
    exact done_of_eq ((if_neg (by simp [hport, hup])).trans (if_neg (by simp [hmode, htripped])))
  case pfcReceive =>
    intro p mask times s h
    simp only [Ready.pfcReceive, Bool.and_eq_true, beq_iff_eq, Bool.not_eq_true'] at h
    obtain ⟨⟨⟨hport, hup⟩, hmode⟩, htripped⟩ := h
    exact done_of_eq ((if_neg (by simp [hport, hup])).trans (if_neg (by simp [hmode, htripped])))
  case pauseExpire =>
    exact fun _ _ _ h => done_of_eq (if_pos h)
  case pauseStormTrip =>
    exact fun _ _ h => done_of_eq (if_pos h)
  case pauseStormClear =>
    exact fun _ _ h => done_of_eq (if_pos h)

/-- A copy that does not wait has been written, or is gone. -/
theorem wrote_cases {w : Wrote × State} (h : (w.1 != .waits) = true) : (∃ u, w = (.gone, u)) ∨ ∃ c n p u, w = (.at_ c n p, u) := by
  obtain ⟨o, u⟩ := w
  cases o with
  | waits => contradiction
  | gone => exact .inl ⟨u, rfl⟩
  | at_ c n p => exact .inr ⟨c, n, p, u, rfl⟩

/-- Settles O46: the packet, the entry or the residue at the front is past the guards of its stage; a copy that does not wait is written. -/
theorem forwardingEventsRun : Obligations.ForwardingEventsRun := by
  refine ⟨?ingressCipher, ?saFetchDone, ?saFetchRetry, ?distributionRound, ?slicePass, ?sliceTimeout, ?fragHoldTimeout,
    ?fragHoldTimeout2, ?fragEntryRemoval, ?fragEntryRemoval2, ?reorderRelease, ?residueWrite, ?residueAged, ?poolRebuild⟩
  case ingressCipher =>
    intro g s h f rest hf
    simp only [Ready.ingressCipher, Bool.and_eq_true, decide_eq_true_eq, beq_iff_eq, Option.isNone_iff_eq_none] at h
    obtain ⟨⟨⟨hg, hrun⟩, hfree⟩, -⟩ := h
    refine done_of_eq ((if_neg ?_).trans ?_)
    · simp [hrun, hfree, hg]
    · rewrite [hf]
      rfl
  case saFetchDone =>
    intro i s h
    refine done_of_eq ?_
    unfold Ready.saFetchDone at h
    rw [saFetchDone]
    cases hr : s.sa i with
    | none => simp [hr] at h
    | some r =>
      rw [hr] at h
      exact if_neg (by simp [show r.fetching = true from h])
  case saFetchRetry =>
    exact fun _ => rfl
  case distributionRound =>
    intro held s h
    simp only [Ready.distributionRound, Bool.and_eq_true, Bool.not_eq_true'] at h
    obtain ⟨⟨hmode, hheld⟩, hawake⟩ := h
    refine done_of_eq ((if_neg ?_).trans ((if_neg (by simp [hheld])).trans (if_neg (by simp [hawake]))))
    intro hquiet
    simp only [State.ingM_mode, Bool.and_eq_true, Bool.not_eq_true', bne_iff_ne] at hquiet
    obtain ⟨⟨⟨hforwards, hdrain⟩, hdiagnostic⟩, hfactory⟩ := hquiet
    simp [hforwards, hdrain, hdiagnostic, hfactory] at hmode
  case slicePass =>
    intro k s h
    obtain ⟨hheld, hplanted⟩ := Bool.and_eq_true_iff.mp h
    exact done_of_eq ((if_neg (by simpa using hheld)).trans (if_pos (beq_iff_eq.mp hplanted)))
  case sliceTimeout =>
    intro k s h p b hp
    refine done_of_eq ?_
    rewrite [sliceTimeout, hp]
    rfl
  case fragHoldTimeout =>
    intro s h e r he
    obtain ⟨hlate, hdrop⟩ := Bool.and_eq_true_iff.mp h
    rw [he] at hlate
    refine done_of_eq ?_
    rw [fragHoldTimeout, he]
    exact (if_neg (Nat.not_lt.mpr (of_decide_eq_true hlate))).trans (if_neg (ne_true_of_not hdrop))
  case fragHoldTimeout2 =>
    intro s h e r he
    obtain ⟨hhead, hhost⟩ := Bool.and_eq_true_iff.mp h
    rw [he] at hhead
    simp only [Bool.and_eq_true, decide_eq_true_eq] at hhead
    obtain ⟨⟨hlate, hempty⟩, hwrote⟩ := hhead
    refine done_of_eq ?_
    rw [fragHoldTimeout, he]
    refine (if_neg (Nat.not_lt.mpr hlate)).trans ((if_pos hhost).trans ((if_neg (by simp [hempty])).trans ?_))
    rcases wrote_cases hwrote with ⟨u, hu⟩ | ⟨c, n, p, u, hu⟩ <;> rw [hu]
  case fragEntryRemoval =>
    intro i s h
    refine done_of_eq ?_
    unfold Ready.fragEntryRemoval at h
    rw [fragEntryRemoval]
    cases he : Tbl.look s.frag.table i with
    | none => simp [he] at h
    | some e =>
      rw [he] at h
      exact if_pos (of_decide_eq_true h)
  case fragEntryRemoval2 =>
    intro i s h
    refine done_of_eq ?_
    unfold Ready.fragEntryRemoval2 at h
    rw [fragEntryRemoval]
    cases he : Tbl.look s.frag.table i with
    | none => simp [he] at h
    | some e =>
      rw [he] at h
      simp only [Bool.and_eq_true, decide_eq_true_eq] at h
      obtain ⟨hused, hold⟩ := h
      exact (if_neg (Nat.not_le.mpr hused)).trans (if_pos hold)
  case reorderRelease =>
    exact fun _ _ => rfl
  case residueWrite =>
    intro src col s h r rest hr
    unfold Ready.residueWrite at h
    rw [hr] at h
    refine done_of_eq ?_
    rw [residueWrite, hr]
    dsimp only at h ⊢
    rcases wrote_cases h with ⟨u, hu⟩ | ⟨c, n, p, u, hu⟩ <;> rw [hu]
  case residueAged =>
    intro src col s h r rest hr
    obtain ⟨hold, hbusy⟩ := Bool.and_eq_true_iff.mp h
    rw [hr] at hold
    refine done_of_eq ?_
    rw [residueAged, hr]
    exact (if_neg (Nat.not_lt.mpr (of_decide_eq_true hold))).trans (if_neg (ne_true_of_not hbusy))
  case poolRebuild =>
    exact fun _ _ _ h => done_of_eq (if_pos h)

end Sys2Proof.Machine
end

section
/-!
PROOFS. Scheduling, egress and host traffic (chapters 11, 12, 14 and 16): each row has its effect.
-/
namespace Sys2Proof.Machine

/-- Settles O47: what is at the head of each queue is past the guards of its stage, and the stage has its effect on it. -/
theorem egressEventsRun : Obligations.EgressEventsRun := by
  refine ⟨?selection, ?shaperRefill, ?shaperRefill2, ?shaperRefill3, ?adaptiveQuantum, ?egressCipher, ?frameTransmit,
    ?flushMarkersPassed, ?hostTxFetch, ?hostTxFetch2, ?hostTxFetch3, ?hostRxDelivery, ?hostRingStalled⟩
  case selection =>
    intro p s h x top hpick
    simp only [Ready.selection, Bool.and_eq_true, beq_iff_eq, bne_iff_ne, decide_eq_true_eq] at h
    obtain ⟨⟨⟨⟨⟨⟨⟨hrun, hp⟩, hle⟩, hopen⟩, hturn⟩, hawake⟩, hnode⟩, -⟩ := h
    refine done_of_eq ((if_neg ?_).trans ((if_neg (by simp [hawake])).trans ((if_neg (by simp [hnode])).trans ?_)))
    · simp [hrun, hp, hopen, hturn, hle]
    · dsimp only
      rw [hpick]
  case shaperRefill =>
    rintro kind n s h rfl
    obtain ⟨hrun, hqueue⟩ := Bool.and_eq_true_iff.mp h
    exact done_of_eq ((if_neg (by simp [beq_iff_eq.mp hrun])).trans ((if_pos rfl).trans (if_pos hqueue)))
  case shaperRefill2 =>
    rintro kind n s h rfl
    obtain ⟨hrun, hgroup⟩ := Bool.and_eq_true_iff.mp h
    exact done_of_eq ((if_neg (by simp [beq_iff_eq.mp hrun])).trans
      ((if_neg (by decide)).trans ((if_pos rfl).trans (if_pos hgroup))))
  case shaperRefill3 =>
    rintro kind n s h rfl
    obtain ⟨hrun, hnode⟩ := Bool.and_eq_true_iff.mp h
    exact done_of_eq ((if_neg (by simp [beq_iff_eq.mp hrun])).trans
      ((if_neg (by decide)).trans ((if_neg (by decide)).trans (if_pos hnode))))
  case adaptiveQuantum =>
    intro g s h
    simp only [Ready.adaptiveQuantum, Bool.and_eq_true, Bool.not_eq_true'] at h
    obtain ⟨⟨hen, hadaptive⟩, hbacklog⟩ := h
    exact done_of_eq (if_neg (by simp [hen, hadaptive, hbacklog]))
  case egressCipher =>
    intro g s h x rest hx
    obtain ⟨hrun, hhere⟩ := Bool.and_eq_true_iff.mp h
    rw [hx] at hhere
    refine done_of_eq ((if_neg (by simp [beq_iff_eq.mp hrun])).trans ?_)
    rw [hx]
    refine (if_neg (ne_true_of_not hhere)).trans ?_
    by_cases hclear : x.copy.intent = 0
    · exact (if_neg (not_not_intro hclear)).trans (if_pos hclear).symm
    · exact (if_pos hclear).trans (if_neg hclear).symm
  case frameTransmit =>
    intro p s h t r ht
    simp only [Ready.frameTransmit, Bool.and_eq_true, beq_iff_eq] at h
    obtain ⟨⟨⟨⟨hup, hopen⟩, hrun⟩, hplanted⟩, hdue⟩ := h
    rw [ht] at hdue
    refine done_of_eq ((if_neg (by simp [hup, hopen, hrun])).trans ?_)
    rw [ht]
    exact (if_neg (Nat.not_lt.mpr (of_decide_eq_true hdue))).trans (if_neg (not_not_intro hplanted))
  case flushMarkersPassed =>
    intro p s h
    simp only [Ready.flushMarkersPassed, Bool.and_eq_true, beq_iff_eq, bne_iff_ne, decide_eq_true_eq] at h
    obtain ⟨⟨hp, hport⟩, hawait⟩ := h
    exact done_of_eq (if_pos ⟨hp, hport, hawait⟩)
  case hostTxFetch =>
    intro t descs s h ch hch
    simp only [Ready.hostTxFetch, Bool.and_eq_true, Option.isNone_iff_eq_none] at h
    obtain ⟨⟨⟨hturn, hfetch⟩, hpieces⟩, -⟩ := h
    refine done_of_eq ((if_neg (by simp [beq_iff_eq.mp hturn, hfetch])).trans ?_)
    rw [hpieces]
    dsimp only
    rw [hch]
  case hostTxFetch2 =>
    intro t descs s h n fs hpieces
    simp only [Ready.hostTxFetch2, Bool.and_eq_true] at h
    obtain ⟨⟨hturn, hfetch⟩, hroom⟩ := h
    rw [hpieces] at hroom
    refine done_of_eq ((if_neg (by simp [beq_iff_eq.mp hturn, hfetch])).trans ?_)
    rw [hpieces]
    exact if_pos hroom
  case hostTxFetch3 =>
    intro t descs s h
    simp only [Ready.hostTxFetch3, Bool.and_eq_true, Option.isNone_iff_eq_none, beq_iff_eq] at h
    obtain ⟨⟨⟨⟨⟨hturn, hfetch⟩, hpieces⟩, hfull⟩, hlen⟩, hchain⟩ := h
    have htake : descs.take (s.txRing t).size = descs := List.take_of_length_le (by omega)
    refine done_of_eq ((if_neg (by simp [hturn, hfetch])).trans ?_)
    rw [hpieces]
    dsimp only
    rw [hfull, htake, hchain]
    exact if_pos ⟨rfl, hlen⟩
  case hostRxDelivery =>
    intro s h x rest hsel
    obtain ⟨hbme, -⟩ := Bool.and_eq_true_iff.mp h
    refine done_of_eq ((if_neg (by simp [hbme])).trans ?_)
    rw [hsel]
    rfl
  case hostRingStalled =>
    intro r s h q e hq he
    unfold Ready.hostRingStalled at h
    rw [hq] at h
    dsimp only at h
    rw [he] at h
    refine done_of_eq ?_
    rw [hostRingStalled]
    dsimp only
    rw [hq]
    dsimp only
    rw [he]
    exact if_pos (beq_iff_eq.mp h)

end Sys2Proof.Machine
end

section
/-!
PROOFS. Epochs, sweeps, scrubs, self-checks and the cellar book (chapters 8, 9 and 22): each row has its effect.
-/
namespace Sys2Proof.Machine

/-- A committed epoch that nothing in flight holds is retired (R242). -/
theorem State.retireSlot_of_idle {s : State} {i : Nat}
    (h : ((nth s.vin.slots i {}).live && i != s.vin.cur && (nth s.vin.slots i {}).pass == 0 && (nth s.vin.slots i {}).recirc == 0
      && (nth s.vin.slots i {}).hold == 0 && (nth s.vin.slots i {}).frag == 0) = true) :
    s.retireSlot i =
      (let t : State := s.slotM i fun y => { y with live := false }
       (t.vinM fun k => { k with retired := sat32 k.retired, sweepDue := k.sweepDue || t.oldest != s.oldest }).postEvent 0x0501
         (nth s.vin.slots i {}).epoch [wd i, wd (min ((s.time.record.t - (nth s.vin.slots i {}).superseded) / 65536000) 4294967295)]) :=
  if_pos h

/-- A parity error of the collector, its own or one reported, is a fault, and enters SAFE when the capture register is full. -/
theorem collectorParity_of_bad {err : Option Nat} {s : State} (hup : s.coreUp = true)
    (hbad : (s.flt.collectorFlip.isSome || err.isSome) = true) :
    collectorParity err s =
      (let t : State := s.fault 0 0xFF 7 ((s.flt.collectorFlip.orElse fun _ => err).getD 0) 0
       if (Tbl.lookD s.flt.src 0 {}).capture.isSome then
         t.fltM fun f => { f with due := f.due ++ [.safe 6 (Tbl.lookD f.src 0 {}).capture] }
       else t) := by
  unfold collectorParity
  cases hflip : s.flt.collectorFlip with
  | some a => exact if_neg (by simp [hup])
  | none =>
    cases err with
    | some a => exact if_neg (by simp [hup])
    | none => simp [hflip] at hbad

/-- Settles O48: the vintage, the row or the record that an event needs is there, and the event has its effect on it. -/
theorem vintageAndRepairEventsRun : Obligations.VintageAndRepairEventsRun := by
  refine ⟨?epochRetire, ?commitCycle, ?commitCycle2, ?commitCycle3, ?sweep, ?rebasingPass, ?tcamScrub, ?tcamRepair,
    ?collectorParity, ?collectorParity2, ?cipherKat, ?bookCommit, ?bookCommit2⟩
  case epochRetire =>
    intro slot s h
    refine done_of_eq ?_
    rewrite [epochRetire, State.retireSlot_of_idle h]
    rfl
  case commitCycle =>
    intro s h
    refine done_of_eq ?_
    unfold Ready.commitCycle at h
    rw [State.commitWake]
    cases hv : s.vin.vint with
    | none => simp [hv] at h
    | some v =>
      rw [hv] at h
      simp only [Bool.and_eq_true, beq_iff_eq, decide_eq_true_eq] at h
      obtain ⟨hstate, hdue⟩ := h
      dsimp only
      rw [hstate]
      exact if_pos hdue
  case commitCycle2 =>
    intro s h
    refine done_of_eq ?_
    unfold Ready.commitCycle2 at h
    rw [State.commitWake]
    cases hv : s.vin.vint with
    | none => simp [hv] at h
    | some v =>
      rw [hv] at h
      dsimp only
      rw [beq_iff_eq.mp h]
  case commitCycle3 =>
    intro s h
    refine done_of_eq ?_
    unfold Ready.commitCycle3 at h
    rw [State.commitWake]
    cases hv : s.vin.vint with
    | none => simp [hv] at h
    | some v =>
      rw [hv] at h
      simp only [Bool.and_eq_true, beq_iff_eq, decide_eq_true_eq] at h
      obtain ⟨⟨hstate, htimed⟩, hdue⟩ := h
      obtain ⟨t, ht⟩ := Option.isSome_iff_exists.mp htimed
      rw [ht] at hdue
      dsimp only
      rw [hstate, ht]
      exact if_pos hdue
  case sweep =>
    exact fun _ => rfl
  case rebasingPass =>
    exact fun _ => rfl
  case tcamScrub =>
    exact fun _ => rfl
  case tcamRepair =>
    intro b s h r rest hr
    refine done_of_eq ?_
    rw [State.tcamRepair, hr]
  case collectorParity =>
    intro err s h
    simp only [Ready.collectorParity, Bool.and_eq_true, Option.isNone_iff_eq_none] at h
    obtain ⟨⟨hup, hbad⟩, hempty⟩ := h
    exact done_of_eq ((collectorParity_of_bad hup hbad).trans (if_neg (by simp [hempty])))
  case collectorParity2 =>
    intro err s h
    simp only [Ready.collectorParity2, Bool.and_eq_true] at h
    obtain ⟨⟨hup, hbad⟩, hfull⟩ := h
    exact done_of_eq ((collectorParity_of_bad hup hbad).trans (if_pos hfull))
  case cipherKat =>
    rintro g bad s h x rfl
    exact done_of_eq (if_pos h)
  case bookCommit =>
    intro ok s h r rest hr
    simp only [Ready.bookCommit, Bool.and_eq_true, Bool.not_eq_true', bne_iff_ne] at h
    obtain ⟨⟨⟨-, hidle⟩, hon⟩, hok⟩ := h
    refine done_of_eq ?_
    rw [bookCommit, hr]
    exact (if_neg (by simp [hidle, hon])).trans (if_pos hok)
  case bookCommit2 =>
    intro ok s h r rest hr
    simp only [Ready.bookCommit2, Bool.and_eq_true, Bool.not_eq_true', bne_iff_ne] at h
    obtain ⟨⟨⟨-, hidle⟩, hon⟩, hbad⟩ := h
    refine done_of_eq ?_
    rw [bookCommit, hr]
    exact (if_neg (by simp [hidle, hon])).trans (if_neg (by simp [hbad]))

end Sys2Proof.Machine
end

section
/-!
PROOFS. The Trellis link, pairing and takeover (chapters 2 and 17): each row has its effect.
-/
namespace Sys2Proof.Machine

/-- With session keys the link carries messages. -/
theorem keys_isNone_false {s : State} (h : s.twin.keys.isSome = true) : ¬ s.twin.keys.isNone = true := by
  simpa [Option.isSome_iff_ne_none] using h

/-- Settles O49: the state of the pairing that each condition names is past the guards of the message or event. -/
theorem twinLinkEventsRun : Obligations.TwinLinkEventsRun := by
  refine ⟨?drainComplete, ?drainTimeout, ?trellisLinkUp, ?trellisLinkDown, ?trellisFrame, ?trellisFrame2, ?hello, ?proof,
    ?proof2, ?handshakeRetry, ?heartbeatSend, ?heartbeat, ?heartbeatMissed, ?leapComplete, ?ack, ?syncBegin, ?syncBegin2,
    ?syncBegin3, ?syncEnd, ?syncResult, ?handover, ?handover2, ?handover4, ?handover3, ?handoverTimeout, ?handoverDone,
    ?handoverDone2⟩
  case drainComplete =>
    exact fun _ h => done_of_eq (if_pos h)
  case drainTimeout =>
    exact fun _ h => done_of_eq (if_pos h)
  case trellisLinkUp =>
    intro s h
    simp only [Ready.trellisLinkUp, Bool.and_eq_true, Bool.not_eq_true', bne_iff_ne] at h
    obtain ⟨⟨⟨hen, hlink⟩, hmode⟩, hsafe⟩ := h
    exact done_of_eq ((if_neg (by simp [hen, hlink, hmode, hsafe])).trans (ite_congr (propext beq_iff_eq) (fun _ => rfl) fun _ => rfl))
  case trellisLinkDown =>
    exact fun _ h => done_of_eq (if_pos h)
  case trellisFrame =>
    intro counter credit fcsOk tagOk s h
    simp only [Ready.trellisFrame, Bool.and_eq_true, beq_iff_eq, decide_eq_true_eq] at h
    obtain ⟨⟨⟨⟨⟨hlink, hfcs⟩, htag⟩, hkeys⟩, hnext⟩, hlt⟩ := h
    refine done_of_eq ((if_neg (by simp [hlink])).trans ((if_neg (by simp [hnext])).trans (if_pos ?_)))
    simp only [Bool.and_eq_true, beq_iff_eq, decide_eq_true_eq]
    exact ⟨⟨⟨⟨hfcs, htag⟩, hkeys⟩, hnext⟩, hlt⟩
  case trellisFrame2 =>
    intro counter credit fcsOk tagOk s h
    obtain ⟨h, hbad⟩ := Bool.and_eq_true_iff.mp h
    obtain ⟨hlink, hreal⟩ := Bool.and_eq_true_iff.mp h
    exact done_of_eq ((if_neg (by simp [hlink])).trans ((if_neg (ne_true_of_not hreal)).trans (if_neg (ne_true_of_not hbad))))
  case hello =>
    intro body s h
    obtain ⟨hauth, hok⟩ := Bool.and_eq_true_iff.mp h
    exact done_of_eq ((if_neg (by simpa using hauth)).trans (if_neg (by simp [hok])))
  case proof =>
    intro body s h
    obtain ⟨hauth, hnone⟩ := Bool.and_eq_true_iff.mp h
    refine done_of_eq ((if_neg (by simpa using hauth)).trans ?_)
    rw [Option.isNone_iff_eq_none.mp hnone]
  case proof2 =>
    intro body s h ph hph hverify
    obtain ⟨h, -⟩ := Bool.and_eq_true_iff.mp h
    obtain ⟨hauth, hlen⟩ := Bool.and_eq_true_iff.mp h
    refine done_of_eq ((if_neg (by simpa using hauth)).trans ?_)
    rw [hph]
    exact if_pos ⟨beq_iff_eq.mp hlen, hverify⟩
  case handshakeRetry =>
    exact fun _ h => done_of_eq (if_pos h)
  case heartbeatSend =>
    exact fun s h => done_of_eq (if_neg (keys_isNone_false h))
  case heartbeat =>
    exact fun body s h => done_of_eq (if_neg (keys_isNone_false h))
  case heartbeatMissed =>
    exact fun s h => done_of_eq (if_neg (keys_isNone_false h))
  case leapComplete =>
    intro s h
    obtain ⟨hmode, hleaping⟩ := Bool.and_eq_true_iff.mp h
    refine done_of_eq ((if_neg (by simp [beq_iff_eq.mp hmode, hleaping])).trans ?_)
    by_cases hstale : s.leapRest.run.leapStale = true
    · simp only [if_pos hstale]
    · simp only [if_neg hstale]
  case ack =>
    exact fun counter refused s h => done_of_eq (congrArg State.landBatch (if_neg (keys_isNone_false h)))
  case syncBegin =>
    intro epoch s h
    simp only [Ready.syncBegin, Bool.and_eq_true, beq_iff_eq, decide_eq_true_eq] at h
    obtain ⟨⟨⟨⟨⟨hkeys, hmode⟩, htarget⟩, hst⟩, hlow⟩, hhigh⟩ := h
    refine done_of_eq ((if_neg (keys_isNone_false hkeys)).trans ((if_neg (by simp [hst])).trans (if_pos ?_)))
    simp [hmode, htarget, hst, hlow, hhigh]
  case syncBegin2 =>
    intro epoch s h
    obtain ⟨h, hbad⟩ := Bool.and_eq_true_iff.mp h
    obtain ⟨hkeys, hidle⟩ := Bool.and_eq_true_iff.mp h
    exact done_of_eq ((if_neg (keys_isNone_false hkeys)).trans ((if_neg (ne_true_of_not hidle)).trans (if_neg (ne_true_of_not hbad))))
  case syncBegin3 =>
    intro epoch s h
    obtain ⟨h, hfirst⟩ := Bool.and_eq_true_iff.mp h
    obtain ⟨h, hactive⟩ := Bool.and_eq_true_iff.mp h
    obtain ⟨hkeys, hst⟩ := Bool.and_eq_true_iff.mp h
    exact done_of_eq ((if_neg (keys_isNone_false hkeys)).trans
      ((if_pos (Bool.and_eq_true_iff.mpr ⟨hst, hactive⟩)).trans (if_pos hfirst)))
  case syncEnd =>
    intro s h v hv
    obtain ⟨hsyncing, -⟩ := Bool.and_eq_true_iff.mp h
    refine done_of_eq ((if_neg (by simp [hsyncing])).trans ?_)
    rewrite [hv]
    rfl
  case syncResult =>
    intro status detail s h
    obtain ⟨hst, hactive⟩ := Bool.and_eq_true_iff.mp h
    exact done_of_eq (if_neg (by simp [beq_iff_eq.mp hst, hactive]))
  case handover =>
    exact fun s h => done_of_eq ((if_neg (by simp [beq_iff_eq.mp h])).trans (if_pos h))
  case handover2 =>
    exact fun s h => done_of_eq (if_pos h)
  case handover4 =>
    exact fun s h => done_of_eq ((if_neg (by simp [beq_iff_eq.mp h])).trans ((if_neg (by simp [beq_iff_eq.mp h])).trans (if_pos h)))
  case handover3 =>
    intro s h
    simp only [Ready.handover3, Bool.and_eq_true, bne_iff_ne] at h
    obtain ⟨⟨htakeover, hstandby⟩, hactive⟩ := h
    exact done_of_eq ((if_neg (ne_true_of_not hactive)).trans ((if_neg (by simp [hstandby])).trans (if_neg (by simp [htakeover]))))
  case handoverTimeout =>
    exact fun s h => done_of_eq (if_pos h)
  case handoverDone =>
    exact fun ok s h => done_of_eq (if_pos h)
  case handoverDone2 =>
    intro ok s h
    simp only [Ready.handoverDone2, Bool.and_eq_true, Bool.not_eq_true'] at h
    obtain ⟨⟨hout, hasked⟩, hrefused⟩ := h
    exact done_of_eq ((if_neg (by simp [hout])).trans (if_pos (by simp [hasked, hrefused])))

end Sys2Proof.Machine
end

section
/-!
PROOFS. The messages of the twin (chapters 9 and 17): each row has its effect.
-/
namespace Sys2Proof.Machine

/-- On the standby, with session keys, a message of the twin commit reaches its handler. -/
theorem State.onStandby_of_standby {s : State} (hkeys : s.twin.keys.isSome = true) (hmode : s.mode.mode = .twinStandby) (handle : Nat)
    (f : State → State) : s.onStandby handle f = f s :=
  (if_neg (keys_isNone_false hkeys)).trans (if_pos (beq_iff_eq.mpr hmode))

/-- A message that needs the standby's tables has its effect where they are mirrored. -/
theorem if_applies {s t : State} (h : s.applies = true) : (if (!s.applies) = true then s else t) = t := if_neg (by simp [h])

/-- A PREPARE that the open vintage agrees with, past its checks, prepares it (R245). -/
theorem State.standbyPrepare_agrees {s : State} {handle ops : Nat} {digest : Word} {v : Vintage} (at_ : Option Nat)
    (hmode : s.mode.mode = .twinStandby) (hv : s.openVint = some v)
    (h : (v.handle == handle && v.ops == ops && v.digest == digest && !v.diverged && (s.commitCheck v).isNone) = true) :
    s.standbyPrepare handle ops digest at_ = (s.vintM fun v => { v with prepareSeen := true, at? := at_ }).commitSlot := by
  simp only [Bool.and_eq_true, beq_iff_eq, Bool.not_eq_true', Option.isNone_iff_eq_none] at h
  obtain ⟨⟨⟨⟨hhandle, hops⟩, hdigest⟩, hsame⟩, hcheck⟩ := h
  have hnamed : (s.openVint.filter fun (v : Vintage) => v.handle == handle) = some v := by simp [hv, hhandle]
  refine (if_neg (by simp [hmode])).trans ?_
  rw [hnamed]
  refine (if_neg (by simp [hops, hdigest])).trans ((if_neg (by simp [hsame])).trans ?_)
  rw [hcheck]

/-- A PREPARE for no open vintage, or one that differs in operations or digest, is refused (R246). -/
theorem State.standbyPrepare_differs {s : State} {handle ops : Nat} {digest : Word} (at_ : Option Nat)
    (hmode : s.mode.mode = .twinStandby)
    (h : ∀ v, s.openVint = some v → (v.handle == handle && (v.ops != ops || v.digest != digest)) = true) :
    s.standbyPrepare handle ops digest at_ = s.refuseVint handle 1 0 := by
  refine (if_neg (by simp [hmode])).trans ?_
  cases hv : s.openVint with
  | none => rfl
  | some v =>
    obtain ⟨hhandle, hother⟩ := Bool.and_eq_true_iff.mp (h v hv)
    have hnamed : ((some v).filter fun (v : Vintage) => v.handle == handle) = some v := by simp [beq_iff_eq.mp hhandle]
    rw [hnamed]
    exact if_pos (by simpa using hother)

/-- Settles O50: each message past its guards has the effect of its branch. -/
theorem twinMessageEventsRun : Obligations.TwinMessageEventsRun := by
  refine ⟨?vintageOpen, ?vintageOpen2, ?vintageStage, ?prepare, ?prepare2, ?prepare3, ?ready, ?refuse, ?vintageCommit,
    ?vintageAbort, ?number, ?window, ?context, ?context2, ?binding, ?sci, ?retire, ?port, ?mbx, ?mbxState, ?mbxState2,
    ?lockReq, ?lockResult, ?hairpin⟩
  case vintageOpen =>
    intro handle s h
    simp only [Ready.vintageOpen, Bool.and_eq_true, beq_iff_eq, decide_eq_true_eq] at h
    obtain ⟨⟨⟨⟨hkeys, hmode⟩, hnone⟩, hroom⟩, hnext⟩ := h
    refine done_of_eq ((State.onStandby_of_standby hkeys hmode _ _).trans ((if_neg (by simp [hmode])).trans (if_pos ?_)))
    simp only [Bool.and_eq_true, beq_iff_eq, decide_eq_true_eq]
    exact ⟨⟨hnone, hroom⟩, hnext⟩
  case vintageOpen2 =>
    intro handle s h
    obtain ⟨h, hbad⟩ := Bool.and_eq_true_iff.mp h
    obtain ⟨hkeys, hmode⟩ := Bool.and_eq_true_iff.mp h
    have hmode := beq_iff_eq.mp hmode
    exact done_of_eq ((State.onStandby_of_standby hkeys hmode _ _).trans
      ((if_neg (by simp [hmode])).trans (if_neg (ne_true_of_not hbad))))
  case vintageStage =>
    intro words s h
    simp only [Ready.vintageStage, Bool.and_eq_true, beq_iff_eq, Bool.not_eq_true'] at h
    obtain ⟨⟨⟨hkeys, hmode⟩, hopen⟩, hsync⟩ := h
    refine done_of_eq ((if_neg (by simp [hsync])).trans ((State.onStandby_of_standby hkeys hmode _ _).trans (if_neg ?_)))
    simpa [hmode, Option.isSome_iff_ne_none] using hopen
  case prepare =>
    intro handle ops digest at_ s h
    obtain ⟨h, hvint⟩ := Bool.and_eq_true_iff.mp h
    obtain ⟨hkeys, hmode⟩ := Bool.and_eq_true_iff.mp h
    have hmode := beq_iff_eq.mp hmode
    refine done_of_eq ((State.onStandby_of_standby hkeys hmode _ _).trans ?_)
    cases hv : s.openVint with
    | none => simp [hv] at hvint
    | some v =>
      rw [hv] at hvint
      exact State.standbyPrepare_agrees at_ hmode hv hvint
  case prepare2 =>
    intro handle ops digest at_ s h
    obtain ⟨h, hvint⟩ := Bool.and_eq_true_iff.mp h
    obtain ⟨hkeys, hmode⟩ := Bool.and_eq_true_iff.mp h
    have hmode := beq_iff_eq.mp hmode
    refine done_of_eq ((State.onStandby_of_standby hkeys hmode _ _).trans (State.standbyPrepare_differs at_ hmode fun v hv => ?_))
    rw [hv] at hvint
    exact hvint
  case prepare3 =>
    intro handle ops digest at_ s h
    obtain ⟨hkeys, hmode⟩ := Bool.and_eq_true_iff.mp h
    exact done_of_eq ((if_neg (keys_isNone_false hkeys)).trans (if_neg (by simpa using hmode)))
  case ready =>
    intro handle s h
    refine done_of_eq ?_
    unfold Ready.ready at h
    rw [State.activeReady]
    cases hv : s.vin.vint with
    | none => simp [hv] at h
    | some v =>
      rw [hv] at h
      exact if_pos h
  case refuse =>
    intro handle detail index s h v hv
    unfold Ready.refuse at h
    rw [hv] at h
    refine done_of_eq ?_
    rw [State.activeRefuse, hv]
    exact if_pos h
  case vintageCommit =>
    intro handle s h
    obtain ⟨h, hvint⟩ := Bool.and_eq_true_iff.mp h
    obtain ⟨hkeys, hmode⟩ := Bool.and_eq_true_iff.mp h
    refine done_of_eq ((State.onStandby_of_standby hkeys (beq_iff_eq.mp hmode) _ _).trans ?_)
    rw [State.standbyCommit]
    cases hv : s.vin.vint with
    | none => simp [hv] at hvint
    | some v =>
      rw [hv] at hvint
      exact if_pos hvint
  case vintageAbort =>
    intro handle s h
    obtain ⟨h, hvint⟩ := Bool.and_eq_true_iff.mp h
    obtain ⟨hkeys, hmode⟩ := Bool.and_eq_true_iff.mp h
    refine done_of_eq ((State.onStandby_of_standby hkeys (beq_iff_eq.mp hmode) _ _).trans ?_)
    rw [State.standbyAbort]
    cases hv : s.vin.vint with
    | none => simp [hv] at hvint
    | some v =>
      rw [hv] at hvint
      exact if_pos (Bool.and_eq_true_iff.mpr ⟨hmode, hvint⟩)
  case number =>
    intro k body s h
    exact done_of_eq (if_applies h)
  case window =>
    intro k body s h
    refine done_of_eq (if_neg ?_)
    rcases Bool.or_eq_true_iff.mp h with happlies | hactive <;> simp_all
  case context =>
    intro k body s h
    obtain ⟨happlies, hnone⟩ := Bool.and_eq_true_iff.mp h
    refine done_of_eq ((if_applies happlies).trans ?_)
    dsimp only
    rewrite [Option.isNone_iff_eq_none.mp hnone]
    rfl
  case context2 =>
    intro k body s h
    obtain ⟨happlies, hsome⟩ := Bool.and_eq_true_iff.mp h
    obtain ⟨r, hr⟩ := Option.isSome_iff_exists.mp hsome
    refine done_of_eq ((if_applies happlies).trans ?_)
    dsimp only
    rw [hr]
  case binding =>
    exact fun k body s h => done_of_eq (if_applies h)
  case sci =>
    exact fun k body s h => done_of_eq (if_applies h)
  case retire =>
    exact fun k body s h => done_of_eq (if_applies h)
  case port =>
    exact fun k body s h => done_of_eq (if_applies h)
  case mbx =>
    intro m msg s h
    obtain ⟨h, hempty⟩ := Bool.and_eq_true_iff.mp h
    obtain ⟨hpartner, hm⟩ := Bool.and_eq_true_iff.mp h
    simp only [Bool.or_eq_true, beq_iff_eq] at hm
    refine done_of_eq ((if_neg ?_).trans (if_pos hempty))
    rcases hm with rfl | rfl <;> simp [hpartner]
  case mbxState =>
    intro m code ack kind s h
    obtain ⟨hpartner, hm⟩ := Bool.and_eq_true_iff.mp h
    simp only [Bool.or_eq_true, beq_iff_eq] at hm
    exact done_of_eq ((if_neg (by simp [hpartner])).trans ((if_neg (by omega)).trans (if_pos hm)))
  case mbxState2 =>
    intro m code ack kind s h
    obtain ⟨hpartner, hm⟩ := Bool.and_eq_true_iff.mp h
    simp only [Bool.or_eq_true, beq_iff_eq] at hm
    exact done_of_eq ((if_neg (by simp [hpartner])).trans (if_pos hm))
  case lockReq =>
    intro lock op s h
    obtain ⟨hpartner, hlock⟩ := Bool.and_eq_true_iff.mp h
    exact done_of_eq (if_neg (by simp [hpartner, of_decide_eq_true hlock]))
  case lockResult =>
    intro lock op result owner s h t ht
    refine done_of_eq ?_
    rw [lockResult, ht]
  case hairpin =>
    intro frame s h
    obtain ⟨h, hdrain⟩ := Bool.and_eq_true_iff.mp h
    obtain ⟨h, hforwards⟩ := Bool.and_eq_true_iff.mp h
    obtain ⟨hkeys, hhairpin⟩ := Bool.and_eq_true_iff.mp h
    refine done_of_eq ((if_neg ?_).trans (if_pos (Bool.and_eq_true_iff.mpr ⟨hforwards, hdrain⟩)))
    simpa [hhairpin] using keys_isNone_false hkeys

end Sys2Proof.Machine
end

section
/-!
PROOFS. Time, snapshots, memory, power and background work (chapters 15, 19 to 22, 24 and 25): each row has its effect.
-/
namespace Sys2Proof.Machine

/-- Settles O51: the measurement that a PTP message answers is pending, and a gate list or snapshot that is due takes its branch. -/
theorem timeAndSnapshotEventsRun : Obligations.TimeAndSnapshotEventsRun := by
  refine ⟨?ptpSync, ?followUp, ?delayResp, ?pdelayResp, ?pdelayRespFollowUp, ?holdover, ?holdover2, ?gateBoundary,
    ?gateListSwitch, ?snapshotTick, ?snapshotDone⟩
  case ptpSync =>
    exact fun _ _ _ _ _ h => done_of_eq (if_pos h)
  case followUp =>
    intro d port msg s h q t2 c hsync
    unfold Ready.followUp at h
    rw [hsync] at h
    refine done_of_eq ?_
    rw [ptpFollowUp]
    rw [hsync]
    exact if_pos h
  case delayResp =>
    intro d port msg s h q t3 x hreq hoffset
    unfold Ready.delayResp at h
    rw [hreq] at h
    obtain ⟨hheard, -⟩ := Bool.and_eq_true_iff.mp h
    refine done_of_eq ?_
    rw [ptpDelayResp]
    rw [hreq]
    refine (if_pos hheard).trans ?_
    rw [hoffset]
  case pdelayResp =>
    intro d port msg stamp s h q t1 hreq
    unfold Ready.pdelayResp at h
    rw [hreq] at h
    refine done_of_eq ?_
    rw [ptpPdelayResp]
    rw [hreq]
    exact if_pos h
  case pdelayRespFollowUp =>
    intro d port msg s h q t1 r t4 rx c hreq hresp
    unfold Ready.pdelayRespFollowUp at h
    rw [hreq, hresp] at h
    refine done_of_eq ?_
    rw [ptpPdelayFollowUp]
    rw [hreq, hresp]
    exact if_pos h
  case holdover =>
    intro d s h
    simp only [Ready.holdover, Bool.and_eq_true, bne_iff_ne] at h
    obtain ⟨⟨hen, hservo⟩, hother⟩ := h
    exact done_of_eq ((if_neg (by simp [hen, hservo])).trans (if_neg fun hswitch => hother hswitch.1))
  case holdover2 =>
    intro d s h
    simp only [Ready.holdover2, Bool.and_eq_true, bne_iff_ne, beq_iff_eq, decide_eq_true_eq] at h
    obtain ⟨⟨hen, hservo⟩, ⟨⟨⟨hsource, hauto⟩, hon⟩, hlocked⟩, hnear⟩ := h
    exact done_of_eq ((if_neg (by simp [hen, hservo])).trans (if_pos ⟨hsource, hauto, hon, hlocked, hnear⟩))
  case gateBoundary =>
    exact fun _ _ h => done_of_eq (if_pos h)
  case gateListSwitch =>
    intro p s h l hl
    simp only [Ready.gateListSwitch, Bool.and_eq_true, Option.isNone_iff_eq_none, decide_eq_true_eq] at h
    obtain ⟨⟨-, hkept⟩, hdue⟩ := h
    refine done_of_eq ?_
    rw [gateListSwitch]
    rw [hl, hkept]
    exact if_pos hdue
  case snapshotTick =>
    intro s h
    simp only [Ready.snapshotTick, Bool.and_eq_true, beq_iff_eq, decide_eq_true_eq] at h
    obtain ⟨harmed, hdue⟩ := h
    exact done_of_eq (if_neg (by simp [harmed, hdue]))
  case snapshotDone =>
    exact fun s h => done_of_eq (if_neg (not_not_intro (beq_iff_eq.mp h)))

/-- Settles O52: a channel in service, a domain that may sleep or a slice that is ready is past the guards of its event. -/
theorem memoryAndPowerEventsRun : Obligations.MemoryAndPowerEventsRun := by
  refine ⟨?bwmWindowEnd, ?refreshDue, ?refreshMakeup, ?driftTrack, ?powerDownEntry, ?ddrThermalRead, ?patrolScrub,
    ?trainingDone, ?dozeEntry, ?deepEntry, ?wakeComplete, ?slicePolicy, ?slicePolicy2⟩
  case bwmWindowEnd =>
    exact fun node s h => done_of_eq (if_pos (of_decide_eq_true h))
  case refreshDue =>
    intro ch rank queued s h
    simp only [Ready.refreshDue, Bool.and_eq_true, beq_iff_eq, decide_eq_true_eq] at h
    obtain ⟨⟨hst, hrank⟩, howed⟩ := h
    refine done_of_eq ((if_neg ?_).trans (if_neg (Nat.not_le.mpr howed)))
    simp [hst, hrank]
  case refreshMakeup =>
    exact fun ch rank issued s h => done_of_eq (if_pos (beq_iff_eq.mp h))
  case driftTrack =>
    exact fun ch adjs s h => done_of_eq (if_neg (by simp [beq_iff_eq.mp h]))
  case powerDownEntry =>
    intro ch rank request s h
    simp only [Ready.powerDownEntry, Bool.and_eq_true, bne_iff_ne, beq_iff_eq, decide_eq_true_eq, Bool.not_eq_true'] at h
    obtain ⟨⟨⟨⟨hrequest, hns⟩, hst⟩, hrank⟩, hup⟩ := h
    exact done_of_eq (if_neg (by simp [hrequest, hns, hst, hrank, hup]))
  case ddrThermalRead =>
    exact fun _ _ => rfl
  case patrolScrub =>
    intro s h a ha
    simp only [Ready.patrolScrub, Bool.and_eq_true, beq_iff_eq] at h
    obtain ⟨⟨⟨hpatrol, hready⟩, hrun⟩, -⟩ := h
    refine done_of_eq ((if_neg (by simp [hpatrol, hready, hrun])).trans ?_)
    rw [ha]
  case trainingDone =>
    exact fun passed s h => done_of_eq (if_neg (bne_iff_ne.mp h))
  case dozeEntry =>
    exact fun _ _ _ _ h => done_of_eq (if_pos h)
  case deepEntry =>
    exact fun _ _ _ _ h => done_of_eq (if_pos h)
  case wakeComplete =>
    intro d ns s h
    have hwaking : s.pwr.waking.contains d = true := h
    exact done_of_eq (if_neg (by rw [hwaking]; decide))
  case slicePolicy =>
    intro s h k hk
    simp only [Ready.slicePolicy, Bool.and_eq_true, decide_eq_true_eq] at h
    obtain ⟨⟨hon, -⟩, hbusy⟩ := h
    refine done_of_eq ((if_neg (by simp [hon])).trans ?_)
    rw [hk]
    exact if_pos hbusy
  case slicePolicy2 =>
    intro s h k hk
    simp only [Ready.slicePolicy2, Bool.and_eq_true, decide_eq_true_eq] at h
    obtain ⟨⟨⟨hon, hidle⟩, hfloor⟩, -⟩ := h
    have hretires : s.slicePassed.policyRetire s.inService.length s.slicePasses =
        (s.slicePassed.retireSlice k .retiredPolicy).pwrM fun p => { p with counts := updAt p.counts 7 sat32 } := by
      refine (if_pos ⟨hidle, hfloor⟩).trans ?_
      rw [hk]
    refine done_of_eq ((if_neg (by simp [hon])).trans ?_)
    cases hready : s.slicePassed.readySlice with
    | none => exact congrArg State.powerCheck hretires
    | some j => exact (if_neg (by omega)).trans (congrArg State.powerCheck hretires)

/-- Settles O53: the work that each event ends is in hand; the TAP's edges are told apart by their number. -/
theorem completionEventsRun : Obligations.CompletionEventsRun := by
  refine ⟨?flushComplete, ?slewComplete, ?handshakeTimeout, ?fullMirrorSent, ?bookClearDone, ?diagMemTestDone, ?testAccessPort,
    ?msixVectorUnmask⟩
  case flushComplete =>
    intro p s h
    simp only [Ready.flushComplete, Bool.and_eq_true, beq_iff_eq, bne_iff_ne, decide_eq_true_eq] at h
    obtain ⟨⟨hp, hport⟩, hflush⟩ := h
    exact done_of_eq (if_pos ⟨hp, hport, hflush⟩)
  case slewComplete =>
    exact fun s h => done_of_eq (if_pos (of_decide_eq_true h))
  case handshakeTimeout =>
    exact fun s h => done_of_eq (if_pos h)
  case fullMirrorSent =>
    exact fun s h => done_of_eq (if_pos h)
  case bookClearDone =>
    exact fun s h => done_of_eq (if_neg (by simp [show s.book.clearing = true from h]))
  case diagMemTestDone =>
    intro s h t ht
    refine done_of_eq ?_
    rw [diagMemTestDone, ht]
    by_cases htcam : t.pkt.obj = 12
    · cases s.tcamDiffs <;> simp only [if_pos htcam]
    · simp only [if_neg htcam]
  case testAccessPort =>
    intro edge tms tdi s h
    refine done_of_eq ((if_neg (by simp [show s.coreUp = true from h])).trans ?_)
    match edge with
    | 0 => rfl
    | 1 => rfl
    | 2 => cases hheld : s.tap.trstN <;> rfl
    | n + 3 => cases hheld : s.tap.trstN <;> rfl
  case msixVectorUnmask =>
    exact fun vector s h => done_of_eq (if_neg (by simp [show s.barUp = true from h]))

end Sys2Proof.Machine
end
